-- ==== Sys2Proof/Word.lean ====
section
/-! DEFINITION. The plain types of numbers that every file uses (spec 00_scope.md section 3.1). -/

namespace Sys2Proof

/-- One byte on a port. -/
abbrev Byte := BitVec 8

/-- A record version: a 16-bit serial number, 65535 + 1 is 0 (00_scope.md section 3.3). -/
abbrev Version := BitVec 16

/-- A 48-bit tag identity; which values are valid is `toolIdValid`. -/
abbrev ToolId := Nat

/-- A station ID 1..250; 0 addresses all stations. -/
abbrev StationId := Nat

/-- A seek number 0..255, rolling. -/
abbrev SeekNo := Nat

/-- A pocket number 0..47; 48 is the gauge pocket (00_scope.md section 3.2). -/
abbrev PocketNo := Nat

end Sys2Proof
end

