-- ==== Sys2Proof/Config.lean ====
section
/-! DEFINITION. What a start loads from the configuration memory (R191), and the two free values the manual leaves open. -/

namespace Sys2Proof

/-- The bank kind of a module address (R25). -/
inductive BankKind where
  | crib | magazine
  deriving DecidableEq, Repr

/-- The mode of the attention output (R172). -/
inductive AttentionMode where
  | level | pulse
  deriving DecidableEq, Repr

/-- What a matching alarm entry asks for (R179). -/
inductive AlarmAction where
  | sweep | ageReview
  deriving DecidableEq, Repr

/-- A defined kind entry of the kind table (R191); an undefined kind has none. -/
structure KindEntry where
  unattended : Bool
  nominalLength : Nat
  tolLength : Nat
  nominalRadius : Nat
  tolRadius : Nat
  runoutLimit : Nat
  alpha : Nat
  bursts : Nat
  band : Nat
  fullLife : Nat
  reserve : Nat
  wearRate : Nat
  wearLimit : Nat
  ageLimit : Nat
  deriving DecidableEq, Repr

/-- An alarm entry (R179); `none` for the hour or the minute is ANY. -/
structure Alarm where
  enable : Bool
  hour : Option Nat
  minute : Option Nat
  weekdays : List Bool
  action : AlarmAction
  deriving DecidableEq, Repr

/-- The configuration as loaded, after the clamps of R191. `clamped` says that at least one clamp was made. -/
structure NodeConfig where
  station : StationId
  banks : List BankKind
  headFitted : Bool
  attention : AttentionMode
  mask : List Bool
  kinds : List (Option KindEntry)
  alarms : List Alarm
  clamped : Bool
  deriving DecidableEq, Repr

namespace Config

/-- FREE VALUE (log entry 2). Whether the age reviews of a minute event are taken before that event's ageing.
R14: "The review may be taken before this increment or after it." -/
opaque reviewFirst : Nat → Bool

/-- FREE VALUE (log entry 2). Whether, of two records whose versions are equal or exactly 32768 apart, the later one
of R121's list is the data source. R121 names "the record that carries that version" and does not say which when
several do. -/
opaque tiePick : Nat → Bool

end Config

end Sys2Proof
end

