-- ==== Sys2Proof/Syntax.lean ====
section
/-! DEFINITION. The commands of the node: one constructor of `Instr` for each row of spec/opcode_table.json, with what
the event carries. Operands are the values as they stand on the port; the checks of the rules act on them. -/

namespace Sys2Proof

/-- The reason of a LAPSE frame (R200). -/
inductive LapseReason where
  | withdrawn | tooLate | notYours | timeout
  deriving DecidableEq, Repr

/-- What a SEEK or a NEED asks for (R115): a kind or a tool. The numbers are as sent. -/
inductive Want where
  | kind (k : Nat)
  | tool (t : ToolId)
  deriving DecidableEq, Repr

/-- A Tool Data Record as it stands in a frame, its coded fields as sent (R201). -/
structure Tdr where
  tool : ToolId
  kind : Nat
  version : Version
  custodian : Nat
  custody : Nat
  destination : Nat
  condition : Nat
  reason : Nat
  flags : Byte
  cl : Nat
  cr : Nat
  runout : Nat
  presetStation : Nat
  presetAge : Nat
  life : Nat
  remainder : Nat
  used : Nat
  deriving DecidableEq, Repr

/-- The payload of an ANNOUNCE (R105, R200). -/
structure Announce where
  ramValid : Bool
  headFitted : Bool
  locks : Bool
  doors : Bool
  crib : Nat
  magazine : Nat
  nodeState : Nat
  deriving DecidableEq, Repr

/-- A module's report at the hunt (R26): capability flags, number of fitted lines, the lines whose door is OPEN. -/
structure ModuleReport where
  lock : Bool
  door : Bool
  indicator : Bool
  lines : Nat
  doorsOpen : List Bool
  deriving DecidableEq, Repr

/-- What a module's answer says of one line's door (R27, R28). -/
structure LineDoor where
  isOpen : Bool
  opened : Bool
  deriving DecidableEq, Repr

/-- The module's answer to the scanner's check of a pending press (R39 step 2). -/
inductive PressAnswer where
  | latched | notLatched | noAnswer
  deriving DecidableEq, Repr

/-- How a read attempt ends (R50). -/
inductive AttemptResult where
  | tag (tool : ToolId) (kind : Nat)
  | noTag
  | fail
  deriving DecidableEq, Repr

/-- A command of the node, one constructor per row of spec/opcode_table.json in the table's order. `key` is the level
of the supervisor key input at the moment the command reads it (R38, section 8.10). -/
inductive Instr where
  | powerOn
  | resetInput
  | backupLatchSet
  | configRead (image : Option (List Byte))
  | huntProbe (answer : Option ModuleReport)
  | joinTimerExpiry
  | secondEvent (low : Bool)
  | moduleSilent (addr : Nat)
  | moduleReturn (addr : Nat) (doors : List LineDoor)
  | moduleChanged (addr : Nat)
  | lockFault (p : PocketNo)
  | latchPositionReached (p : PocketNo)
  | doorOpening (p : PocketNo)
  | doorClosing (p : PocketNo)
  | pressReported (p : PocketNo)
  | pressServed (answer : PressAnswer) (key : Bool)
  | pocketTimerExpiry (p : PocketNo)
  | readAttemptEnd (result : AttemptResult)
  | attentionPulseEnd
  | headMessageDiscarded (bytes : List Byte)
  | headTag (tool : ToolId) (kind : Nat)
  | headTagGone
  | burstStart (n : Nat) (edge : Bool) (temperature : Option Int)
  | sample (index : Nat) (z : Int) (x : Int) (valid : Bool)
  | burstEnd
  | resultSent
  | frameDiscarded (bytes : List Byte)
  | idConflict
  | announceReceived (dst : StationId) (src : StationId) (a : Announce)
  | seekReceived (src : StationId) (seek : SeekNo) (want : Want) (mode : Nat) (minLife : Nat)
  | offerReceived (src : StationId) (seek : SeekNo) (tdr : Tdr)
  | takeReceived (src : StationId) (seek : SeekNo)
  | lapseReceived (src : StationId) (seek : SeekNo) (reason : LapseReason)
  | releasedReceived (src : StationId) (seek : SeekNo) (tdr : Tdr)
  | receivedFrame (src : StationId) (seek : SeekNo) (tool : ToolId) (version : Version)
  | recordReceived (src : StationId) (tdr : Tdr)
  | whereisReceived (src : StationId) (tool : ToolId)
  | sendAttempt
  | attemptSent
  | attemptCollided
  | backoffExpiry
  | windowTimerExpiry (seek : SeekNo)
  | deadlineExpiry (seek : SeekNo)
  | holdTimerExpiry (seeker : StationId) (seek : SeekNo)
  | releaseTimerExpiry (seeker : StationId) (seek : SeekNo)
  | awayTimerExpiry (tool : ToolId)
  | transitTimerExpiry (tool : ToolId)
  | transitCheckExpiry (tool : ToolId)
  | claimWindowExpiry (tool : ToolId)
  | status
  | clear
  | need (p : PocketNo) (wantType : Nat) (want : Nat) (mode : Nat) (minLife : Nat)
  | cancel (p : PocketNo)
  | stage (p : PocketNo)
  | commit (p : PocketNo) (token : Nat)
  | use (p : PocketNo) (seconds : Nat)
  | free (p : PocketNo)
  | notices
  | tool (selector : Nat) (arg : Nat) (action : Nat)
  | toolWithhold (selector : Nat) (arg : Nat) (key : Bool)
  | toolRelease (selector : Nat) (arg : Nat) (key : Bool)
  | sweep
  | sweepstat
  | hold (p : PocketNo) (key : Bool)
  | unhold (p : PocketNo) (key : Bool)
  | forget (tool : ToolId) (key : Bool)
  | setclock (year month day hour minute second : Nat) (key : Bool)
  | unknownCommand (code : Nat) (payload : List Byte)
  | commandCheckFail
  | commandOverrun
  | replySent
  | mainPowerLoss
  | attentionReleaseIntervalEnd
  deriving DecidableEq, Repr

end Sys2Proof
end

