-- ==== Sys2Proof/WellFormed.lean ====
section
/-! DEFINITION. Which commands are well formed: each operand fits the field that carries it on its port (chapter 12) or the range the
manual gives the event. A value that fits its field but fails a rule's check is well formed; the rule answers it. -/

namespace Sys2Proof

/-- R2, R65: a tool ID of 48 bits that is not 0 and not all-ones. -/
def toolIdValid (t : ToolId) : Bool := decide (0 < t) && decide (t < 281474976710655)

/-- The value fits a field of n bytes. -/
def fits (n v : Nat) : Bool := decide (v < 256 ^ n)

/-- The signed value fits a two's complement field of n bytes. -/
def fitsSigned (n : Nat) (v : Int) : Bool :=
  decide (-(256 ^ n : Int) ≤ 2 * v) && decide (2 * v < (256 ^ n : Int))

/-- Every field of the TDR fits its bytes (R201). -/
def Tdr.wf (t : Tdr) : Bool :=
  fits 6 t.tool && fits 1 t.kind && fits 1 t.custodian && fits 1 t.custody && fits 1 t.destination &&
  fits 1 t.condition && fits 1 t.reason && fits 4 t.cl && fits 4 t.cr && fits 4 t.runout &&
  fits 1 t.presetStation && fits 2 t.presetAge && fits 2 t.life && fits 1 t.remainder && fits 2 t.used

/-- R105, R200: two counts and a node state of one byte each. -/
def Announce.wf (a : Announce) : Bool := fits 1 a.crib && fits 1 a.magazine && fits 1 a.nodeState

/-- R115, R200: the want fits its six bytes. -/
def Want.wf : Want → Bool
  | .kind k => fits 6 k
  | .tool t => fits 6 t

/-- R90: the source of a frame that has passed R91 lies in 1..250. -/
def sourceWf (s : StationId) : Bool := decide (1 ≤ s) && decide (s ≤ 250)

/-- A pocket of a module, 0..47 (00_scope.md section 3.2). -/
def modulePocketWf (p : PocketNo) : Bool := decide (p < 48)

/-- A module address 0..5. -/
def addrWf (a : Nat) : Bool := decide (a < 6)

/-- R202: the payload length of a known command code. -/
def commandLength : Nat → Option Nat
  | 0x10 | 0x11 | 0x18 | 0x1A | 0x1B => some 0
  | 0x13 | 0x14 | 0x17 | 0x1C | 0x1D => some 1
  | 0x15 => some 2
  | 0x16 => some 3
  | 0x1E => some 6
  | 0x1F => some 7
  | 0x19 => some 8
  | 0x12 => some 11
  | _ => none

/-- Well-formedness of a command. -/
def Instr.wf : Instr → Bool
  | .powerOn => true
  | .resetInput => true
  | .backupLatchSet => true
  | .configRead _ => true
  | .huntProbe none => true
  | .huntProbe (some r) => fits 1 r.lines && decide (r.doorsOpen.length ≤ 8)
  | .joinTimerExpiry => true
  | .secondEvent _ => true
  | .moduleSilent a => addrWf a
  | .moduleReturn a doors => addrWf a && decide (doors.length ≤ 8)
  | .moduleChanged a => addrWf a
  | .lockFault p => modulePocketWf p
  | .latchPositionReached p => modulePocketWf p
  | .doorOpening p => modulePocketWf p
  | .doorClosing p => modulePocketWf p
  | .pressReported p => modulePocketWf p
  | .pressServed _ _ => true
  | .pocketTimerExpiry p => modulePocketWf p
  | .readAttemptEnd (.tag t k) => fits 6 t && decide (k < 64)
  | .readAttemptEnd .noTag => true
  | .readAttemptEnd .fail => true
  | .attentionPulseEnd => true
  | .headMessageDiscarded _ => true
  | .headTag t k => fits 6 t && fits 1 k
  | .headTagGone => true
  | .burstStart n _ none => fits 1 n
  | .burstStart n _ (some t) => fits 1 n && fitsSigned 2 t && decide (t ≠ -32768)
  | .sample i z x _ => fits 1 i && fitsSigned 4 z && fitsSigned 4 x
  | .burstEnd => true
  | .resultSent => true
  | .frameDiscarded _ => true
  | .idConflict => true
  | .announceReceived dst src a => fits 1 dst && sourceWf src && a.wf
  | .seekReceived src n w m l => sourceWf src && fits 1 n && w.wf && fits 1 m && fits 2 l
  | .offerReceived src n t => sourceWf src && fits 1 n && t.wf
  | .takeReceived src n => sourceWf src && fits 1 n
  | .lapseReceived src n _ => sourceWf src && fits 1 n
  | .releasedReceived src n t => sourceWf src && fits 1 n && t.wf
  | .receivedFrame src n t _ => sourceWf src && fits 1 n && fits 6 t
  | .recordReceived src t => sourceWf src && t.wf
  | .whereisReceived src t => sourceWf src && fits 6 t
  | .sendAttempt => true
  | .attemptSent => true
  | .attemptCollided => true
  | .backoffExpiry => true
  | .windowTimerExpiry n => fits 1 n
  | .deadlineExpiry n => fits 1 n
  | .holdTimerExpiry s n => sourceWf s && fits 1 n
  | .releaseTimerExpiry s n => sourceWf s && fits 1 n
  | .awayTimerExpiry t => toolIdValid t
  | .transitTimerExpiry t => toolIdValid t
  | .transitCheckExpiry t => toolIdValid t
  | .claimWindowExpiry t => toolIdValid t
  | .status => true
  | .clear => true
  | .need p wt w m l => fits 1 p && fits 1 wt && fits 6 w && fits 1 m && fits 2 l
  | .cancel p => fits 1 p
  | .stage p => fits 1 p
  | .commit p t => fits 1 p && fits 1 t
  | .use p s => fits 1 p && fits 2 s
  | .free p => fits 1 p
  | .notices => true
  | .tool sel arg act => fits 1 sel && fits 6 arg && fits 1 act && decide (act ≠ 1) && decide (act ≠ 2)
  | .toolWithhold sel arg _ => fits 1 sel && fits 6 arg
  | .toolRelease sel arg _ => fits 1 sel && fits 6 arg
  | .sweep => true
  | .sweepstat => true
  | .hold p _ => fits 1 p
  | .unhold p _ => fits 1 p
  | .forget t _ => fits 6 t
  | .setclock y mo d h mi s _ => fits 2 y && fits 1 mo && fits 1 d && fits 1 h && fits 1 mi && fits 1 s
  | .unknownCommand c payload =>
    fits 1 c && decide (payload.length < 255) && !decide (commandLength c = some payload.length)
  | .commandCheckFail => true
  | .commandOverrun => true
  | .replySent => true
  | .mainPowerLoss => true
  | .attentionReleaseIntervalEnd => true

end Sys2Proof
end

