-- ==== Sys2Proof/Decode.lean ====
section
/-! DEFINITION. The byte layouts of chapter 12 on the receiving side: the check (R199), the hall-line frame (R91, R200), the TDR (R201), the
station-link command (R153, R202), the head-port message (R65, R203) and the configuration image (R190, R191, R204); which command of the
table a received byte sequence becomes, and the bytes that stand for a command of these three ports. -/

namespace Sys2Proof

/-! ### Bytes and the check (R199) -/

/-- An unsigned number in n bytes, most significant byte first (00_scope.md section 3.4). -/
def be : Nat → Nat → List Byte
  | 0, _ => []
  | n + 1, v => BitVec.ofNat 8 (v / 256 ^ n) :: be n v

/-- The number that bytes spell, most significant byte first. -/
def ofBe (l : List Byte) : Nat := l.foldl (fun n b => n * 256 + b.toNat) 0

/-- R199: a signed number in n bytes, two's complement. -/
def beSigned (n : Nat) (v : Int) : List Byte := be n (v % (256 ^ n : Nat)).toNat

/-- R199: the signed number that n bytes spell. -/
def signedOf (n v : Nat) : Int := if 2 * v < 256 ^ n then (v : Int) else (v : Int) - (256 ^ n : Nat)

/-- The field of n bytes at an offset. -/
def field (off n : Nat) (l : List Byte) : Nat := ofBe ((l.drop off).take n)

/-- R199: one bit enters the check. -/
def crcBit (c : BitVec 16) (b : Bool) : BitVec 16 :=
  if c.getMsbD 0 != b then (c <<< 1) ^^^ 0x1021#16 else c <<< 1

/-- R199: one byte enters the check, most significant bit first. -/
def crcByte (c : BitVec 16) (b : Byte) : BitVec 16 :=
  (List.range 8).foldl (fun c i => crcBit c (b.getMsbD i)) c

/-- R199: the check over bytes. -/
def crc16 (l : List Byte) : BitVec 16 := l.foldl crcByte 0xFFFF#16

/-- Bytes with their check after them, most significant byte first. -/
def withCheck (l : List Byte) : List Byte := l ++ be 2 (crc16 l).toNat

/-- R199: the bytes before a check that agrees. -/
def checked (l : List Byte) : Option (List Byte) :=
  let body := l.take (l.length - 2)
  if 2 ≤ l.length ∧ ofBe (l.drop (l.length - 2)) = (crc16 body).toNat then some body else none

/-- A byte's bits from flags, bit 0 first. -/
def flagByte (l : List Bool) : Nat := l.foldr (fun b n => 2 * n + b.toNat) 0

/-! ### The TDR (R201) -/

/-- R201: the 35 bytes of a TDR. -/
def Tdr.encode (t : Tdr) : List Byte :=
  be 6 t.tool ++ be 1 t.kind ++ be 2 t.version.toNat ++ be 1 t.custodian ++ be 1 t.custody ++ be 1 t.destination ++
    be 1 t.condition ++ be 1 t.reason ++ be 1 t.flags.toNat ++ be 4 t.cl ++ be 4 t.cr ++ be 4 t.runout ++
    be 1 t.presetStation ++ be 2 t.presetAge ++ be 2 t.life ++ be 1 t.remainder ++ be 2 t.used

/-- R201: the TDR that 35 bytes spell. -/
def Tdr.decode (l : List Byte) : Tdr :=
  { tool := field 0 6 l, kind := field 6 1 l, version := BitVec.ofNat 16 (field 7 2 l), custodian := field 9 1 l,
    custody := field 10 1 l, destination := field 11 1 l, condition := field 12 1 l, reason := field 13 1 l,
    flags := BitVec.ofNat 8 (field 14 1 l), cl := field 15 4 l, cr := field 19 4 l, runout := field 23 4 l,
    presetStation := field 27 1 l, presetAge := field 28 2 l, life := field 30 2 l, remainder := field 32 1 l,
    used := field 33 2 l }

/-! ### Hall-line frames (R91, R200) -/

/-- R200: the reason codes of LAPSE. -/
def lapseCode : LapseReason → Nat
  | .withdrawn => 1
  | .tooLate => 2
  | .notYours => 3
  | .timeout => 4

/-- R200: the reason of a LAPSE, when it has one of the codes. -/
def lapseOfCode : Nat → Option LapseReason
  | 1 => some .withdrawn
  | 2 => some .tooLate
  | 3 => some .notYours
  | 4 => some .timeout
  | _ => none

/-- R200: the want type. -/
def Want.code : Want → Nat
  | .kind _ => 0
  | .tool _ => 1

/-- R200: the number of a want. -/
def Want.value : Want → Nat
  | .kind k => k
  | .tool t => t

/-- R200: the want of a SEEK, when its type is one of the two. DESIGN CHOICE (log entry 54): the six bytes of a kind are read as
one number, so that one whose upper five bytes are not 0 is no kind of any table. -/
def wantOfType (type w : Nat) : Option Want :=
  match type with
  | 0 => some (.kind w)
  | 1 => some (.tool w)
  | _ => none

/-- R200: the flags of an ANNOUNCE. -/
def Announce.flags (a : Announce) : Nat := flagByte [a.ramValid, a.headFitted, a.locks, a.doors]

/-- R200: the 4 bytes of an ANNOUNCE. -/
def Announce.encode (a : Announce) : List Byte := be 1 a.flags ++ be 1 a.crib ++ be 1 a.magazine ++ be 1 a.nodeState

/-- R200: the ANNOUNCE that 4 bytes spell. -/
def Announce.decode (l : List Byte) : Announce :=
  { ramValid := (field 0 1 l).testBit 0, headFitted := (field 0 1 l).testBit 1, locks := (field 0 1 l).testBit 2,
    doors := (field 0 1 l).testBit 3, crib := field 1 1 l, magazine := field 2 1 l, nodeState := field 3 1 l }

/-- R200: the length of a kind's payload. -/
def hallLength : Nat → Option Nat
  | 1 => some 4
  | 2 => some 11
  | 3 => some 36
  | 4 => some 1
  | 5 => some 2
  | 6 => some 36
  | 7 => some 9
  | 8 => some 35
  | 9 => some 6
  | _ => none

/-- R90: the broadcast kinds ANNOUNCE, SEEK, RECORD and WHEREIS. -/
def broadcastKind (kind : Nat) : Bool := kind == 1 || kind == 2 || kind == 8 || kind == 9

/-- R200: the command of a frame with the kind and a payload of the kind's length; none for a want type or a reason
outside its codes. -/
def hallDeliver (dst src kind : Nat) (l : List Byte) : Option Instr :=
  match kind with
  | 1 => some (.announceReceived dst src (Announce.decode l))
  | 2 => (wantOfType (field 1 1 l) (field 2 6 l)).map (fun w =>
      .seekReceived src (field 0 1 l) w (field 8 1 l) (field 9 2 l))
  | 3 => some (.offerReceived src (field 0 1 l) (Tdr.decode (l.drop 1)))
  | 4 => some (.takeReceived src (field 0 1 l))
  | 5 => (lapseOfCode (field 1 1 l)).map (.lapseReceived src (field 0 1 l))
  | 6 => some (.releasedReceived src (field 0 1 l) (Tdr.decode (l.drop 1)))
  | 7 => some (.receivedFrame src (field 0 1 l) (field 1 6 l) (BitVec.ofNat 16 (field 7 2 l)))
  | 8 => some (.recordReceived src (Tdr.decode l))
  | 9 => some (.whereisReceived src (field 0 6 l))
  | _ => none

/-- R91: the destination and source tests on a frame of good form that delivers i. -/
def hallRoute (own dst src kind : Nat) (frame : List Byte) (i : Instr) : Instr :=
  if src = own then .idConflict
  else if dst = own ∨ dst = 0 then
    if broadcastKind kind = false ∧ dst = 0 then .frameDiscarded frame else i
  else .frameDiscarded frame

/-- R91: the tests of a frame's form, then its route. `l` is the frame before its check. -/
def hallForm (own : Nat) (frame l : List Byte) : Instr :=
  let dst := field 0 1 l
  let src := field 1 1 l
  let kind := field 2 1 l
  let n := field 3 1 l
  if 4 ≤ l.length ∧ hallLength kind = some n ∧ l.length = 4 + n ∧ 1 ≤ src ∧ src ≤ 250 then
    match hallDeliver dst src kind (l.drop 4) with
    | some i => hallRoute own dst src kind frame i
    | none => .frameDiscarded frame
  else .frameDiscarded frame

/-- R91: the command that a frame on the line becomes at the node with ID own; its own readback is not among them. -/
def hallCommand (own : StationId) (frame : List Byte) : Instr :=
  match checked frame with
  | some l => hallForm own frame l
  | none => .frameDiscarded frame

/-- R200: a frame with its header and check. -/
def hallFrame (dst src kind : Nat) (payload : List Byte) : List Byte :=
  withCheck (be 1 dst ++ be 1 src ++ be 1 kind ++ be 1 payload.length ++ payload)

/-- R200: the frame that brings a command of the hall line to the node with ID own; none for the other commands. -/
def encodeHall (own : StationId) : Instr → Option (List Byte)
  | .announceReceived dst src a => some (hallFrame dst src 1 a.encode)
  | .seekReceived src n w m l =>
    some (hallFrame 0 src 2 (be 1 n ++ be 1 w.code ++ be 6 w.value ++ be 1 m ++ be 2 l))
  | .offerReceived src n t => some (hallFrame own src 3 (be 1 n ++ t.encode))
  | .takeReceived src n => some (hallFrame own src 4 (be 1 n))
  | .lapseReceived src n r => some (hallFrame own src 5 (be 1 n ++ be 1 (lapseCode r)))
  | .releasedReceived src n t => some (hallFrame own src 6 (be 1 n ++ t.encode))
  | .receivedFrame src n t v => some (hallFrame own src 7 (be 1 n ++ be 6 t ++ be 2 v.toNat))
  | .recordReceived src t => some (hallFrame 0 src 8 t.encode)
  | .whereisReceived src t => some (hallFrame 0 src 9 (be 6 t))
  | _ => none

/-! ### Station-link commands (R153, R202) -/

/-- R202: the command with the code and a payload of the code's length. `key` is the level of the key input. -/
def linkDeliver (key : Bool) (code : Nat) (l : List Byte) : Instr :=
  match code with
  | 0x10 => .status
  | 0x11 => .clear
  | 0x12 => .need (field 0 1 l) (field 1 1 l) (field 2 6 l) (field 8 1 l) (field 9 2 l)
  | 0x13 => .cancel (field 0 1 l)
  | 0x14 => .stage (field 0 1 l)
  | 0x15 => .commit (field 0 1 l) (field 1 1 l)
  | 0x16 => .use (field 0 1 l) (field 1 2 l)
  | 0x17 => .free (field 0 1 l)
  | 0x18 => .notices
  | 0x19 =>
    if field 7 1 l = 1 then .toolWithhold (field 0 1 l) (field 1 6 l) key
    else if field 7 1 l = 2 then .toolRelease (field 0 1 l) (field 1 6 l) key
    else .tool (field 0 1 l) (field 1 6 l) (field 7 1 l)
  | 0x1A => .sweep
  | 0x1B => .sweepstat
  | 0x1C => .hold (field 0 1 l) key
  | 0x1D => .unhold (field 0 1 l) key
  | 0x1E => .forget (field 0 6 l) key
  | 0x1F =>
    .setclock (field 0 2 l) (field 2 1 l) (field 3 1 l) (field 4 1 l) (field 5 1 l) (field 6 1 l) key
  | _ => .unknownCommand code l

/-- R153, R155, R202: the command that a frame on the station link becomes when the receiver is free. DESIGN CHOICE (log
entry 53): a frame with length 0, which holds no command code, is one that fails its check. -/
def linkCommand (key : Bool) (frame : List Byte) : Instr :=
  match checked (frame.drop 1) with
  | some l =>
    if field 0 1 frame = 0xA5 ∧ 2 ≤ l.length ∧ l.length = field 0 1 l + 1 then
      let code := field 1 1 l
      let payload := l.drop 2
      if commandLength code = some payload.length then linkDeliver key code payload else .unknownCommand code payload
    else .commandCheckFail
  | none => .commandCheckFail

/-- R202: a command frame. -/
def linkFrame (code : Nat) (payload : List Byte) : List Byte :=
  be 1 0xA5 ++ withCheck (be 1 (payload.length + 1) ++ be 1 code ++ payload)

/-- R202: the frame of a station-link command; none for the other commands. -/
def encodeLink : Instr → Option (List Byte)
  | .status => some (linkFrame 0x10 [])
  | .clear => some (linkFrame 0x11 [])
  | .need p wt w m l => some (linkFrame 0x12 (be 1 p ++ be 1 wt ++ be 6 w ++ be 1 m ++ be 2 l))
  | .cancel p => some (linkFrame 0x13 (be 1 p))
  | .stage p => some (linkFrame 0x14 (be 1 p))
  | .commit p t => some (linkFrame 0x15 (be 1 p ++ be 1 t))
  | .use p s => some (linkFrame 0x16 (be 1 p ++ be 2 s))
  | .free p => some (linkFrame 0x17 (be 1 p))
  | .notices => some (linkFrame 0x18 [])
  | .tool sel arg act => some (linkFrame 0x19 (be 1 sel ++ be 6 arg ++ be 1 act))
  | .toolWithhold sel arg _ => some (linkFrame 0x19 (be 1 sel ++ be 6 arg ++ be 1 1))
  | .toolRelease sel arg _ => some (linkFrame 0x19 (be 1 sel ++ be 6 arg ++ be 1 2))
  | .sweep => some (linkFrame 0x1A [])
  | .sweepstat => some (linkFrame 0x1B [])
  | .hold p _ => some (linkFrame 0x1C (be 1 p))
  | .unhold p _ => some (linkFrame 0x1D (be 1 p))
  | .forget t _ => some (linkFrame 0x1E (be 6 t))
  | .setclock y mo d h mi s _ => some (linkFrame 0x1F (be 2 y ++ be 1 mo ++ be 1 d ++ be 1 h ++ be 1 mi ++ be 1 s))
  | .unknownCommand c payload => some (linkFrame c payload)
  | _ => none

/-- The level of the key input that a command carries, false for a command that reads no key. -/
def Instr.key : Instr → Bool
  | .toolWithhold _ _ k | .toolRelease _ _ k | .hold _ k | .unhold _ k | .forget _ k => k
  | .setclock _ _ _ _ _ _ k => k
  | _ => false

/-! ### Head-port messages (R65, R203) -/

/-- R203: the length of a message type's payload. -/
def headLength : Nat → Option Nat
  | 1 => some 7
  | 2 => some 0
  | 3 => some 4
  | 4 => some 10
  | 5 => some 0
  | _ => none

/-- R203: the temperature of BURST_START, 0x8000 for none. -/
def temperatureOf (v : Nat) : Option Int := if v = 0x8000 then none else some (signedOf 2 v)

/-- R203: the temperature field of BURST_START. -/
def temperatureField : Option Int → List Byte
  | none => be 2 0x8000
  | some t => beSigned 2 t

/-- R203: the command of a message with the type and a payload of the type's length. -/
def headDeliver (type : Nat) (l : List Byte) : Option Instr :=
  match type with
  | 1 => some (.headTag (field 0 6 l) (field 6 1 l))
  | 2 => some .headTagGone
  | 3 => some (.burstStart (field 0 1 l) ((field 1 1 l).testBit 0) (temperatureOf (field 2 2 l)))
  | 4 => some (.sample (field 0 1 l) (signedOf 4 (field 1 4 l)) (signedOf 4 (field 5 4 l)) ((field 9 1 l).testBit 0))
  | 5 => some .burstEnd
  | _ => none

/-- R65, R203: the command that a message on the head port becomes. -/
def headCommand (m : List Byte) : Instr :=
  match checked (m.drop 1) with
  | some l =>
    if field 0 1 m = 0x5A ∧ 2 ≤ l.length ∧ l.length = field 1 1 l + 2 ∧ headLength (field 0 1 l) = some (field 1 1 l) then
      match headDeliver (field 0 1 l) (l.drop 2) with
      | some i => i
      | none => .headMessageDiscarded m
    else .headMessageDiscarded m
  | none => .headMessageDiscarded m

/-- R203: a head-port message. -/
def headMessage (type : Nat) (payload : List Byte) : List Byte :=
  be 1 0x5A ++ withCheck (be 1 type ++ be 1 payload.length ++ payload)

/-- R203: the message of a head-port command; none for the other commands. -/
def encodeHead : Instr → Option (List Byte)
  | .headTag t k => some (headMessage 1 (be 6 t ++ be 1 k))
  | .headTagGone => some (headMessage 2 [])
  | .burstStart n edge temperature => some (headMessage 3 (be 1 n ++ be 1 edge.toNat ++ temperatureField temperature))
  | .sample i z x v => some (headMessage 4 (be 1 i ++ beSigned 4 z ++ beSigned 4 x ++ be 1 v.toNat))
  | .burstEnd => some (headMessage 5 [])
  | _ => none

/-! ### The configuration image (R190, R191, R204) -/

/-- R204: the fields of a kind entry as they stand in its 38 bytes. -/
def rawKind (l : List Byte) : KindEntry :=
  { unattended := (field 0 1 l).testBit 1, nominalLength := field 1 4 l, tolLength := field 5 4 l,
    nominalRadius := field 9 4 l, tolRadius := field 13 4 l, runoutLimit := field 17 4 l, alpha := field 21 2 l,
    bursts := field 23 1 l, band := field 24 2 l, fullLife := field 26 2 l, reserve := field 28 2 l,
    wearRate := field 30 2 l, wearLimit := field 32 4 l, ageLimit := field 36 2 l }

/-- R191: the fields of a kind entry brought into their ranges. -/
def clampKind (k : KindEntry) : KindEntry :=
  { k with nominalLength := min k.nominalLength 6000000, tolLength := min k.tolLength 6000000,
           nominalRadius := min k.nominalRadius 1250000, tolRadius := min k.tolRadius 1250000,
           runoutLimit := min k.runoutLimit 1250000, alpha := min k.alpha 3000,
           bursts := max 1 (min k.bursts 2), reserve := min k.reserve k.fullLife,
           wearLimit := min k.wearLimit 6000000 }

/-- R191, R204: a kind entry; an entry whose defined flag is clear is neither loaded nor tested. -/
def loadKind (l : List Byte) : Option KindEntry :=
  if (field 0 1 l).testBit 0 then some (clampKind (rawKind l)) else none

/-- R191: a clamp was made in the kind entry. -/
def kindClamped (l : List Byte) : Bool := (field 0 1 l).testBit 0 && !decide (clampKind (rawKind l) = rawKind l)

/-- R191, R204: an hour or a minute of an alarm entry, 0xFF for ANY; above its last value it is taken as that. -/
def loadAny (top v : Nat) : Option Nat := if v = 0xFF then none else some (min v top)

/-- R191: the value of an hour or minute is out of range. -/
def anyClamped (top v : Nat) : Bool := !decide (v = 0xFF) && decide (top < v)

/-- R191, R204: an alarm entry of 5 bytes; one with an undefined action is taken with enable off. -/
def loadAlarm (l : List Byte) : Alarm :=
  { enable := (field 0 1 l).testBit 0 && decide (field 4 1 l ≤ 1), hour := loadAny 23 (field 1 1 l),
    minute := loadAny 59 (field 2 1 l), weekdays := (List.range 7).map (fun d => (field 3 1 l).testBit d),
    action := if field 4 1 l = 1 then .ageReview else .sweep }

/-- R191: a clamp was made in the alarm entry. -/
def alarmClamped (l : List Byte) : Bool :=
  anyClamped 23 (field 1 1 l) || anyClamped 59 (field 2 1 l) || decide (1 < field 4 1 l)

/-- R191, R204: a bank kind code. -/
def loadBank (v : Nat) : BankKind := if v = 1 then .magazine else .crib

/-- R191, R204: an attention mode code. -/
def loadAttention (v : Nat) : AttentionMode := if v = 1 then .pulse else .level

/-- R204: the bytes of kind entry k. -/
def kindBytes (l : List Byte) (k : Nat) : List Byte := (l.drop (13 + 38 * k)).take 38

/-- R204: the bytes of alarm entry k. -/
def alarmBytes (l : List Byte) (k : Nat) : List Byte := (l.drop (2445 + 5 * k)).take 5

/-- R191: at least one field of the image was clamped. -/
def imageClamped (l : List Byte) : Bool :=
  (List.range 6).any (fun a => decide (1 < field (3 + a) 1 l)) || decide (1 < field 10 1 l) ||
    (List.range 64).any (fun k => kindClamped (kindBytes l k)) ||
    (List.range 4).any (fun k => alarmClamped (alarmBytes l k))

/-- R191, R204: the fields of an accepted image, loaded with the clamps. -/
def loadImage (l : List Byte) : NodeConfig :=
  { station := field 2 1 l, banks := (List.range 6).map (fun a => loadBank (field (3 + a) 1 l)),
    headFitted := decide (field 9 1 l ≠ 0), attention := loadAttention (field 10 1 l),
    mask := (List.range 9).map (fun k => (field 11 2 l).testBit k),
    kinds := (List.range 64).map (fun k => loadKind (kindBytes l k)),
    alarms := (List.range 4).map (fun k => loadAlarm (alarmBytes l k)), clamped := imageClamped l }

/-- R190: the image is accepted: of the right length, its check in agreement, its station ID in 1..250. -/
def imageAccepted (l : List Byte) : Bool :=
  decide (l.length = 2467) && decide (field 0 2 l = 2463) &&
    decide (field 2465 2 l = (crc16 ((l.drop 2).take 2463)).toNat) && decide (1 ≤ field 2 1 l) &&
    decide (field 2 1 l ≤ 250)

/-- R190, R191: a reading of the configuration memory; none when it is refused. -/
def readImage : Option (List Byte) → Option NodeConfig
  | some l => if imageAccepted l then some (loadImage l) else none
  | none => none

/-! ### The table's words -/

/-- No row of spec/opcode_table.json gives bits, so no word spells a command. -/
def decodeTableWord (_nbits _w : Nat) : Option Instr := none

end Sys2Proof
end

