-- ==== Sys2Proof/Machine/State.lean ====
section
/-! DEFINITION. The state of the node as plain data: nine blocks, each owning the state that 00_scope.md section 1.4 names
beside it, the queue of waiting commands, and the counter of the free values. -/

namespace Sys2Proof.Machine

open Sys2Proof

/-! ### Tool Register (chapter 01) -/

/-- R3: where the tool is, as this node knows it; `foreign` for a cached entry. -/
inductive Custody where
  | stocked | reserved | releasing | atGauge | transit | away | lost | foreign
  deriving DecidableEq, Repr

/-- R1: the custodian's custody state as last heard, and the custody field of a TDR (R201). -/
inductive HeardCustody where
  | stocked | atGauge | transit | away | lost
  deriving DecidableEq, Repr

/-- R5: why a tool is in QUARANTINE. -/
inductive Reason where
  | outOfTol | runout | duplicate | operator
  deriving DecidableEq, Repr

/-- R5: the condition; the reason is present exactly with QUARANTINE. -/
inductive Condition where
  | ready | needsPreset | quarantine (r : Reason) | expired
  deriving DecidableEq, Repr

/-- R6: the class of a preset part. -/
inductive PresetClass where
  | full | provisional
  deriving DecidableEq, Repr

/-- R6: the result of a tool's last preset. -/
structure Preset where
  cls : PresetClass
  cl : Nat
  cr : Nat
  runout : Nat
  station : StationId
  age : Nat
  deriving DecidableEq, Repr

/-- The Tool Data Record (R1): the part of an entry that travels on the hall line. -/
structure Record where
  tool : ToolId
  kind : Nat
  version : Version
  custodian : StationId
  heard : HeardCustody
  destination : Option StationId
  condition : Condition
  preset : Option Preset
  life : Nat
  remainder : Nat
  used : Nat
  conflict : Bool
  deriving DecidableEq, Repr

/-- R1: a tool entry. The heard rank is the tool's place in `Trg.heard`, a pending presence check an element of
`Trg.checks`. -/
structure Entry where
  tool : ToolId
  kind : Nat
  version : Version
  custodian : StationId
  custody : Custody
  heard : Option HeardCustody
  destination : Option StationId
  pocket : Option PocketNo
  condition : Condition
  preset : Option Preset
  life : Nat
  remainder : Nat
  used : Nat
  conflict : Bool
  awayTimer : Option Nat
  deriving DecidableEq, Repr

/-- R21: a received record held while a read of the pocket decides physical presence. -/
structure PresenceCheck where
  tool : ToolId
  pocket : PocketNo
  record : Record
  deriving DecidableEq, Repr

/-- R15: the last-alive stamp, to the minute. -/
structure Stamp where
  year : Nat
  month : Nat
  day : Nat
  hour : Nat
  minute : Nat
  deriving DecidableEq, Repr

/-- The Tool Register's state. `entries` ascends in tool ID; `heard` is the heard order, newest first (R12). -/
structure Trg where
  entries : List Entry
  heard : List ToolId
  checks : List PresenceCheck
  stamp : Stamp
  deriving DecidableEq, Repr

/-! ### Pocket Controller (chapter 02) -/

/-- R25: the state of a module. -/
inductive ModuleState where
  | absent | active | silent | changed
  deriving DecidableEq, Repr

/-- R25: a record of the Module Table. -/
structure Module where
  state : ModuleState
  bank : BankKind
  lock : Bool
  door : Bool
  indicator : Bool
  lines : Nat
  deriving DecidableEq, Repr

/-- R29: the state of a pocket, in the order of the table. -/
inductive PocketState where
  | absent | empty | openForStock | awaiting | checking | stocked | reserved | releasing | wrongTool | fault
  deriving DecidableEq, Repr

/-- R30: what the read of a CHECKING pocket must settle. -/
inductive Check where
  | insert | remove | recheck
  deriving DecidableEq, Repr

/-- R29: a door. -/
inductive Door where
  | closed | opened
  deriving DecidableEq, Repr

/-- R29: the latch position last commanded. -/
inductive Latch where
  | locked | opened
  deriving DecidableEq, Repr

/-- R29: an indicator lamp. -/
inductive Indicator where
  | off | on | blink | flicker
  deriving DecidableEq, Repr

/-- R163: the LOADED mark of a magazine pocket. -/
structure Mark where
  version : Version
  length : Nat
  radius : Nat
  drift : Bool
  deriving DecidableEq, Repr

/-- R148: the vacated mark of a pocket: the tool it names, and whether a read has found that tool there since. -/
structure Vacated where
  tool : ToolId
  found : Bool
  deriving DecidableEq, Repr

/-- R29: the record of a pocket 0..47. In FAULT `saved` holds the former state, whose check, open release, target and
timer stay in their own fields. `openRelease` stands while a release as AWAY is open (R42), in CHECKING with check
REMOVE too. `timerRunning` is clear once a door opening has stopped the pocket timer (R32). `vacated` is the mark of
R148, `press` the pending mark of R39. -/
structure Pocket where
  state : PocketState
  contents : Option ToolId
  check : Option Check
  openRelease : Bool
  saved : Option PocketState
  hold : Bool
  verified : Bool
  readRequested : Bool
  door : Door
  latch : Latch
  indicator : Indicator
  mark : Option Mark
  target : Option SeekNo
  timer : Option Nat
  timerRunning : Bool
  vacated : Option Vacated
  press : Bool
  deriving DecidableEq, Repr

/-- The Pocket Controller's state. `walk` is where an unfinished walk of the scanner goes on (R39 step 2). -/
structure Pkc where
  modules : List Module
  pockets : List Pocket
  gauge : PocketState
  lastServed : PocketNo
  walk : Option PocketNo
  deriving DecidableEq, Repr

/-! ### Reader Scheduler (chapter 03) -/

/-- R49, R50: the read in flight and how many of its attempts have ended FAIL. -/
structure Read where
  pocket : PocketNo
  fails : Nat
  deriving DecidableEq, Repr

/-- R50: the outcome of a read. -/
inductive Outcome where
  | tag (tool : ToolId) (kind : Nat)
  | noTag
  | readFail
  deriving DecidableEq, Repr

/-- R58: the sweep state. -/
inductive SweepState where
  | idle | active | suspended
  deriving DecidableEq, Repr

/-- R58: a status of the Sweep Table. -/
inductive SweepStatus where
  | none | ok | missing | unexpected | mismatch | readFail | skipped | absent
  deriving DecidableEq, Repr

/-- The Reader Scheduler's state. -/
structure Rds where
  queue : List PocketNo
  inFlight : Option Read
  sweep : SweepState
  cursor : PocketNo
  awaiting : Bool
  table : List SweepStatus
  deriving DecidableEq, Repr

/-! ### Preset Reduction Unit (chapter 04) -/

/-- R67: the gauge tool. -/
structure GaugeTool where
  tool : ToolId
  kind : Nat
  deriving DecidableEq, Repr

/-- R72: what the last SAMPLE taken for a slot stored. -/
structure SampleSlot where
  z : Int
  x : Int
  valid : Bool
  deriving DecidableEq, Repr

/-- R72: the burst in progress. -/
structure Burst where
  tool : Option ToolId
  n : Nat
  edge : Bool
  temperature : Int
  provisional : Bool
  slots : List (Option SampleSlot)
  deriving DecidableEq, Repr

/-- R72: the pending first burst; also the values of one reduced burst. -/
structure FirstBurst where
  tool : ToolId
  cl : Nat
  cr : Nat
  runout : Nat
  edge : Bool
  provisional : Bool
  deriving DecidableEq, Repr

/-- R66: the outcome of a burst, in the order of the table. -/
inductive BurstOutcome where
  | pass | failRunout | failTol | again | repeatFail | shortBurst | aborted | kindUnknown | noCustody
  deriving DecidableEq, Repr

/-- R66: a RESULT message. -/
structure Result where
  outcome : BurstOutcome
  cl : Nat
  cr : Nat
  runout : Nat
  deriving DecidableEq, Repr

/-- The Preset Reduction Unit's state; `queue` is the Preset Queue (R84), `tx` the RESULT being sent (R66). -/
structure Pru where
  gauge : Option GaugeTool
  burst : Option Burst
  first : Option FirstBurst
  queue : List ToolId
  tx : Option Result
  txWait : Option Result
  deriving DecidableEq, Repr

/-! ### Frames the node sends (chapters 05 and 12) -/

/-- R115: the mode of a seek. -/
inductive SeekMode where
  | attended | unattended
  deriving DecidableEq, Repr

/-- R90: a frame this node sends. An ANNOUNCE to all stations carries its join report, whose node state is set at each
attempt (R105). -/
inductive Frame where
  | announce (a : Announce)
  | seek (n : SeekNo) (want : Want) (mode : SeekMode) (minLife : Nat)
  | offer (dst : StationId) (n : SeekNo) (r : Record)
  | take (dst : StationId) (n : SeekNo)
  | lapse (dst : StationId) (n : SeekNo) (reason : LapseReason)
  | released (dst : StationId) (n : SeekNo) (r : Record)
  | received (dst : StationId) (n : SeekNo) (tool : ToolId) (version : Version)
  | record (r : Record)
  | whereis (tool : ToolId)
  deriving DecidableEq, Repr

/-- R93: the owner of a frame: a transfer, a claim window, or none that acts (a repeated frame of a resync, the answer
to a TAKE that belongs to no transfer, a RECORD, the ANNOUNCE). -/
inductive FrameOwner where
  | taker (n : SeekNo)
  | giver (seeker : StationId) (n : SeekNo)
  | window (tool : ToolId)
  | unowned
  deriving DecidableEq, Repr

/-- A frame of the urgent queue with its owner (R93). -/
structure Urgent where
  frame : Frame
  owner : FrameOwner
  deriving DecidableEq, Repr

/-! ### Custody Engine (chapters 06 and 07) -/

/-- R112: the state of a giver transfer. -/
inductive GiverState where
  | offered | releasing | transit
  deriving DecidableEq, Repr

/-- R112: a giver transfer. -/
structure Giver where
  state : GiverState
  seeker : StationId
  seek : SeekNo
  want : Want
  mode : SeekMode
  minLife : Nat
  tool : ToolId
  pocket : Option PocketNo
  timer : Option Nat
  expired : Bool
  withdrawing : Bool
  lastFrame : Frame
  deriving DecidableEq, Repr

/-- R112, R116: an offer: the giver's station and the TDR. -/
structure Offer where
  station : StationId
  record : Record
  deriving DecidableEq, Repr

/-- R112: the state of a taker transfer. -/
inductive TakerState where
  | seeking | taking | awaitingArrival
  deriving DecidableEq, Repr

/-- R112: a taker transfer. The counterpart and the expected tool are those of the current offer. -/
structure Taker where
  state : TakerState
  seek : SeekNo
  pocket : PocketNo
  want : Want
  mode : SeekMode
  minLife : Nat
  timer : Nat
  offers : List Offer
  current : Option Offer
  lastFrame : Frame
  deriving DecidableEq, Repr

/-- R138: where an adoption stands. -/
inductive Place where
  | pocket (p : PocketNo)
  | gauge
  deriving DecidableEq, Repr

/-- R138: what a claim window serves. -/
inductive WindowUse where
  | adoption (place : Place) (fallback : Option Record) (heard : Option Record)
  | transitCheck
  deriving DecidableEq, Repr

/-- R138: an open claim window. -/
structure Window where
  tool : ToolId
  use : WindowUse
  timer : Nat
  deriving DecidableEq, Repr

/-- R138: a member of the waiting list. -/
inductive Waiting where
  | adoption (tool : ToolId) (kind : Nat) (place : Place)
  | transitCheck (tool : ToolId)
  deriving DecidableEq, Repr

/-- The Custody Engine's state. `takers` stands in opening order (R112); `lapsed` oldest first (R113). -/
structure Cue where
  givers : List Giver
  takers : List Taker
  lapsed : List (StationId × SeekNo)
  seekCounter : Nat
  windows : List Window
  waiting : List Waiting
  deriving DecidableEq, Repr

/-! ### Hall Line Interface (chapter 05) -/

/-- R97, R99: what the send in flight is doing: driving an attempt, waiting a back-off of some slot times, or waiting for
a quiet line before its next attempt. -/
inductive SendPhase where
  | driving
  | backoff (slots : Nat)
  | quietWait
  deriving DecidableEq, Repr

/-- R97: the send in flight; `attempt` is the number of the attempt being driven or ended last. -/
structure Send where
  frame : Frame
  owner : FrameOwner
  attempt : Nat
  phase : SendPhase
  deriving DecidableEq, Repr

/-- The Hall Line Interface's state. -/
structure Hli where
  urgent : List Urgent
  routine : List Frame
  send : Option Send
  joinTimer : Option Nat
  deriving DecidableEq, Repr

/-! ### Station Link (chapter 08) -/

/-- R156: the sticky bits of the status word. -/
structure Sticky where
  seqError : Bool
  overrun : Bool
  noticeOverflow : Bool
  clamped : Bool
  deriving DecidableEq, Repr

/-- R160: a stage. -/
structure Stage where
  pocket : PocketNo
  tool : ToolId
  version : Version
  length : Nat
  radius : Nat
  token : Nat
  disturbed : Bool
  deriving DecidableEq, Repr

/-- R169: the notice kinds, in the order of the table. -/
inductive NoticeKind where
  | toolReady | toolRefused | needFailed | lifeLow | lifeOut | offsetDrift | recordChanged | sweepDone | limit
  deriving DecidableEq, Repr

/-- R169: the reasons of NEED_FAILED. -/
inductive FailReason where
  | noOffer | pocket | lapsed | timeout | line | counterpartReset | restart
  deriving DecidableEq, Repr

/-- R169: a notice. `counts` holds seven numbers with SWEEP_DONE and is empty otherwise. -/
structure Notice where
  kind : NoticeKind
  pocket : Option PocketNo
  tool : Option ToolId
  seek : Option SeekNo
  reason : Option FailReason
  counts : List Nat
  deriving DecidableEq, Repr

/-- R155: the result codes, in the order of R202. -/
inductive ResultCode where
  | ok | busy | badPocket | noTool | stale | seq | keyRequired | range | refused
  deriving DecidableEq, Repr

/-- R173: the entry part of a TOOL reply. -/
structure EntryPart where
  entry : Entry
  checkPending : Bool
  windowOpen : Bool
  deriving DecidableEq, Repr

/-- R202: the payload of a reply. -/
inductive ReplyPayload where
  | none
  | seek (n : SeekNo)
  | staged (length radius wear token : Nat)
  | committed (length radius : Nat)
  | used (life remainder used : Nat)
  | notices (l : List Notice)
  | tool (pocket : Option (PocketNo × Pocket)) (entry : Option EntryPart)
  | sweepStat (state : SweepState) (cursor : PocketNo) (table : List SweepStatus)
  | clock (year month day hour minute second weekday : Nat)
  deriving DecidableEq, Repr

/-- R155, R202: a reply: the command code answered, the result, the five bytes of the status word, the payload. -/
structure Reply where
  code : Nat
  result : ResultCode
  status : List Byte
  payload : ReplyPayload
  deriving DecidableEq, Repr

/-- R172: the attention output in PULSE mode: released and idle, asserted for a pulse, or in the release after one. -/
inductive Pulse where
  | idle | asserted | released
  deriving DecidableEq, Repr

/-- The Station Link's state; the command receiver is busy exactly while `reply` is present (R153). -/
structure Slk where
  reply : Option Reply
  sticky : Sticky
  stage : Option Stage
  token : Nat
  notices : List Notice
  owed : Nat
  pulse : Pulse
  deriving DecidableEq, Repr

/-! ### Calendar Clock (chapter 09) and Start Controller (chapter 10) -/

/-- R176: the calendar. -/
structure Calendar where
  year : Nat
  month : Nat
  day : Nat
  hour : Nat
  minute : Nat
  second : Nat
  weekday : Nat
  deriving DecidableEq, Repr

/-- The Calendar Clock's state: the calendar, the trust flag (R185), the backup latch (R183), the last level reading
(R184). -/
structure Cck where
  cal : Calendar
  trust : Bool
  latch : Bool
  low : Bool
  deriving DecidableEq, Repr

/-- R189: the node state. -/
inductive NodeState where
  | loading | hunting | restoring | joining | run | idConflict | configFault
  deriving DecidableEq, Repr

/-- R183: what the first reading of the latch reports. -/
inductive Report where
  | held | failed
  deriving DecidableEq, Repr

/-- The Start Controller's state. -/
structure Stc where
  node : NodeState
  powered : Bool
  config : Option NodeConfig
  report : Report
  refusedOnce : Bool
  huntNext : Nat
  recordedId : StationId
  deriving DecidableEq, Repr

/-- The node: its nine blocks, the counter of the free values (the model's own), and the commands waiting. -/
structure State where
  trg : Trg
  pkc : Pkc
  rds : Rds
  pru : Pru
  cue : Cue
  hli : Hli
  slk : Slk
  cck : Cck
  stc : Stc
  free : Nat
  pending : List Instr
  deriving DecidableEq, Repr

/-- No fault is raised: nothing the manual describes stops the node (R192 makes CONFIG_FAULT a node state). -/
inductive Fault where
  deriving DecidableEq, Repr

/-- Why a command is refused. -/
inductive Refusal where
  /-- Raised by an arm of `exec` that gives its command no meaning yet; safe. No arm of this model raises it. -/
  | notModelled (mnemonic : String)
  deriving DecidableEq, Repr

/-! ### Reset -/

/-- R48: an ABSENT pocket after a start with failed memory. -/
def Pocket.vacant : Pocket :=
  { state := .absent, contents := none, check := none, openRelease := false, saved := none, hold := false,
    verified := false, readRequested := false, door := .closed, latch := .locked, indicator := .off, mark := none,
    target := none, timer := none, timerRunning := false, vacated := none, press := false }

/-- R25: the record of an address where no module answered. -/
def Module.none : Module :=
  { state := .absent, bank := .crib, lock := false, door := false, indicator := false, lines := 0 }

/-- R183: 2000-01-01 00:00:00, a Saturday. -/
def Calendar.origin : Calendar :=
  { year := 2000, month := 1, day := 1, hour := 0, minute := 0, second := 0, weekday := 6 }

/-- R24, R194: the Tool Register after its memory failed. -/
def Trg.empty : Trg :=
  { entries := [], heard := [], checks := [], stamp := { year := 2000, month := 1, day := 1, hour := 0, minute := 0 } }

/-- R25, R48, R39: no module, no pocket, the scanner before pocket 0. -/
def Pkc.empty : Pkc :=
  { modules := List.replicate 6 Module.none, pockets := List.replicate 48 Pocket.vacant, gauge := .absent,
    lastServed := 47, walk := none }

/-- R57, R58: the reader and the sweep at every start. -/
def Rds.empty : Rds :=
  { queue := [], inFlight := none, sweep := .idle, cursor := 0, awaiting := false,
    table := List.replicate 48 .none }

/-- R66, R67, R88: the Preset Reduction Unit after its memory failed. -/
def Pru.empty : Pru :=
  { gauge := none, burst := none, first := none, queue := [], tx := none, txWait := none }

/-- R114, R138: the Custody Engine after its memory failed. -/
def Cue.empty : Cue :=
  { givers := [], takers := [], lapsed := [], seekCounter := 0, windows := [], waiting := [] }

/-- R111: the Hall Line Interface at every start. -/
def Hli.empty : Hli := { urgent := [], routine := [], send := none, joinTimer := none }

/-- R156: no sticky bit set. -/
def Sticky.clear : Sticky := { seqError := false, overrun := false, noticeOverflow := false, clamped := false }

/-- R156, R160, R170, R172: the Station Link after its memory failed. -/
def Slk.empty : Slk :=
  { reply := none, sticky := Sticky.clear, stage := none, token := 0, notices := [], owed := 0, pulse := .idle }

/-- The node right after the first power-on: LOADING, main power on (R189). The latch set, its report FAILED, the record
memory as R24, R48, R88, R114 and R160 give it after a failed backup, and the calendar of R183 are log entry 1
(DESIGN CHOICE). -/
def State.reset : State :=
  { trg := Trg.empty, pkc := Pkc.empty, rds := Rds.empty, pru := Pru.empty, cue := Cue.empty, hli := Hli.empty,
    slk := Slk.empty,
    cck := { cal := Calendar.origin, trust := false, latch := true, low := false },
    stc := { node := .loading, powered := true, config := none, report := .failed, refusedOnce := false, huntNext := 0,
             recordedId := 0 },
    free := 0, pending := [] }

end Sys2Proof.Machine
end

