-- ==== Sys2Proof/Machine/Ops.lean ====
section
/-! DEFINITION. The shared operations on the node's tables: reading and writing an entry, a pocket, a queue, a transfer; notices; the
RECORDs that leave the node; clearing a LOADED mark; requesting and withdrawing reads; doors and latches. Every operation takes the
state last. -/

namespace Sys2Proof.Machine

open Sys2Proof

/-! ### Node state and configuration -/

/-- The node is on and past RESTORING, outside CONFIG_FAULT: JOINING, RUN or ID_CONFLICT (R92, R178, R198). -/
def State.running (s : State) : Bool :=
  s.stc.powered &&
    match s.stc.node with
    | .joining | .run | .idConflict => true
    | .loading | .hunting | .restoring | .configFault => false

/-- This node's station ID; 0 while no configuration is loaded (R192). -/
def State.ownId (s : State) : StationId :=
  match s.stc.config with
  | some c => c.station
  | none => 0

/-- R191: whether a presetter head is fitted. -/
def State.headFitted (s : State) : Bool :=
  match s.stc.config with
  | some c => c.headFitted
  | none => false

/-- The kind entry of kind k, when it is defined (R191). -/
def State.kind? (s : State) (k : Nat) : Option KindEntry :=
  match s.stc.config with
  | some c => c.kinds.getD k none
  | none => none

/-- R7: a kind's full life, 0 for a kind not defined here. -/
def State.fullLife (s : State) (k : Nat) : Nat :=
  match s.kind? k with
  | some e => e.fullLife
  | none => 0

/-! ### Entries (chapter 01) -/

/-- The entry of a tool (R11: at most one). -/
def State.entry? (s : State) (t : ToolId) : Option Entry := s.trg.entries.find? (fun e => e.tool == t)

/-- R1: a custody entry is one whose custody is held here. -/
def Entry.here (e : Entry) : Bool := !decide (e.custody = .foreign)

/-- R3: the custody is one of those that name a pocket. -/
def Custody.inPocket : Custody → Bool
  | .stocked | .reserved | .releasing => true
  | .atGauge | .transit | .away | .lost | .foreign => false

/-- R4: the custody is one of the four outside states. -/
def Custody.outside : Custody → Bool
  | .atGauge | .transit | .away | .lost => true
  | .stocked | .reserved | .releasing | .foreign => false

/-- Insert or replace an entry in a list ascending in tool ID. -/
def insertEntry (e : Entry) : List Entry → List Entry
  | [] => [e]
  | x :: xs =>
    if x.tool = e.tool then e :: xs
    else if e.tool < x.tool then e :: x :: xs
    else x :: insertEntry e xs

/-- Store an entry under its tool ID (R11). -/
def putEntry (e : Entry) (s : State) : State :=
  { s with trg := { s.trg with entries := insertEntry e s.trg.entries } }

/-- Change the entry of a tool; nothing when it has none. -/
def modEntry (t : ToolId) (f : Entry → Entry) (s : State) : State :=
  match s.entry? t with
  | some e => putEntry (f e) s
  | none => s

/-- Remove the entry of a tool and its place in the heard order. -/
def dropEntry (t : ToolId) (s : State) : State :=
  { s with trg := { s.trg with entries := s.trg.entries.filter (fun e => e.tool != t),
                               heard := s.trg.heard.filter (· != t) } }

/-- R12: the tool takes the newest heard rank. -/
def touchHeard (t : ToolId) (s : State) : State :=
  { s with trg := { s.trg with heard := t :: s.trg.heard.filter (· != t) } }

/-- A custody entry has no heard rank (R1). -/
def dropHeard (t : ToolId) (s : State) : State :=
  { s with trg := { s.trg with heard := s.trg.heard.filter (· != t) } }

/-- R21: a presence check is pending for the tool. -/
def State.checkPending (s : State) (t : ToolId) : Bool := s.trg.checks.any (fun c => c.tool == t)

/-- R22, R23, R24: the presence check of a tool is dropped with its held record. -/
def dropCheck (t : ToolId) (s : State) : State :=
  { s with trg := { s.trg with checks := s.trg.checks.filter (fun c => c.tool != t) } }

/-- R3: the custody field of a TDR sent for a custody entry; RESERVED and RELEASING are sent as STOCKED. -/
def Custody.sent : Custody → HeardCustody
  | .stocked | .reserved | .releasing | .foreign => .stocked
  | .atGauge => .atGauge
  | .transit => .transit
  | .away => .away
  | .lost => .lost

/-- The TDR of an entry as it stands (R1, R3); a cached entry's carries the heard custody. -/
def Entry.record (e : Entry) : Record :=
  { tool := e.tool, kind := e.kind, version := e.version, custodian := e.custodian,
    heard := match e.heard with
      | some h => h
      | none => e.custody.sent,
    destination := e.destination, condition := e.condition, preset := e.preset, life := e.life,
    remainder := e.remainder, used := e.used, conflict := e.conflict }

/-- R17, R22: the cached entry that takes a record whole. -/
def Record.cached (r : Record) : Entry :=
  { tool := r.tool, kind := r.kind, version := r.version, custodian := r.custodian, custody := .foreign,
    heard := some r.heard, destination := r.destination, pocket := none, condition := r.condition,
    preset := r.preset, life := r.life, remainder := r.remainder, used := r.used, conflict := r.conflict,
    awayTimer := none }

/-! ### Claim windows (R138) -/

/-- The open claim window of a tool. -/
def State.window? (s : State) (t : ToolId) : Option Window := s.cue.windows.find? (fun w => w.tool == t)

/-- A claim window is open for the tool, whatever its use (R71, R125). -/
def State.windowOpen (s : State) (t : ToolId) : Bool := (s.window? t).isSome

/-- R141: an adoption window of the tool is open. -/
def State.adoptionOpen (s : State) (t : ToolId) : Bool :=
  match s.window? t with
  | some w =>
    match w.use with
    | .adoption _ _ _ => true
    | .transitCheck => false
  | none => false

/-- The tool a member of the waiting list concerns. -/
def Waiting.tool : Waiting → ToolId
  | .adoption t _ _ => t
  | .transitCheck t => t

/-- R134: a transit check of the tool has begun and is open or waiting. -/
def State.transitChecking (s : State) (t : ToolId) : Bool :=
  s.cue.windows.any (fun w => decide (w.tool = t ∧ w.use = .transitCheck)) ||
    s.cue.waiting.any (fun w => decide (w = .transitCheck t))

/-! ### The routine queue (R94, R95, R96) -/

/-- The frame is a RECORD of the tool. -/
def Frame.isRecordOf (t : ToolId) : Frame → Bool
  | .record r => r.tool == t
  | .announce _ | .seek _ _ _ _ | .offer _ _ _ | .take _ _ | .lapse _ _ _ | .released _ _ _ | .received _ _ _ _
  | .whereis _ => false

/-- The frame is a RECORD. -/
def Frame.isRecord : Frame → Bool
  | .record _ => true
  | .announce _ | .seek _ _ _ _ | .offer _ _ _ | .take _ _ | .lapse _ _ _ | .released _ _ _ | .received _ _ _ _
  | .whereis _ => false

/-- The frame is the ANNOUNCE. -/
def Frame.isAnnounce : Frame → Bool
  | .announce _ => true
  | .record _ | .seek _ _ _ _ | .offer _ _ _ | .take _ _ | .lapse _ _ _ | .released _ _ _ | .received _ _ _ _
  | .whereis _ => false

/-- R94, R95: a frame is appended at the tail of the routine queue. In a full queue the RECORD nearest the head is discarded
first; a full queue always holds one (R95), and were there none, the frame would not be taken. -/
def appendRoutine (f : Frame) (q : List Frame) : List Frame :=
  if q.length < 16 then q ++ [f] else if q.any Frame.isRecord then q.eraseP Frame.isRecord ++ [f] else q

/-- R94: where a RECORD handed to the routine queue goes. -/
def placeRecord (r : Record) (q : List Frame) : List Frame :=
  if q.any (Frame.isRecordOf r.tool) then q.map (fun f => if f.isRecordOf r.tool then .record r else f)
  else appendRoutine (.record r) q

/-- R95: where an ANNOUNCE handed to the routine queue goes. -/
def placeAnnounce (a : Announce) (q : List Frame) : List Frame := appendRoutine (.announce a) q

/-- Hand the RECORD of the tool's custody entry, as it stands, to the routine queue (R8). It is held back while an
adoption window of the tool is open (R141) and refused in ID_CONFLICT (R101). -/
def handRecord (t : ToolId) (s : State) : State :=
  match s.entry? t with
  | some e =>
    if e.here && !s.adoptionOpen t && !decide (s.stc.node = .idConflict) then
      { s with hli := { s.hli with routine := placeRecord e.record s.hli.routine } }
    else s
  | none => s

/-- R96: a queued RECORD of a tool no longer held in custody is withdrawn. -/
def withdrawRecord (t : ToolId) (s : State) : State :=
  { s with hli := { s.hli with routine := s.hli.routine.filter (fun f => !f.isRecordOf t) } }

/-! ### The urgent queue (R93) -/

/-- R93: the urgent queue has room. -/
def State.urgentSpace (s : State) : Bool := decide (s.hli.urgent.length < 8)

/-- R93, R101: a frame handed over now is queued; otherwise it is refused. -/
def State.urgentTakes (s : State) : Bool := s.urgentSpace && !decide (s.stc.node = .idConflict)

/-- Append a frame to the urgent queue. -/
def pushUrgent (f : Frame) (o : FrameOwner) (s : State) : State :=
  { s with hli := { s.hli with urgent := s.hli.urgent ++ [⟨f, o⟩] } }

/-- Hand over a frame whose SEND_FAILED has no effect (R137: LAPSE, RELEASED, RECEIVED, WHEREIS, a repeated frame). -/
def handPlain (f : Frame) (o : FrameOwner) (s : State) : State := if s.urgentTakes then pushUrgent f o s else s

/-- R110, R117, R128: the frame is queued or its send is in flight. -/
def State.frameQueued (s : State) (f : Frame) : Bool :=
  s.hli.urgent.any (fun u => decide (u.frame = f)) ||
    match s.hli.send with
    | some x => decide (x.frame = f)
    | none => false

/-- Hand a LAPSE for a transfer to its counterpart. -/
def sendLapse (dst : StationId) (n : SeekNo) (reason : LapseReason) (o : FrameOwner) (s : State) : State :=
  handPlain (.lapse dst n reason) o s

/-! ### Notices (R169 to R172) -/

/-- R170: the place of a notice kind in the mask of the configuration. -/
def NoticeKind.index : NoticeKind → Nat
  | .toolReady => 0
  | .toolRefused => 1
  | .needFailed => 2
  | .lifeLow => 3
  | .lifeOut => 4
  | .offsetDrift => 5
  | .recordChanged => 6
  | .sweepDone => 7
  | .limit => 8

/-- R170 step 1: the kind is masked. With no configuration (CONFIG_FAULT) no notice is queued. -/
def State.masked (s : State) (k : NoticeKind) : Bool :=
  match s.stc.config with
  | some c => c.mask.getD k.index false
  | none => true

/-- R170 step 3: the same kind and the same pocket, two notices without a pocket counting as the same. -/
def Notice.matches (n m : Notice) : Bool := decide (n.kind = m.kind ∧ n.pocket = m.pocket)

/-- R170 step 3: replace the oldest queued notice that matches. -/
def replaceNotice (n : Notice) : List Notice → List Notice
  | [] => []
  | x :: xs => if x.matches n then n :: xs else x :: replaceNotice n xs

/-- R172: a queued notice adds an owed pulse in PULSE mode and starts the output when it is idle. -/
def owePulse (s : State) : State :=
  match s.stc.config with
  | some c =>
    match c.attention with
    | .level => s
    | .pulse =>
      { s with slk := { s.slk with owed := min 16 (s.slk.owed + 1),
                                   pulse := if s.slk.pulse = .idle then .asserted else s.slk.pulse } }
  | none => s

/-- R170: queue a notice. -/
def pushNotice (n : Notice) (s : State) : State :=
  if s.masked n.kind then s
  else
    owePulse
      (if s.slk.notices.length < 16 then { s with slk := { s.slk with notices := s.slk.notices ++ [n] } }
       else if s.slk.notices.any (fun m => m.matches n) then
         { s with slk := { s.slk with notices := replaceNotice n s.slk.notices } }
       else
         { s with slk := { s.slk with notices := s.slk.notices.drop 1 ++ [n],
                                      sticky := { s.slk.sticky with noticeOverflow := true } } })

/-- A notice of a pocket and a tool (R169). -/
def pocketNotice (k : NoticeKind) (p : PocketNo) (t : Option ToolId) : Notice :=
  { kind := k, pocket := some p, tool := t, seek := none, reason := none, counts := [] }

/-- LIMIT for the pocket or the gauge and the tool concerned (R4, R169). -/
def noticeLimit (p : PocketNo) (t : ToolId) (s : State) : State := pushNotice (pocketNotice .limit p (some t)) s

/-- NEED_FAILED of a taker transfer for its target pocket (R169, section 6.6). -/
def noticeNeedFailed (tk : Taker) (r : FailReason) (s : State) : State :=
  pushNotice { kind := .needFailed, pocket := some tk.pocket, tool := none, seek := some tk.seek, reason := some r,
               counts := [] } s

/-! ### Pockets (chapter 02) -/

/-- The record of pocket p; a number outside 0..47 reads as an ABSENT pocket. -/
def State.pocket (s : State) (p : PocketNo) : Pocket := s.pkc.pockets.getD p Pocket.vacant

/-- The module record of pocket p (00_scope.md section 3.2). -/
def State.moduleOf (s : State) (p : PocketNo) : Module := s.pkc.modules.getD (p / 8) Module.none

/-- The pocket's module is ACTIVE. -/
def State.moduleActive (s : State) (p : PocketNo) : Bool := decide ((s.moduleOf p).state = .active)

/-- The pocket's module reported door sensors at the hunt. -/
def State.hasDoor (s : State) (p : PocketNo) : Bool := (s.moduleOf p).door

/-- The pocket's module reported locks at the hunt. -/
def State.hasLock (s : State) (p : PocketNo) : Bool := (s.moduleOf p).lock

/-- The pocket belongs to a magazine bank. -/
def State.isMagazine (s : State) (p : PocketNo) : Bool := decide ((s.moduleOf p).bank = .magazine)

/-- The pocket belongs to a crib bank. -/
def State.isCrib (s : State) (p : PocketNo) : Bool := decide ((s.moduleOf p).bank = .crib)

/-- The pocket is one of 0..47 and present. -/
def State.present (s : State) (p : PocketNo) : Bool :=
  decide (p < 48) && !decide ((s.pocket p).state = .absent)

/-- R192: the state a pocket shows; in CONFIG_FAULT every pocket is ABSENT while the record memory keeps its record. -/
def State.shownState (s : State) (p : PocketNo) : PocketState :=
  if s.stc.node = .configFault then .absent else if p = 48 then s.pkc.gauge else (s.pocket p).state

/-- R37: the indicator a pocket shows, by the first row of the table that matches. -/
def Pocket.derivedIndicator (head : Option ToolId) (k : Pocket) : Indicator :=
  match k.state with
  | .wrongTool | .fault => .flicker
  | .awaiting | .releasing | .openForStock => .blink
  | .stocked =>
    if k.openRelease then .blink
    else if k.contents.isSome && decide (k.contents = head) then .on
    else .off
  | .absent | .empty | .checking | .reserved => .off

/-- The tool at the head of the Preset Queue (R84). -/
def State.presetHead (s : State) : Option ToolId := s.pru.queue.head?

/-- Store the record of a pocket, with the indicator formed anew (R37). -/
def putPocket (p : PocketNo) (k : Pocket) (s : State) : State :=
  let k' := { k with indicator := k.derivedIndicator s.presetHead }
  { s with pkc := { s.pkc with pockets := s.pkc.pockets.set p k' } }

/-- Change the record of a pocket. -/
def modPocket (p : PocketNo) (f : Pocket → Pocket) (s : State) : State := putPocket p (f (s.pocket p)) s

/-- R37, R84: form every indicator anew, as at a change of the head of the Preset Queue. -/
def refreshIndicators (s : State) : State :=
  let f : Pocket → Pocket := fun k => { k with indicator := k.derivedIndicator s.presetHead }
  { s with pkc := { s.pkc with pockets := s.pkc.pockets.map f } }

/-! ### The Preset Queue (R84 to R86) -/

/-- Store the Preset Queue and report its head to the pockets. -/
def setPresetQueue (q : List ToolId) (s : State) : State :=
  refreshIndicators { s with pru := { s.pru with queue := q } }

/-- R84, R85: a condition with which a custody entry belongs in the Preset Queue. -/
def Condition.queued : Condition → Bool
  | .needsPreset | .expired | .quarantine .outOfTol | .quarantine .runout => true
  | .ready | .quarantine .duplicate | .quarantine .operator => false

/-- R86: the tool leaves the Preset Queue if it is a member. -/
def presetRemove (t : ToolId) (s : State) : State :=
  if s.pru.queue.contains t then setPresetQueue (s.pru.queue.filter (· != t)) s else s

/-- R85, R86: the Tool Register reports the tool's condition, or its entry into custody here. A tool whose condition
qualifies is appended when it is no member and there is room; one whose does not is removed. -/
def presetReport (t : ToolId) (s : State) : State :=
  match s.entry? t with
  | some e =>
    if e.here && e.condition.queued then
      if s.pru.queue.contains t then s
      else if s.pru.queue.length < 32 then setPresetQueue (s.pru.queue ++ [t]) s
      else s
    else presetRemove t s
  | none => presetRemove t s

/-! ### The LOADED mark and versioned changes (R8, R164) -/

/-- R164: clear the LOADED mark of a pocket, with notice RECORD_CHANGED naming tool t; nothing when there is none. -/
def clearMark (p : PocketNo) (t : Option ToolId) (s : State) : State :=
  match (s.pocket p).mark with
  | some _ => pushNotice (pocketNotice .recordChanged p t) (modPocket p (fun k => { k with mark := none }) s)
  | none => s

/-- Clear the LOADED mark of the pocket an entry names. -/
def clearEntryMark (e : Entry) (s : State) : State :=
  match e.pocket with
  | some p => clearMark p (some e.tool) s
  | none => s

/-- R8: a versioned change of a custody entry. The version advances by one and a RECORD is handed over, unless an
adoption window of the tool is open, which holds both back (R141). A LOADED mark on the pocket the entry named is
cleared (R164), and a change of condition is reported to the Preset Queue (R85, R86). -/
def versioned (t : ToolId) (f : Entry → Entry) (s : State) : State :=
  match s.entry? t with
  | none => s
  | some e =>
    let e' := f e
    let e'' := if s.adoptionOpen t then e' else { e' with version := e.version + 1 }
    let s := clearEntryMark e s
    let s := handRecord t (putEntry e'' s)
    if e'.condition = e.condition then s else presetReport t s

/-- R4, R42: the entry of a tool that left its pocket or its place, AWAY with timer 3600 s. -/
def Entry.goAway (e : Entry) : Entry :=
  { e with custody := .away, pocket := none, destination := none, awayTimer := some 3600 }

/-! ### The outside limit (R4) -/

/-- R4: the outside count. -/
def State.outsideCount (s : State) : Nat := s.trg.entries.countP (fun e => e.custody.outside)

/-- R4: the departure count: giver transfers in OFFERED or RELEASING and pockets with an open release. -/
def State.departureCount (s : State) : Nat :=
  s.cue.givers.countP (fun g => !decide (g.state = .transit)) + s.pkc.pockets.countP (fun k => k.openRelease)

/-- R4: the outside count plus the departure count has not reached 64. -/
def State.departureRoom (s : State) : Bool := decide (s.outsideCount + s.departureCount < 64)

/-! ### Reads (R49, R51) -/

/-- R49: the number is appended at the tail, or joins its queued or in-flight read. Pockets outside 0..47 and ABSENT
pockets are never queued. -/
def enqueueRead (p : PocketNo) (s : State) : State :=
  if !s.present p || s.rds.queue.contains p || decide (s.rds.inFlight.map (·.pocket) = some p) then s
  else { s with rds := { s.rds with queue := s.rds.queue ++ [p] } }

/-- R29, R49: PKC asks for a read of the pocket. -/
def requestRead (p : PocketNo) (s : State) : State :=
  enqueueRead p (modPocket p (fun k => { k with readRequested := true }) s)

/-- The read of the pocket is no longer queued nor in flight. -/
def dropRead (p : PocketNo) (s : State) : State :=
  { s with rds := { s.rds with queue := s.rds.queue.filter (· != p),
                               inFlight := if s.rds.inFlight.map (·.pocket) = some p then none else s.rds.inFlight } }

/-- The member of the waiting list is an adoption at the place. -/
def Waiting.isAt (x : Place) : Waiting → Bool
  | .adoption _ _ y => decide (y = x)
  | .transitCheck _ => false

/-- R145: a waiting adoption at the pocket is withdrawn. -/
def dropWaitingAt (x : Place) (s : State) : State :=
  { s with cue := { s.cue with waiting := s.cue.waiting.filter (fun w => !w.isAt x) } }

/-- R51: every read of the pocket is withdrawn, for each of its requesters, and a waiting adoption there with it. -/
def withdrawReads (p : PocketNo) (s : State) : State :=
  let s := dropRead p s
  let s := { s with rds := { s.rds with awaiting := s.rds.awaiting && !decide (s.rds.cursor = p) } }
  let s := dropWaitingAt (.pocket p) s
  modPocket p (fun k => { k with readRequested := false }) s

/-- R160: the disturbed flag of a stage on the pocket is set. -/
def disturbStage (p : PocketNo) (s : State) : State :=
  match s.slk.stage with
  | some g => if g.pocket = p then { s with slk := { s.slk with stage := some { g with disturbed := true } } } else s
  | none => s

/-! ### Doors and latches (R32 to R34) -/

/-- R32: a door opening. -/
def openDoor (p : PocketNo) (s : State) : State :=
  let s := clearMark p (s.pocket p).contents s
  let s := modPocket p (fun k => { k with door := .opened, verified := false, timerRunning := false }) s
  disturbStage p (withdrawReads p s)

/-- R34: what an unlatch stands for on a module without door sensors. -/
def unlatchOpens (p : PocketNo) (s : State) : State :=
  let s := clearMark p (s.pocket p).contents s
  let s := modPocket p (fun k => { k with verified := false }) s
  disturbStage p (withdrawReads p s)

/-- Command the latch OPEN; on a module without door sensors the unlatch stands for the door opening (R34). -/
def openLatch (p : PocketNo) (s : State) : State :=
  if (s.pocket p).latch = .opened then s
  else
    let s := modPocket p (fun k => { k with latch := .opened }) s
    if s.hasDoor p then s else unlatchOpens p s

/-- R30: the latch a state calls for; a CHECKING pocket keeps the position it was entered with. -/
def Pocket.calledLatch (k : Pocket) : Latch :=
  match k.state with
  | .openForStock | .awaiting | .wrongTool | .releasing => .opened
  | .stocked => if k.openRelease then .opened else .locked
  | .empty | .reserved => .locked
  | .checking | .fault | .absent => k.latch

/-- R31: the latch of a pocket in FAULT is commanded to the position its saved state calls for, as that now stands. -/
def Pocket.relatched (k : Pocket) : Pocket :=
  match k.state, k.saved with
  | .fault, some st => { k with latch := { k with state := st }.calledLatch }
  | _, _ => k

/-- R31: at an exchange, the latch of every pocket in a lock fault is commanded once more. A pocket in FAULT whose module
is ACTIVE is in a lock fault; one whose module does not answer takes no command (R28). -/
def retryLatches (s : State) : State :=
  let f : Nat → Pocket → Pocket := fun p k => if s.moduleActive p then k.relatched else k
  { s with pkc := { s.pkc with pockets := s.pkc.pockets.mapIdx f } }

/-- A CHECKING pocket with the given check. -/
def Pocket.toChecking (c : Check) (k : Pocket) : Pocket :=
  { k with state := .checking, check := some c }

/-- An EMPTY pocket, latch LOCKED, with nothing bound to it. -/
def Pocket.toEmpty (k : Pocket) : Pocket :=
  { k with state := .empty, contents := none, check := none, openRelease := false, saved := none, latch := .locked,
           target := none, timer := none, timerRunning := false }

/-- A STOCKED pocket holding its contents, latch LOCKED, no release open. -/
def Pocket.toStocked (k : Pocket) : Pocket :=
  { k with state := .stocked, check := none, openRelease := false, latch := .locked, timer := none,
           timerRunning := false }

/-- The pocket takes tool t: STOCKED, latch LOCKED, verified (R54, R121, R140). -/
def Pocket.occupied (t : ToolId) (k : Pocket) : Pocket :=
  { k.toStocked with contents := some t, saved := none, verified := true, target := none, vacated := none }

/-- R33: a door closing, or what stands for one, by the pocket's state. -/
def closing (p : PocketNo) (s : State) : State :=
  let k := s.pocket p
  match k.state with
  | .empty => requestRead p (modPocket p (Pocket.toChecking .insert) s)
  | .openForStock =>
    requestRead p (modPocket p (fun k => { k.toChecking .insert with timer := none, timerRunning := false }) s)
  | .stocked =>
    if k.openRelease then
      requestRead p (modPocket p (fun k => { k.toChecking .remove with timerRunning := false }) s)
    else requestRead p (modPocket p (Pocket.toChecking .recheck) s)
  | .checking => if k.readRequested then s else requestRead p s
  | .reserved | .releasing | .awaiting | .wrongTool => requestRead p s
  | .fault | .absent => s

/-- R45: the node is quiet when the door of every present pocket of an ACTIVE module is CLOSED. -/
def State.quiet (s : State) : Bool :=
  (List.range 48).all (fun p => !(s.present p && s.moduleActive p) || decide ((s.pocket p).door = .closed))

/-! ### The sweep follows quiet (R63) -/

/-- R63: suspension. A queued sweep read of the cursor pocket leaves the queue unless another requester joined it; a
read in flight continues. -/
def suspendSweep (s : State) : State :=
  let s := { s with rds := { s.rds with sweep := .suspended } }
  let p := s.rds.cursor
  if s.rds.awaiting && s.rds.queue.contains p then
    let joined := (s.pocket p).readRequested || s.trg.checks.any (fun c => c.pocket == p)
    { s with rds := { s.rds with awaiting := false,
                                 queue := if joined then s.rds.queue else s.rds.queue.filter (· != p) } }
  else s

/-- R45, R63: PKC reports the node's quiet to the sweep. -/
def reportQuiet (s : State) : State :=
  match s.rds.sweep with
  | .idle => s
  | .active => if s.quiet then s else suspendSweep s
  | .suspended => if s.quiet then { s with rds := { s.rds with sweep := .active } } else s

/-- R59: a sweep starts, ACTIVE when the node is quiet and SUSPENDED when it is not. -/
def startSweep (s : State) : State :=
  { s with rds := { s.rds with sweep := if s.quiet then .active else .suspended, cursor := 0, awaiting := false,
                               table := List.replicate 48 .none } }

/-- R59: a sweep started by the end of JOINING or by an alarm; without effect while one is ACTIVE or SUSPENDED. -/
def startIdleSweep (s : State) : State := if s.rds.sweep = .idle then startSweep s else s

/-! ### Transfers (R112, R113) -/

/-- The giver transfer with the seeker and seek number (R112). -/
def State.giver? (s : State) (seeker : StationId) (n : SeekNo) : Option Giver :=
  s.cue.givers.find? (fun g => g.seeker == seeker && g.seek == n)

/-- The giver transfer naming a tool. -/
def State.giverOf? (s : State) (t : ToolId) : Option Giver := s.cue.givers.find? (fun g => g.tool == t)

/-- The taker transfer with the seek number (R112). -/
def State.taker? (s : State) (n : SeekNo) : Option Taker := s.cue.takers.find? (fun k => k.seek == n)

/-- The taker transfer naming a pocket. -/
def State.takerAt? (s : State) (p : PocketNo) : Option Taker := s.cue.takers.find? (fun k => k.pocket == p)

/-- Replace a giver transfer under its identity. -/
def putGiver (g : Giver) (s : State) : State :=
  let f : Giver → Giver := fun x => if x.seeker = g.seeker ∧ x.seek = g.seek then g else x
  { s with cue := { s.cue with givers := s.cue.givers.map f } }

/-- Replace a taker transfer under its seek number. -/
def putTaker (k : Taker) (s : State) : State :=
  { s with cue := { s.cue with takers := s.cue.takers.map (fun x => if x.seek = k.seek then k else x) } }

/-- R113: the pair of a closed giver transfer goes to the tail of the lapsed list, which keeps the last 8. -/
def addLapsed (x : StationId × SeekNo) (l : List (StationId × SeekNo)) : List (StationId × SeekNo) :=
  let l := l.filter (· != x) ++ [x]
  l.drop (l.length - 8)

/-- A giver transfer closes (R112, R113). -/
def closeGiver (g : Giver) (s : State) : State :=
  { s with cue := { s.cue with givers := s.cue.givers.filter (fun x => !(x.seeker == g.seeker && x.seek == g.seek)),
                               lapsed := addLapsed (g.seeker, g.seek) s.cue.lapsed } }

/-- A taker transfer closes (R112). -/
def closeTaker (k : Taker) (s : State) : State :=
  { s with cue := { s.cue with takers := s.cue.takers.filter (fun x => x.seek != k.seek) } }

/-- R112: the number of open transfers of both sides. -/
def State.openTransfers (s : State) : Nat := s.cue.givers.length + s.cue.takers.length

/-! ### Requests of the Custody Engine to the pockets (R44, R112) -/

/-- R44: reserve(P) is granted. -/
def State.reservable (s : State) (p : PocketNo) : Bool :=
  let k := s.pocket p
  decide (k.state = .stocked) && decide (k.latch = .locked) && !k.openRelease && k.verified && !k.hold &&
    s.moduleActive p

/-- R44: unreserve(P); another state changes nothing. -/
def unreserve (p : PocketNo) (s : State) : State :=
  if (s.pocket p).state = .reserved then modPocket p Pocket.toStocked s else s

/-- R44: re-latch(P) with the tool present; another state changes nothing. -/
def relatchPresent (p : PocketNo) (s : State) : State :=
  if (s.pocket p).state = .releasing then modPocket p Pocket.toStocked s else s

/-- R112: an EMPTY pocket in which a read is still requested becomes CHECKING with check INSERT, latch LOCKED. -/
def Pocket.freed (k : Pocket) : Pocket :=
  if k.readRequested then { k.toEmpty with state := .checking, check := some .insert } else k.toEmpty

/-- R44: re-latch(P) with the tool gone, after R112; another state changes nothing. -/
def relatchGone (p : PocketNo) (s : State) : State :=
  if (s.pocket p).state = .releasing then modPocket p Pocket.freed s else s

/-- R44: target(P) is granted. -/
def State.targetable (s : State) (p : PocketNo) : Bool :=
  let k := s.pocket p
  decide (p < 48) && s.isMagazine p && decide (k.state = .empty) && !k.hold && s.moduleActive p

/-- R44: target(P, seek number). -/
def target (p : PocketNo) (n : SeekNo) (s : State) : State :=
  openLatch p (modPocket p (fun k => { k with state := .awaiting, target := some n }) s)

/-- R44: untarget(P), after R112; another state changes nothing. -/
def untarget (p : PocketNo) (s : State) : State :=
  match (s.pocket p).state with
  | .awaiting => modPocket p Pocket.freed s
  | .wrongTool => requestRead p (modPocket p (fun k => { k.toEmpty with state := .checking, check := some .insert }) s)
  | _ => s

/-- The entry of a giver's tool goes back to custody STOCKED at its version (R128, R131). -/
def restock (t : ToolId) (s : State) : State :=
  modEntry t (fun e =>
    if e.custody = .reserved ∨ e.custody = .releasing then { e with custody := .stocked } else e) s

/-- A taker transfer closes without its tool: its target is untargeted and NEED_FAILED is queued (R118 to R122). -/
def failTaker (k : Taker) (r : FailReason) (s : State) : State :=
  let s := closeTaker k s
  let s := match k.state with
    | .seeking => s
    | .taking | .awaitingArrival => untarget k.pocket s
  noticeNeedFailed k r s

end Sys2Proof.Machine
end

