-- ==== Sys2Proof/Machine/Operands.lean ====
section
/-! DEFINITION. The operand forms: a TDR as received and its checks (R16, R201), versions as serial numbers (R10), offers and candidates
with their ranking (R116, R127), the want and the mode of a seek (R115, R124). -/

namespace Sys2Proof.Machine

open Sys2Proof

/-! ### The TDR as received (R16, R201) -/

/-- R201: flag bit 0, preset part present. -/
def tdrHasPreset (t : Tdr) : Bool := t.flags.getLsbD 0

/-- R201: the custody codes. -/
def heardOfCode : Nat → Option HeardCustody
  | 1 => some .stocked
  | 2 => some .atGauge
  | 3 => some .transit
  | 4 => some .away
  | 5 => some .lost
  | _ => none

/-- R201: the reason codes, 0 for none. -/
def reasonOfCode : Nat → Option Reason
  | 1 => some .outOfTol
  | 2 => some .runout
  | 3 => some .duplicate
  | 4 => some .operator
  | _ => none

/-- R16, R201: a condition code with its reason code; a reason is present exactly with QUARANTINE. -/
def conditionOfCodes (c r : Nat) : Option Condition :=
  match c with
  | 1 => if r = 0 then some .ready else none
  | 2 => if r = 0 then some .needsPreset else none
  | 3 => (reasonOfCode r).map .quarantine
  | 4 => if r = 0 then some .expired else none
  | _ => none

/-- R16, R201: the preset part of a TDR: `some none` when absent (its bytes are ignored), `none` when a value lies
outside its range. -/
def presetOfTdr (t : Tdr) : Option (Option Preset) :=
  if tdrHasPreset t then
    if t.cl ≤ 6000000 ∧ t.cr ≤ 1250000 ∧ t.runout ≤ 1250000 ∧ 1 ≤ t.presetStation ∧ t.presetStation ≤ 250 then
      some (some { cls := if t.flags.getLsbD 1 then .full else .provisional, cl := t.cl, cr := t.cr,
                   runout := t.runout, station := t.presetStation, age := t.presetAge })
    else none
  else some none

/-- R16, R201: a destination is present exactly with custody TRANSIT and lies in 1..250; `none` when malformed. -/
def destinationOfTdr (t : Tdr) (h : HeardCustody) : Option (Option StationId) :=
  if h = .transit then
    if 1 ≤ t.destination ∧ t.destination ≤ 250 then some (some t.destination) else none
  else if t.destination = 0 then some none else none

/-- R16: the record a TDR from station src carries, `none` when it is malformed. -/
def recordOfTdr (src : StationId) (t : Tdr) : Option Record :=
  if toolIdValid t.tool && decide (t.custodian = src) && decide (1 ≤ t.custodian) && decide (t.custodian ≤ 250) &&
      decide (t.kind < 64) && decide (t.remainder < 60) && decide (t.flags.toNat < 8) then
    match heardOfCode t.custody, conditionOfCodes t.condition t.reason, presetOfTdr t with
    | some h, some c, some pr =>
      match destinationOfTdr t h with
      | some d =>
        some { tool := t.tool, kind := t.kind, version := t.version, custodian := t.custodian, heard := h,
               destination := d, condition := c, preset := pr, life := t.life, remainder := t.remainder,
               used := t.used, conflict := t.flags.getLsbD 2 }
      | none => none
    | _, _, _ => none
  else none

/-- R16: the condition within this node's limits: READY needs a preset part and life above 0. -/
def adjustCondition (c : Condition) (hasPreset : Bool) (life : Nat) : Condition :=
  match c with
  | .ready => if !hasPreset then .needsPreset else if life = 0 then .expired else .ready
  | .needsPreset => .needsPreset
  | .quarantine r => .quarantine r
  | .expired => .expired

/-- R16: a record brought within this node's limits, with the full life of its kind here. -/
def Record.adjust (full : Nat) (r : Record) : Record :=
  let life := min r.life full
  { r with life := life, condition := adjustCondition r.condition r.preset.isSome life }

/-- R16: check a received TDR and bring it within this node's limits. -/
def State.takeTdr (s : State) (src : StationId) (t : Tdr) : Option Record :=
  (recordOfTdr src t).map (fun r => r.adjust (s.fullLife r.kind))

/-! ### Versions (00_scope.md section 3.3, R10) -/

/-- 00_scope.md section 3.3: version a is newer than version b. -/
def versionNewer (a b : Version) : Bool := decide (1 ≤ (a - b).toNat) && decide ((a - b).toNat ≤ 32767)

/-- R10: an incoming version of a custodian supersedes an entry's. -/
def supersedes (v : Version) (c : StationId) (v' : Version) (c' : StationId) : Bool :=
  versionNewer v v' || decide ((v - v').toNat = 32768) || (decide (v = v') && decide (c < c'))

/-- R3: a physical claim: the sender says the tool stands in a pocket or on the gauge of its own. -/
def HeardCustody.physical : HeardCustody → Bool
  | .stocked | .atGauge => true
  | .transit | .away | .lost => false

/-! ### Want and mode (R115, R124) -/

/-- R200, R202: the mode codes. -/
def modeOfCode : Nat → Option SeekMode
  | 0 => some .attended
  | 1 => some .unattended
  | _ => none

/-- R115: the want of NEED, when it is in range. -/
def wantOfCodes (type w : Nat) : Option Want :=
  match type with
  | 0 => if w < 64 then some (.kind w) else none
  | 1 => if toolIdValid w then some (.tool w) else none
  | _ => none

/-- R116, R125: the tool of a kind is what the seek wants. -/
def wantAccepts (w : Want) (t : ToolId) (k : Nat) : Bool :=
  match w with
  | .kind k' => decide (k = k')
  | .tool t' => decide (t = t')

/-! ### Ranking (R116, R127) -/

/-- The figures that rank an offer or a candidate: class, life, remainder, preset age, and a last number that breaks
ties (the giver's station, R116, or the pocket, R127). -/
structure Rank where
  full : Bool
  life : Nat
  remainder : Nat
  age : Nat
  last : Nat

/-- R116, R127: FULL before PROVISIONAL, then higher life and remainder, then lower preset age, then the lower number. -/
def Rank.better (a b : Rank) : Bool :=
  if a.full ≠ b.full then a.full
  else if a.life ≠ b.life then decide (b.life < a.life)
  else if a.remainder ≠ b.remainder then decide (b.remainder < a.remainder)
  else if a.age ≠ b.age then decide (a.age < b.age)
  else decide (a.last < b.last)

/-- The rank of a record with the number that breaks ties. -/
def Record.rank (r : Record) (last : Nat) : Rank :=
  { full := match r.preset with
      | some p => decide (p.cls = .full)
      | none => false,
    life := r.life, remainder := r.remainder,
    age := match r.preset with
      | some p => p.age
      | none => 0,
    last := last }

/-- R116: the rank of an offer. -/
def Offer.rank (o : Offer) : Rank := o.record.rank o.station

/-- Insert before the first element that the new one is better than. -/
def insertRanked {α : Type} (rank : α → Rank) (x : α) : List α → List α
  | [] => [x]
  | y :: ys => if (rank x).better (rank y) then x :: y :: ys else y :: insertRanked rank x ys

/-- R116: an offer takes its place in the list, one from each giver, four at most. -/
def placeOffer (o : Offer) (l : List Offer) : List Offer :=
  (insertRanked Offer.rank o (l.filter (fun x => x.station != o.station))).take 4

/-- R116: an offer's record passes the taker's test. -/
def Taker.acceptsOffer (k : Taker) (r : Record) : Bool :=
  decide (r.heard = .stocked) && decide (r.condition = .ready) && r.preset.isSome && wantAccepts k.want r.tool r.kind &&
    decide (k.minLife ≤ r.life) &&
    match k.mode with
    | .attended => true
    | .unattended =>
      match r.preset with
      | some p => decide (p.cls = .full)
      | none => false

/-- R112: the expected tool of a taker transfer. -/
def Taker.expected (k : Taker) : Option ToolId := k.current.map (fun o => o.record.tool)

/-- R112: the counterpart of a taker transfer. -/
def Taker.counterpart (k : Taker) : Option StationId := k.current.map (fun o => o.station)

/-- R44, R112: the transfer has targeted its pocket (TAKING or AWAITING_ARRIVAL). -/
def Taker.targeting (k : Taker) : Bool := !decide (k.state = .seeking)

end Sys2Proof.Machine
end

