-- ==== Sys2Proof/Machine/Flags.lean ====
section
/-! DEFINITION. What is formed afresh from the state: the delivered values (R159), the conditions of a LOADED mark (R163), what is issuable
(R125, R126), the status word (R156, R202), the attention output (R172). -/

namespace Sys2Proof.Machine

open Sys2Proof

/-! ### Delivered values (R159) and the LOADED mark (R163) -/

/-- R159: the wear, rounded toward zero and held at the kind's wear limit. -/
def wearOf (k : KindEntry) (used : Nat) : Nat := min (k.wearRate * used / 100) k.wearLimit

/-- R159: the delivered length, 0 when the wear exceeds CL. -/
def deliveredLength (k : KindEntry) (cl used : Nat) : Nat := cl - wearOf k used

/-- R158, R162: what an entry delivers here: the length, the radius and the wear; nothing unless it is a custody entry
with condition READY, a preset part, life above 0 and a kind defined here. -/
def State.delivery (s : State) (e : Entry) : Option (Nat × Nat × Nat) :=
  match e.preset, s.kind? e.kind with
  | some p, some k =>
    if e.condition = .ready ∧ 0 < e.life then some (deliveredLength k p.cl e.used, p.cr, wearOf k e.used) else none
  | _, _ => none

/-- R163: the conditions of a LOADED mark, tested on the entry the pocket's contents name. -/
def State.markValid (s : State) (p : PocketNo) (m : Mark) : Bool :=
  match (s.pocket p).contents.bind s.entry? with
  | some e =>
    match e.preset, s.kind? e.kind with
    | some pr, some k =>
      decide (e.custody = .stocked) && decide (e.condition = .ready) && decide (0 < e.life) &&
        decide (e.version = m.version) && decide (m.length ≤ pr.cl) && decide (pr.cl - k.wearLimit ≤ m.length)
    | _, _ => false
  | none => false

/-- R47, R163: a mark kept over a start still holds: its conditions are met, its pocket, when present, is a magazine
pocket and its door was CLOSED at the hunt. -/
def State.markHolds (s : State) (p : PocketNo) (m : Mark) : Bool :=
  s.markValid p m &&
    (decide ((s.pocket p).state = .absent) || (s.isMagazine p && decide ((s.pocket p).door = .closed)))

/-! ### Issuable stock (R124 to R126) -/

/-- R125: the entry's tool is issuable for a seek of the want and minimum life. -/
def State.issuable (s : State) (w : Want) (minLife : Nat) (e : Entry) : Bool :=
  decide (e.custody = .stocked) &&
    match e.pocket, e.preset, s.kind? e.kind with
    | some q, some pr, some k =>
      s.isCrib q && s.moduleActive q &&
        decide ((s.pocket q).state = .stocked) && decide ((s.pocket q).latch = .locked) &&
        !(s.pocket q).openRelease && (s.pocket q).verified && !(s.pocket q).hold &&
        !s.checkPending e.tool && !s.windowOpen e.tool &&
        decide (e.condition = .ready) && decide (minLife ≤ e.life) && decide (pr.age ≤ k.ageLimit) &&
        wantAccepts w e.tool e.kind
    | _, _, _ => false

/-- R185: the clock is trusted; in CONFIG_FAULT it is not. -/
def State.clockTrusted (s : State) : Bool := s.cck.trust && !decide (s.stc.node = .configFault)

/-- R126: the further conditions of an unattended seek. -/
def State.issuableUnattended (s : State) (minLife : Nat) (e : Entry) : Bool :=
  (match e.preset with
    | some pr => decide (pr.cls = .full)
    | none => false) &&
  (match s.kind? e.kind with
    | some k => decide (max minLife k.reserve ≤ e.life) && k.unattended
    | none => false) &&
  s.clockTrusted && !s.cck.low

/-- R124 to R126: the entry's tool is a candidate for the seek. -/
def State.candidate (s : State) (w : Want) (m : SeekMode) (minLife : Nat) (e : Entry) : Bool :=
  s.issuable w minLife e &&
    match m with
    | .attended => true
    | .unattended => s.issuableUnattended minLife e

/-- R127: the rank of a candidate. -/
def Entry.rank (e : Entry) : Rank :=
  e.record.rank (match e.pocket with
    | some p => p
    | none => 48)

/-- R127: the candidates, best first. -/
def State.candidates (s : State) (w : Want) (m : SeekMode) (minLife : Nat) : List Entry :=
  (s.trg.entries.filter (s.candidate w m minLife)).foldl (fun l e => insertRanked Entry.rank e l) []

/-- R71: the gauge tool is held here under a settled entry. -/
def State.gaugeSettled (s : State) (t : ToolId) : Bool :=
  match s.entry? t with
  | some e => decide (e.custody = .atGauge) && !s.windowOpen t
  | none => false

/-! ### The status word (R156, R202) -/

/-- A byte from its bits, bit 0 first. -/
def byteOfBits (l : List Bool) : Byte := BitVec.ofNat 8 (l.foldr (fun b n => 2 * n + b.toNat) 0)

/-- R202: the code of the node state; LOADING is never shown (R189). -/
def NodeState.code : NodeState → Nat
  | .loading => 1
  | .hunting => 2
  | .restoring => 3
  | .joining => 4
  | .run => 5
  | .idConflict => 6
  | .configFault => 7

/-- R156: the live bit SWEEP_ACTIVE. -/
def State.sweepActive (s : State) : Bool := !decide (s.rds.sweep = .idle)

/-- R191: at least one field of the configuration was clamped. -/
def State.configClamped (s : State) : Bool :=
  match s.stc.config with
  | some c => c.clamped
  | none => false

/-- R156, R202: the five bytes of the status word. In CONFIG_FAULT, CLOCK_UNTRUSTED, ID_CONFLICT and SWEEP_ACTIVE are
clear and both counts are 0. -/
def State.statusWord (s : State) : List Byte :=
  let fault := decide (s.stc.node = .configFault)
  [ byteOfBits [s.slk.sticky.seqError, s.slk.sticky.overrun, s.slk.sticky.noticeOverflow, s.slk.sticky.clamped],
    byteOfBits [s.cck.low, !fault && !s.cck.trust, decide (s.stc.node = .idConflict), fault, s.configClamped,
                !fault && s.sweepActive],
    BitVec.ofNat 8 s.stc.node.code,
    BitVec.ofNat 8 (if fault then 0 else s.openTransfers),
    BitVec.ofNat 8 (if fault then 0 else s.slk.notices.length) ]

/-! ### The attention output (R172) -/

/-- R172: the attention output is asserted. It is released in LOADING, in CONFIG_FAULT and without main power. -/
def State.attention (s : State) : Bool :=
  s.stc.powered &&
    match s.stc.config with
    | some c =>
      match c.attention with
      | .level => !s.slk.notices.isEmpty
      | .pulse => decide (s.slk.pulse = .asserted)
    | none => false

end Sys2Proof.Machine
end

