-- ==== Sys2Proof/Machine/Gauge.lean ====
section
/-! DEFINITION. The RESULT transmitter and the end of a tool's time on the gauge (R66, R70, R71). -/

namespace Sys2Proof.Machine

open Sys2Proof

/-- R66: send a RESULT; one may be under way and one waiting, and a later one replaces the one waiting. -/
def sendResult (r : Result) (s : State) : State :=
  match s.pru.tx with
  | none => { s with pru := { s.pru with tx := some r } }
  | some _ => { s with pru := { s.pru with txWait := some r } }

/-- R66: a RESULT whose values are 0, as SHORT_BURST, ABORTED, KIND_UNKNOWN and NO_CUSTODY carry. -/
def Result.bare (o : BurstOutcome) : Result := { outcome := o, cl := 0, cr := 0, runout := 0 }

/-- R66: a burst in progress is aborted with RESULT ABORTED. -/
def abortBurst (s : State) : State :=
  match s.pru.burst with
  | some _ => sendResult (Result.bare .aborted) { s with pru := { s.pru with burst := none } }
  | none => s

/-- R70 steps 1 and 2, R71: the burst is aborted and the pending first burst discarded. -/
def endBursts (s : State) : State :=
  let s := abortBurst s
  { s with pru := { s.pru with first := none } }

/-- R71: the gauge tool's entry has left AT_GAUGE by a read in a pocket or a displacement; the gauge tool becomes none. -/
def gaugeLeft (t : ToolId) (s : State) : State :=
  match s.pru.gauge with
  | some g =>
    if g.tool = t then
      let s := endBursts s
      { s with pru := { s.pru with gauge := none } }
    else s
  | none => s

/-- R4: before a second entry becomes AT_GAUGE, the one already there becomes AWAY. -/
def displaceGauge (t : ToolId) (s : State) : State :=
  match s.trg.entries.find? (fun e => decide (e.custody = .atGauge) && e.tool != t) with
  | some e => gaugeLeft e.tool (versioned e.tool Entry.goAway s)
  | none => s

end Sys2Proof.Machine
end

