-- ==== Sys2Proof/Machine/Windows.lean ====
section
/-! DEFINITION. Claim windows, the waiting list and adoption (chapter 07; R134 for the windows of transit checks). -/

namespace Sys2Proof.Machine

open Sys2Proof

/-- R11, R12: room for a new entry: a full register evicts the cached entry of the oldest heard rank. -/
def evictForRoom (s : State) : State :=
  if s.trg.entries.length < 256 then s
  else
    match s.trg.heard.getLast? with
    | some t => dropEntry t s
    | none => s

/-- Create the entry, with room made when the tool has none yet (R11), or replace the tool's entry. A full register always
holds a cached entry to evict (R11); were there none, no entry would be created. -/
def createEntry (e : Entry) (s : State) : State :=
  match s.entry? e.tool with
  | some _ => putEntry e s
  | none =>
    let s := evictForRoom s
    if s.trg.entries.length < 256 then putEntry e s else s

/-- R140: the entry of a tool under adoption. -/
def adoptedEntry (own : StationId) (t : ToolId) (kind : Nat) (x : Place) : Entry :=
  { tool := t, kind := kind, version := 0, custodian := own,
    custody := match x with
      | .pocket _ => .stocked
      | .gauge => .atGauge,
    heard := none, destination := none,
    pocket := match x with
      | .pocket p => some p
      | .gauge => none,
    condition := .needsPreset, preset := none, life := 0, remainder := 0, used := 0, conflict := false,
    awayTimer := none }

/-- R138: open a claim window. -/
def openWindow (w : Window) (s : State) : State :=
  { s with cue := { s.cue with windows := s.cue.windows ++ [w] } }

/-- R140: an adoption of tool t at place x takes a window. At the gauge the outside limit of R4 may leave the tool
without an entry; no window opens then and LIMIT is queued. -/
def openAdoption (t : ToolId) (kind : Nat) (x : Place) (s : State) : State :=
  if x = .gauge ∧ s.departureRoom = false then noticeLimit 48 t s
  else
    let s := if x = .gauge then displaceGauge t s else s
    let fallback := (s.entry? t).map Entry.record
    let s := dropHeard t (createEntry (adoptedEntry s.ownId t kind x) s)
    let s := match x with
      | .pocket p => modPocket p (fun k => { k.occupied t with readRequested := false }) s
      | .gauge => s
    let s := openWindow { tool := t, use := .adoption x fallback none, timer := 3 } s
    presetReport t (handPlain (.whereis t) (.window t) s)

/-- R134: a transit check takes a window. -/
def openTransitCheck (t : ToolId) (s : State) : State :=
  handPlain (.whereis t) (.window t) (openWindow { tool := t, use := .transitCheck, timer := 3 } s)

/-- R138: a member of the waiting list takes a window. An adoption whose tool has meanwhile come into custody here by
an arrival (R121) has nothing to adopt; its pocket is read afresh (log entry 12). -/
def takeWaiting (w : Waiting) (s : State) : State :=
  let s := { s with cue := { s.cue with waiting := s.cue.waiting.filter (fun x => !decide (x = w)) } }
  match w with
  | .transitCheck t => openTransitCheck t s
  | .adoption t kind x =>
    if (s.entry? t).any Entry.here then
      match x with
      | .pocket p => requestRead p s
      | .gauge => s
    else openAdoption t kind x s

/-- R138, R140: the members of the list, oldest first, take the windows that are free. -/
def serveWaiting : List Waiting → State → State
  | [], s => s
  | w :: ws, s => if s.cue.windows.length < 4 then serveWaiting ws (takeWaiting w s) else s

/-- R138: the tool's window closes and passes to the oldest member of the waiting list. -/
def closeWindow (t : ToolId) (s : State) : State :=
  if s.windowOpen t then
    let s := { s with cue := { s.cue with windows := s.cue.windows.filter (fun w => w.tool != t) } }
    serveWaiting s.cue.waiting s
  else s

/-- A transit check of the tool closes, open or waiting (R102, R131 to R135). -/
def closeTransitCheck (t : ToolId) (s : State) : State :=
  let s := { s with cue := { s.cue with waiting := s.cue.waiting.filter (fun w => !decide (w = .transitCheck t)) } }
  if s.adoptionOpen t then s else closeWindow t s

/-- R134: a transit check begins, with a free window or in the waiting list. -/
def beginTransitCheck (t : ToolId) (s : State) : State :=
  if s.cue.windows.length < 4 then openTransitCheck t s
  else { s with cue := { s.cue with waiting := s.cue.waiting ++ [.transitCheck t] } }

/-- R139: a foreign arrival of tool t at place x. -/
def foreignArrival (t : ToolId) (kind : Nat) (x : Place) (s : State) : State :=
  if s.cue.waiting.any (fun w => w.tool == t) then
    match x with
    | .pocket p => modPocket p (fun k => { k with verified := false, readRequested := false }) s
    | .gauge => s
  else if s.cue.windows.length < 4 then openAdoption t kind x s
  else
    let s := { s with cue := { s.cue with waiting := s.cue.waiting ++ [.adoption t kind x] } }
    match x with
    | .pocket p => modPocket p (fun k => { k with readRequested := true }) s
    | .gauge => s

/-- R143, R144: the entry as an adoption's data source settles it; `full` is the full life of the entry's kind, `dup`
says that the source is a physical claim or carries the conflict flag. -/
def Entry.settle (full : Nat) (src : Record) (dup : Bool) (e : Entry) : Entry :=
  let r := src.adjust full
  let other := decide (src.kind ≠ e.kind)
  let c : Condition :=
    if dup then .quarantine .duplicate
    else if other then
      match r.condition with
      | .quarantine .duplicate => .quarantine .duplicate
      | .quarantine .operator => .quarantine .operator
      | .quarantine .outOfTol | .quarantine .runout | .ready | .needsPreset | .expired => .needsPreset
    else r.condition
  { e with preset := if other then none else r.preset, life := r.life, remainder := r.remainder, used := r.used,
           condition := c, conflict := decide (c = .quarantine .duplicate), version := src.version + 1 }

/-- R143, R144: the entry at the close of its adoption window. -/
def Entry.atClose (s : State) (fallback heard : Option Record) (e : Entry) : Entry :=
  match heard with
  | some r => e.settle (s.fullLife e.kind) r (r.heard.physical || r.conflict)
  | none =>
    match fallback with
    | some r => e.settle (s.fullLife e.kind) r false
    | none => { e with version := 1 }

/-- R143, R144: the adoption window of the tool closes and its entry is settled, with one RECORD. -/
def settleAdoption (t : ToolId) (fallback heard : Option Record) (s : State) : State :=
  let s := { s with cue := { s.cue with windows := s.cue.windows.filter (fun w => w.tool != t) } }
  let s := presetReport t (handRecord t (modEntry t (Entry.atClose s fallback heard) s))
  serveWaiting s.cue.waiting s

/-- R142: a RECORD taken while the tool's adoption window is open becomes or replaces the heard record. -/
def hearRecord (r : Record) (s : State) : State :=
  let hear : Window → Window := fun w =>
    if w.tool = r.tool then
      match w.use with
      | .adoption x fb none => { w with use := .adoption x fb (some r) }
      | .adoption x fb (some h) =>
        if supersedes r.version r.custodian h.version h.custodian then { w with use := .adoption x fb (some r) } else w
      | .transitCheck => w
    else w
  { s with cue := { s.cue with windows := s.cue.windows.map hear } }

end Sys2Proof.Machine
end

