-- ==== Sys2Proof/Machine/Custody.lean ====
section
/-! DEFINITION. What the blocks do to an entry and its transfer together: withdrawing a giver transfer (R131, R132), falling back
(R119), deleting an entry (R13), yielding (R22), conflict (R23), a change of kind (R2), and the merge of a received record (R16 to
R21). -/

namespace Sys2Proof.Machine

open Sys2Proof

/-! ### Frames whose SEND_FAILED acts (R93, R137) -/

/-- R119: the next offer of the list becomes the current one and its TAKE is handed over; a refused TAKE fails that offer
too (R93), and an empty list fails the transfer with LAPSED. -/
def takeNext : List Offer → Taker → State → State
  | [], k, s => failTaker { k with offers := [] } .lapsed s
  | o :: rest, k, s =>
    let k' := { k with current := some o, offers := rest, lastFrame := .take o.station k.seek }
    if s.urgentTakes then pushUrgent (.take o.station k.seek) (.taker k.seek) (putTaker k' s)
    else takeNext rest k' s

/-- R119: a taker in TAKING falls back. A wrong tool in the target is read again against the new expected tool. -/
def fallBack (k : Taker) (s : State) : State :=
  let s := if (s.pocket k.pocket).state = .wrongTool then requestRead k.pocket s else s
  takeNext k.offers k s

/-- R115, R137: hand over the SEEK of a taker just opened; refused, the transfer fails with LINE. -/
def handSeek (k : Taker) (s : State) : State :=
  if s.urgentTakes then pushUrgent k.lastFrame (.taker k.seek) s else failTaker k .line s

/-- R128, R131, R137: a giver in OFFERED ends with its pocket unreserved and its entry STOCKED. -/
def endOffered (g : Giver) (s : State) : State :=
  let s := match g.pocket with
    | some q => unreserve q s
    | none => s
  closeGiver g (restock g.tool s)

/-- R127, R137: hand over the OFFER of a giver just opened; refused, the transfer closes. -/
def handOffer (g : Giver) (s : State) : State :=
  if s.urgentTakes then pushUrgent g.lastFrame (.giver g.seeker g.seek) s else endOffered g s

/-! ### Ending a giver transfer (R131, R132) -/

/-- R130, R131: a read of the giver's pocket is requested at once if its door is CLOSED and none is requested. -/
def readGiverPocket (g : Giver) (s : State) : State :=
  match g.pocket with
  | some q => if (s.pocket q).door = .closed ∧ (s.pocket q).readRequested = false then requestRead q s else s
  | none => s

/-- R131: a giver in RELEASING is withdrawn and waits for the read of its pocket. -/
def startWithdrawing (g : Giver) (s : State) : State :=
  readGiverPocket g (putGiver { g with withdrawing := true } s)

/-- R131: a giver transfer is withdrawn as on LAPSE(WITHDRAWN), without a frame. -/
def lapseGiver (g : Giver) (s : State) : State :=
  match g.state with
  | .offered => endOffered g s
  | .releasing => startWithdrawing g s
  | .transit => closeTransitCheck g.tool (closeGiver g (versioned g.tool Entry.goAway s))

/-- R132: why the node withdraws a giver transfer of its own accord. `elsewhere`: a read finds the tool gone or in another
place; `bus`: module silence or a lock fault. -/
inductive GiverCause where
  | elsewhere | yielded | deleted | condition | bus
  deriving DecidableEq, Repr

/-- LAPSE(WITHDRAWN) to the seeker of a giver transfer (R132). -/
def lapseSeeker (g : Giver) (s : State) : State :=
  sendLapse g.seeker g.seek .withdrawn (.giver g.seeker g.seek) s

/-- R132: the giver transfer naming tool t is withdrawn. What becomes of a RELEASING pocket is left to the rule of the
cause. -/
def withdrawGiver (c : GiverCause) (t : ToolId) (s : State) : State :=
  match s.giverOf? t with
  | none => s
  | some g =>
    match g.state, c with
    | .offered, _ => endOffered g (lapseSeeker g s)
    | .releasing, .condition => startWithdrawing g (lapseSeeker g s)
    | .releasing, .bus => closeGiver g (restock t (lapseSeeker g s))
    | .releasing, .elsewhere | .releasing, .yielded | .releasing, .deleted => closeGiver g (lapseSeeker g s)
    | .transit, .elsewhere => closeTransitCheck t (closeGiver g (lapseSeeker g s))
    | .transit, .yielded => closeTransitCheck t (closeGiver g s)
    | .transit, .deleted => closeGiver g s
    | .transit, .condition | .transit, .bus => s

/-- R23, R132, R174, R182: a change of condition out of READY or into quarantine, after which the tool is not issuable. -/
def Condition.endsIssue (c d : Condition) : Bool :=
  !decide (d = c) &&
    match d with
    | .ready => false
    | .quarantine _ => true
    | .needsPreset | .expired => decide (c = .ready)

/-- A versioned change that may take the condition out of READY or into quarantine, which withdraws a giver transfer in
OFFERED or RELEASING (R23, R132, R174, R182). -/
def versionedCondition (t : ToolId) (f : Entry → Entry) (s : State) : State :=
  match s.entry? t with
  | some e =>
    if e.condition.endsIssue (f e).condition then withdrawGiver .condition t (versioned t f s) else versioned t f s
  | none => s

/-! ### Vacated pockets -/

/-- R13, R22: the pocket an entry named becomes EMPTY, latched and unverified; in FAULT its saved state does (R152), and
an ABSENT pocket only loses its contents. DESIGN CHOICE (log entry 43): a RELEASING pocket in which a read is requested
becomes EMPTY too, as R132 leaves it to R13 and R22, and not CHECKING as R112 gives for a freeing request of R44. -/
def Pocket.losesTool (k : Pocket) : Pocket :=
  match k.state with
  | .absent => { k with contents := none }
  | .fault => { k with contents := none, saved := some .empty, check := none, openRelease := false, target := none,
                       timer := none, timerRunning := false, verified := false }
  | .empty | .openForStock | .awaiting | .checking | .stocked | .reserved | .releasing | .wrongTool =>
    { k.toEmpty with verified := false }

/-- Apply `Pocket.losesTool` to the pocket an entry named. -/
def vacateEntry (e : Entry) (s : State) : State :=
  match e.pocket with
  | some p => modPocket p Pocket.losesTool s
  | none => s

/-- R54, R68: the tool left pocket q unnoticed. The pocket loses its contents and mark, ends an open release, and is
checked with a vacated mark (R148); in FAULT its saved state becomes EMPTY instead. -/
def vacateMoved (q : PocketNo) (t : ToolId) (s : State) : State :=
  let s := clearMark q (some t) s
  match (s.pocket q).state with
  | .absent | .fault => modPocket q Pocket.losesTool s
  | .empty | .openForStock | .awaiting | .checking | .stocked | .reserved | .releasing | .wrongTool =>
    requestRead q (modPocket q (fun k =>
      { k.toEmpty with state := .checking, check := some .insert, verified := false, vacated := some { tool := t, found := false } }) s)

/-! ### Deletion, yield, conflict (R13, R22, R23) -/

/-- R71: a gauge tool whose entry is deleted is kept; its burst is aborted and its pending first burst discarded. -/
def endGaugeBursts (t : ToolId) (s : State) : State :=
  match s.pru.gauge with
  | some g => if g.tool = t then endBursts s else s
  | none => s

/-- R13: the entry of a tool is deleted. -/
def deleteEntry (t : ToolId) (s : State) : State :=
  match s.entry? t with
  | none => s
  | some e =>
    if e.here then
      let s := clearEntryMark e s
      let s := withdrawGiver .deleted t s
      let s := withdrawRecord t (dropEntry t (vacateEntry e s))
      let s := presetRemove t s
      let s := if e.custody = .atGauge then endGaugeBursts t s else s
      closeWindow t (closeTransitCheck t s)
    else dropEntry t s

/-- R22: the custody entry of the record's tool yields: it becomes cached and takes the record whole. An AT_GAUGE entry
ends its bursts as R71 gives. DESIGN CHOICE (log entry 45): R71 names no end of the gauge tool for a yield; the gauge tool
stays set, and no fresh foreign arrival follows. -/
def yieldTo (r : Record) (s : State) : State :=
  match s.entry? r.tool with
  | none => s
  | some e =>
    let s := clearEntryMark e s
    let s := dropCheck r.tool (touchHeard r.tool (putEntry r.cached s))
    let s := withdrawRecord r.tool (presetRemove r.tool s)
    let s := vacateEntry e (withdrawGiver .yielded r.tool s)
    let s := if e.custody = .atGauge then endGaugeBursts r.tool s else s
    closeTransitCheck r.tool s

/-- R23: a conflict found by this node. -/
def conflictFound (t : ToolId) (s : State) : State :=
  match s.entry? t with
  | none => s
  | some e =>
    if e.condition = .quarantine .duplicate then handRecord t (modEntry t (fun e => { e with conflict := true }) s)
    else versionedCondition t (fun e => { e with condition := .quarantine .duplicate, conflict := true }) s

/-- R23: a RECORD carrying the conflict flag for a tool physically here; the version does not advance and no RECORD is
queued. -/
def conflictReceived (t : ToolId) (s : State) : State :=
  match s.entry? t with
  | none => s
  | some e =>
    let s := dropCheck t s
    if e.condition = .quarantine .duplicate then s
    else
      let s := clearEntryMark e s
      withdrawGiver .condition t
        (presetRemove t (putEntry { e with condition := .quarantine .duplicate, conflict := true } s))

/-- R20: the node reasserts a tool it holds: the version becomes the incoming version plus one, and a RECORD is queued. -/
def reassert (r : Record) (s : State) : State :=
  match s.entry? r.tool with
  | none => s
  | some e => handRecord r.tool (putEntry { e with version := r.version + 1 } (clearEntryMark e s))

/-! ### A change of kind (R2) -/

/-- R2: the entry takes the kind the tag reports. -/
def Entry.changeKind (full : Nat) (kind : Nat) (e : Entry) : Entry :=
  { e with kind := kind, preset := none, life := min e.life full,
           condition := match e.condition with
             | .quarantine .duplicate => .quarantine .duplicate
             | .quarantine .operator => .quarantine .operator
             | .quarantine .outOfTol | .quarantine .runout | .ready | .needsPreset | .expired => .needsPreset }

/-- R2: apply the kind read where it differs from the entry's. -/
def Entry.withKind (s : State) (kind : Nat) (e : Entry) : Entry :=
  if e.kind = kind then e else e.changeKind (s.fullLife kind) kind

/-- R2: a tag read reports the kind of a tool whose custody entry is here. -/
def retag (t : ToolId) (kind : Nat) (s : State) : State :=
  match s.entry? t with
  | some e => if e.here ∧ e.kind ≠ kind then versionedCondition t (Entry.withKind s kind) s else s
  | none => s

/-! ### The merge of a received record (R17 to R21) -/

/-- What R20 finds about a tool: held, not held, or to be decided by a presence check. -/
inductive Holding where
  | held | notHeld | undecided
  deriving DecidableEq, Repr

/-- R20: physical holding on positive evidence. -/
def State.holding (s : State) (e : Entry) : Holding :=
  match e.custody with
  | .atGauge => .held
  | .stocked | .reserved =>
    match e.pocket with
    | some p =>
      match (s.pocket p).state with
      | .fault | .absent => .notHeld
      | .empty | .openForStock | .awaiting | .checking | .stocked | .reserved | .releasing | .wrongTool =>
        if s.hasDoor p then (if (s.pocket p).verified then .held else .notHeld) else .undecided
    | none => .notHeld
  | .releasing | .transit | .away | .lost | .foreign => .notHeld

/-- R20: the outcome for a record that supersedes the custody entry of its tool, by the holding found. -/
def settleHolding (held : Bool) (r : Record) (s : State) : State :=
  if held then (if r.heard.physical then conflictFound r.tool s else reassert r s) else yieldTo r s

/-- R21: a presence check begins with a read of the pocket. -/
def beginCheck (p : PocketNo) (r : Record) (s : State) : State :=
  enqueueRead p { s with trg := { s.trg with checks := s.trg.checks ++ [{ tool := r.tool, pocket := p, record := r }] } }

/-- R21: a record that arrives during the check replaces the held one when it supersedes it. -/
def recheckWith (r : Record) (s : State) : State :=
  let f : PresenceCheck → PresenceCheck := fun c =>
    if c.tool = r.tool ∧ supersedes r.version r.custodian c.record.version c.record.custodian then { c with record := r }
    else c
  { s with trg := { s.trg with checks := s.trg.checks.map f } }

/-- R17: a record for a tool with no entry here creates a cached entry. -/
def createCached (r : Record) (s : State) : State := touchHeard r.tool (createEntry r.cached s)

/-- R18: a record for a tool with a cached entry. DESIGN CHOICE (log entry 49): where only one of an equal-version record and the
entry has a preset part, R6 would replace the part and R18 its age alone; the entry's part, or its absence, is kept as it is.
DEDUCED (log entry 55): an equal-version record that names another kind leaves the entry's kind, by R18, and its life is clamped to
the full life of that kind, by R7; R16 clamped it to the record's own kind. -/
def mergeCached (e : Entry) (r : Record) (s : State) : State :=
  if supersedes r.version r.custodian e.version e.custodian then touchHeard r.tool (putEntry r.cached s)
  else if r.version = e.version ∧ r.custodian = e.custodian then
    let fresh := match e.preset, r.preset with
      | some a, some b => some { a with age := b.age }
      | some a, none => some a
      | none, _ => none
    touchHeard r.tool (putEntry { e with life := min r.life (s.fullLife e.kind), remainder := r.remainder, used := r.used, preset := fresh } s)
  else s

/-- R20, R21: a record that supersedes the custody entry e. -/
def mergeSuperseding (e : Entry) (r : Record) (s : State) : State :=
  match s.holding e with
  | .held => settleHolding true r s
  | .notHeld => settleHolding false r s
  | .undecided =>
    match e.pocket with
    | some p => beginCheck p r s
    | none => settleHolding false r s

/-- R23: the custody states in which a received conflict flag acts. -/
def Custody.flagged : Custody → Bool
  | .stocked | .reserved | .releasing | .atGauge => true
  | .transit | .away | .lost | .foreign => false

/-- R19, R20: a record for a tool with the custody entry e, by its version and custodian. -/
def mergeByVersion (e : Entry) (r : Record) (s : State) : State :=
  if supersedes r.version r.custodian e.version e.custodian then mergeSuperseding e r s else handRecord r.tool s

/-- R19, R20, R21, R23: a record for a tool with the custody entry e. A flagged record acts at once: on an entry in TRANSIT,
AWAY or LOST it is merged as an unflagged one. An unflagged record that arrives during a check is for the check. -/
def mergeCustody (e : Entry) (r : Record) (s : State) : State :=
  if r.conflict then
    if e.custody.flagged then conflictReceived r.tool s else mergeByVersion e r s
  else if s.checkPending r.tool then recheckWith r s
  else mergeByVersion e r s

/-- R17 to R23, R135, R141: merge a record that has passed R16. Under an open adoption window it goes to the window
(R142); under a transit check the entry yields to it (R135). A flagged record drops a presence check of its tool (R21),
whatever has become of the entry. DESIGN CHOICE (log entry 41): while a presence check is pending whose tool has no custody
entry here any more, an unflagged record is merged at once by R17 or R18, and the check keeps the record it holds. -/
def mergeRecord (r : Record) (s : State) : State :=
  let s := if r.conflict then dropCheck r.tool s else s
  if s.adoptionOpen r.tool then hearRecord r s
  else
    match s.entry? r.tool with
    | none => createCached r s
    | some e =>
      if !e.here then mergeCached e r s
      else if s.transitChecking r.tool then yieldTo r s
      else mergeCustody e r s

/-- R21: a presence check ends on the read outcome of its pocket. DESIGN CHOICE (log entry 40): when an adoption window of
the tool is open by then, the held record, which was taken before the window opened, goes to the window as a heard record
(R142). -/
def settleCheck (c : PresenceCheck) (o : Outcome) (s : State) : State :=
  let s := { s with trg := { s.trg with checks := s.trg.checks.filter (fun x => !decide (x = c)) } }
  if s.adoptionOpen c.tool then hearRecord c.record s
  else
    match s.entry? c.tool with
    | none => mergeRecord c.record s
    | some e =>
      if !e.here then mergeRecord c.record s
      else
        let inPlace := decide (e.pocket = some c.pocket) && (decide (e.custody = .stocked) || decide (e.custody = .reserved))
        let read := match o with
          | .tag t _ => decide (t = c.tool)
          | .noTag | .readFail => false
        settleHolding (inPlace && read) c.record s

/-- R121, R54, R68: before a custody entry of tool t moves to a new place, its old place is left: a giver transfer naming
it is withdrawn, the pocket it named is vacated, gauge custody ends. -/
def leavePlace (t : ToolId) (s : State) : State :=
  match s.entry? t with
  | none => s
  | some e =>
    match e.custody with
    | .stocked | .reserved | .releasing =>
      let s := withdrawGiver .elsewhere t s
      match e.pocket with
      | some q => vacateMoved q t s
      | none => s
    | .atGauge => gaugeLeft t s
    | .transit => withdrawGiver .elsewhere t s
    | .away | .lost | .foreign => s

/-- R4, R35, R62: the tool of pocket p is gone. Its entry becomes AWAY as a forced change, or is deleted at the outside
limit with LIMIT. -/
def forceAway (p : PocketNo) (t : ToolId) (s : State) : State :=
  if s.departureRoom then versioned t Entry.goAway s else noticeLimit p t (deleteEntry t s)

/-- R133: the entry of a giver's tool becomes cached at the taker's station. -/
def Entry.passTo (src : StationId) (v : Version) (e : Entry) : Entry :=
  { e with custodian := src, version := v, custody := .foreign, heard := some .stocked, destination := none,
           pocket := none, awayTimer := none }

/-- R133: the entry of tool t becomes cached by RECEIVED. -/
def cacheReceived (src : StationId) (t : ToolId) (v : Version) (s : State) : State :=
  let s := touchHeard t (modEntry t (Entry.passTo src v) s)
  withdrawRecord t (presetRemove t s)

end Sys2Proof.Machine
end

