-- ==== Sys2Proof/Machine/Reader.lean ====
section
/-! DEFINITION. What a read of a pocket settles (R35, R42, R52 to R56, R121, R129 to R131, R148), the Inventory Sweep (R58 to R64), and
the grant of the reader (R49, R50). -/

namespace Sys2Proof.Machine

open Sys2Proof

/-! ### Arrivals (R54, R55, R121) -/

/-- R121: the newest of the records by serial comparison; `pick` decides between records of which neither is newer. -/
def newestRecord (pick : Bool) : Record → List Record → Record
  | r, [] => r
  | r, x :: xs =>
    newestRecord pick
      (if versionNewer x.version r.version then x
       else if versionNewer r.version x.version then r
       else if pick then x else r) xs

/-- R121: the records an arrival compares: the entry here, and under an adoption window its fallback and heard record. -/
def State.knownRecords (s : State) (t : ToolId) : List Record :=
  (match s.entry? t with
    | some e => [e.record]
    | none => []) ++
  (match s.window? t with
    | some w =>
      match w.use with
      | .adoption _ fb h => fb.toList ++ h.toList
      | .transitCheck => []
    | none => [])

/-- R121: the custody entry an arrival makes of its data source, in pocket q. -/
def arrivedEntry (s : State) (q : PocketNo) (kind : Nat) (src : Record) : Entry :=
  let r := src.adjust (s.fullLife src.kind)
  Entry.withKind s kind
    { tool := r.tool, kind := r.kind, version := r.version + 1, custodian := s.ownId, custody := .stocked, heard := none,
      destination := none, pocket := some q, condition := r.condition, preset := r.preset, life := r.life,
      remainder := r.remainder, used := r.used, conflict := r.conflict, awayTimer := none }

/-- R121: the expected tool t of taker k, current offer o, is read in pocket q with the given kind. -/
def takerArrival (k : Taker) (o : Offer) (q : PocketNo) (kind : Nat) (s : State) : State :=
  let t := o.record.tool
  let src := newestRecord (Config.tiePick s.free) o.record (s.knownRecords t)
  let s := { s with free := s.free + 1 }
  let s := if s.adoptionOpen t then closeWindow t s else s
  let s := leavePlace t s
  let e := arrivedEntry s q kind src
  let s := handRecord t (dropHeard t (createEntry e s))
  let s := if q = k.pocket then s else untarget k.pocket s
  let s := modPocket q (Pocket.occupied t) s
  let s := handPlain (.received o.station k.seek t e.version) (.taker k.seek) (closeTaker k s)
  let s := pushNotice { kind := .toolReady, pocket := some q, tool := some t, seek := some k.seek, reason := none,
                        counts := [] } s
  presetReport t s

/-- R54: the entry of a tool read in pocket p, STOCKED there, with the kind read (R2). -/
def Entry.stockIn (s : State) (p : PocketNo) (kind : Nat) (e : Entry) : Entry :=
  { Entry.withKind s kind e with custody := .stocked, pocket := some p, destination := none, awayTimer := none }

/-- R54, R85: a return into a pocket is reported to the Preset Queue; a move from another pocket here is not. -/
def reportReturn (e : Entry) (s : State) : State := if e.custody.outside then presetReport e.tool s else s

/-- R54: the tag of tool u, not taken as a taker arrival, at pocket p with check INSERT. -/
def settleTag (p : PocketNo) (u : ToolId) (kind : Nat) (s : State) : State :=
  match s.entry? u with
  | some e =>
    if e.here then
      let s := leavePlace u s
      reportReturn e (modPocket p (Pocket.occupied u) (versioned u (Entry.stockIn s p kind) s))
    else foreignArrival u kind (.pocket p) s
  | none => foreignArrival u kind (.pocket p) s

/-- R55: the open taker transfer opened first that takes tool u at pocket p, with its current offer. -/
def State.takerFor? (s : State) (p : PocketNo) (u : ToolId) : Option (Taker × Offer) :=
  if s.isMagazine p && !s.hasLock p then
    (s.cue.takers.find? (fun k => k.targeting && decide (k.expected = some u))).bind (fun k =>
      k.current.map (fun o => (k, o)))
  else none

/-- R53: a tag at a pocket with check INSERT, by R55 or R54. -/
def arriveInsert (p : PocketNo) (u : ToolId) (kind : Nat) (s : State) : State :=
  match s.takerFor? p u with
  | some (k, o) => takerArrival k o p kind s
  | none => settleTag p u kind s

/-! ### The pocket's own logic (R52 step 2) -/

/-- Set the pocket EMPTY, latch LOCKED, verified. -/
def emptyVerified (p : PocketNo) (s : State) : State := modPocket p (fun k => { k.toEmpty with verified := true }) s

/-- R35, R42, R62: the pocket becomes CHECKING with check INSERT, the latch as given, and the tag goes to the arrival
logic. -/
def insertTag (p : PocketNo) (l : Latch) (u : ToolId) (kind : Nat) (s : State) : State :=
  arriveInsert p u kind (modPocket p (fun k =>
    { k.toEmpty with state := .checking, check := some .insert, latch := l }) s)

/-- The verified flag is clear after a READ_FAIL of the pocket's own read (R35, R42, R53, R129). -/
def unverify (p : PocketNo) (s : State) : State := modPocket p (fun k => { k with verified := false }) s

/-- R53: check INSERT. -/
def insertOutcome (p : PocketNo) (o : Outcome) (s : State) : State :=
  match o with
  | .noTag => emptyVerified p s
  | .tag u kind => arriveInsert p u kind s
  | .readFail => unverify p s

/-- R148: check INSERT with a vacated mark. -/
def vacatedOutcome (p : PocketNo) (v : Vacated) (o : Outcome) (s : State) : State :=
  match o with
  | .noTag => emptyVerified p (modPocket p (fun k => { k with vacated := none }) s)
  | .tag u kind =>
    if u = v.tool then
      let s := modPocket p (fun k => { k with vacated := some { v with found := true }, verified := false }) s
      if !v.found && (s.entry? u).any Entry.here then conflictFound u s else s
    else arriveInsert p u kind (modPocket p (fun k => { k with vacated := none }) s)
  | .readFail => unverify p s

/-- R42 step 5: check REMOVE of tool t. -/
def removeOutcome (p : PocketNo) (t : ToolId) (o : Outcome) (s : State) : State :=
  match o with
  | .noTag => emptyVerified p (versioned t Entry.goAway s)
  | .tag u kind =>
    if u = t then modPocket p (fun k => { k.toStocked with verified := true }) s
    else insertTag p .opened u kind (versioned t Entry.goAway s)
  | .readFail => unverify p s

/-- R35, R62: the tool t of the pocket is gone; a giver transfer naming it fails first. -/
def toolMissing (p : PocketNo) (t : ToolId) (s : State) : State :=
  emptyVerified p (forceAway p t (withdrawGiver .elsewhere t s))

/-- R35: check RECHECK, or a RESERVED pocket after a door closing, of tool t. -/
def recheckOutcome (p : PocketNo) (t : ToolId) (o : Outcome) (s : State) : State :=
  match o with
  | .noTag => toolMissing p t s
  | .tag u kind =>
    if u = t then
      if (s.pocket p).state = .reserved then s else modPocket p (fun k => { k.toStocked with verified := true }) s
    else insertTag p .locked u kind (toolMissing p t s)
  | .readFail => unverify p s

/-- R56: a target pocket. -/
def targetOutcome (p : PocketNo) (o : Outcome) (s : State) : State :=
  match s.takerAt? p with
  | none => s
  | some k =>
    match k.current, o with
    | some f, .tag u kind =>
      if u = f.record.tool then takerArrival k f p kind s
      else
        pushNotice { kind := .toolRefused, pocket := some p, tool := some u, seek := some k.seek, reason := none,
                     counts := [] } (modPocket p (fun k => { k with state := .wrongTool }) s)
    | some _, .noTag => modPocket p (fun k => { k with state := .awaiting }) s
    | some _, .readFail => s
    | none, _ => s

/-- R129: the removal of the giver's tool from pocket q: TRANSIT toward the seeker, RELEASED handed over. -/
def removal (g : Giver) (q : PocketNo) (s : State) : State :=
  let s := versioned g.tool (fun e =>
    { e with custody := .transit, pocket := none, destination := some g.seeker, awayTimer := some 900 }) s
  let s := relatchGone q (modPocket q (fun k => { k with contents := none }) s)
  match s.entry? g.tool with
  | some e =>
    let f : Frame := .released g.seeker g.seek e.record
    handPlain f (.giver g.seeker g.seek)
      (putGiver { g with state := .transit, pocket := none, timer := none, expired := false, withdrawing := false,
                         lastFrame := f } s)
  | none => s

/-- R130, R131: the tool is back, or taken as present: the pocket STOCKED, the entry STOCKED, the transfer closed. -/
def giverBack (g : Giver) (q : PocketNo) (s : State) : State := closeGiver g (restock g.tool (relatchPresent q s))

/-- R131: the withdrawn giver's tool is gone: AWAY, the pocket EMPTY, the transfer closed. -/
def giverAway (g : Giver) (q : PocketNo) (s : State) : State :=
  closeGiver g (relatchGone q (modPocket q (fun k => { k with contents := none }) (versioned g.tool Entry.goAway s)))

/-- R129: another tool read in the emptied pocket goes to the arrival logic. -/
def afterRemoval (q : PocketNo) (u : ToolId) (kind : Nat) (s : State) : State := insertTag q .locked u kind s

/-- R129 to R131: a read of the RELEASING pocket q of giver g. -/
def releasingOutcome (g : Giver) (q : PocketNo) (o : Outcome) (s : State) : State :=
  if g.withdrawing then
    match o with
    | .tag u kind => if u = g.tool then giverBack g q s else afterRemoval q u kind (giverAway g q s)
    | .noTag => giverAway g q s
    | .readFail => unverify q (giverBack g q s)
  else
    match o with
    | .tag u kind =>
      if u = g.tool then
        if g.expired then
          sendLapse g.seeker g.seek .timeout (.giver g.seeker g.seek) (giverBack g q s)
        else s
      else afterRemoval q u kind (removal g q s)
    | .noTag => removal g q s
    | .readFail =>
      if g.expired then
        unverify q (sendLapse g.seeker g.seek .timeout (.giver g.seeker g.seek) (giverBack g q s))
      else unverify q s

/-- The giver transfer in RELEASING on a pocket. -/
def State.giverAt? (s : State) (p : PocketNo) : Option Giver :=
  s.cue.givers.find? (fun g => decide (g.state = .releasing ∧ g.pocket = some p))

/-- R52 step 2: the pocket's own logic takes the outcome. DESIGN CHOICE (log entry 42): in a state without a row in the
table of R52 no logic acts, and a tag read there is dropped. -/
def ownLogic (p : PocketNo) (o : Outcome) (s : State) : State :=
  let k := s.pocket p
  match k.state with
  | .checking =>
    match k.check, k.contents with
    | some .insert, _ =>
      match k.vacated with
      | some v => vacatedOutcome p v o s
      | none => insertOutcome p o s
    | some .remove, some t => removeOutcome p t o s
    | some .recheck, some t => recheckOutcome p t o s
    | _, _ => s
  | .reserved =>
    match k.contents with
    | some t => recheckOutcome p t o s
    | none => s
  | .awaiting | .wrongTool => targetOutcome p o s
  | .releasing =>
    match s.giverAt? p with
    | some g => releasingOutcome g p o s
    | none => s
  | .absent | .empty | .openForStock | .stocked | .fault => s

/-- R52, R61: the states whose own logic takes an outcome. -/
def PocketState.takesRead : PocketState → Bool
  | .checking | .reserved | .awaiting | .wrongTool | .releasing => true
  | .absent | .empty | .openForStock | .stocked | .fault => false

/-! ### The sweep (R60 to R64) -/

/-- R60 second row: a pocket the sweep passes over. -/
def Pocket.passedOver (k : Pocket) : Bool :=
  match k.state with
  | .openForStock | .awaiting | .wrongTool | .releasing => true
  | .stocked => k.openRelease
  | .absent | .empty | .checking | .reserved | .fault => false

/-- R64: how many pockets carry a status. -/
def statusCount (l : List SweepStatus) (x : SweepStatus) : Nat := l.countP (fun y => decide (y = x))

/-- R64: the seven numbers of SWEEP_DONE. -/
def sweepCounts (l : List SweepStatus) : List Nat :=
  [statusCount l .ok, statusCount l .missing, statusCount l .unexpected, statusCount l .mismatch,
   statusCount l .readFail, statusCount l .skipped, statusCount l .absent]

/-- Record a status for the cursor pocket. -/
def recordStatus (x : SweepStatus) (s : State) : State :=
  { s with rds := { s.rds with table := s.rds.table.set s.rds.cursor x, awaiting := false } }

/-- R60, R64: the cursor advances; past 47 the sweep is complete. -/
def advanceSweep (s : State) : State :=
  if s.rds.cursor < 47 then { s with rds := { s.rds with cursor := s.rds.cursor + 1 } }
  else
    pushNotice { kind := .sweepDone, pocket := none, tool := none, seek := none, reason := none,
                 counts := sweepCounts s.rds.table }
      { s with rds := { s.rds with sweep := .idle, cursor := 0 } }

/-- R61, R62: the sweep's outcome for the cursor pocket p; `own` says that the pocket's own logic took the read. -/
def sweepOutcome (p : PocketNo) (own : Bool) (o : Outcome) (s : State) : State :=
  let k := s.pocket p
  let s :=
    if own || k.passedOver || decide (k.state = .checking) then recordStatus .skipped s
    else
      match o, k.state, k.contents with
      | .readFail, _, _ => recordStatus .readFail s
      | .noTag, .empty, _ => recordStatus .ok s
      | .tag u kind, .empty, _ => insertTag p .locked u kind (recordStatus .unexpected s)
      | .tag u kind, .stocked, some t | .tag u kind, .reserved, some t =>
        if u = t then recordStatus .ok s
        else insertTag p .locked u kind (toolMissing p t (recordStatus .mismatch s))
      | .noTag, .stocked, some t | .noTag, .reserved, some t => toolMissing p t (recordStatus .missing s)
      | _, _, _ => recordStatus .skipped s
  advanceSweep s

/-! ### Delivery (R52) -/

/-- R52 step 1: a pocket whose verified flag a read that it did not request leaves as it was. -/
def Pocket.keepsFlag (k : Pocket) : Bool := k.passedOver && !k.readRequested

/-- R52: the outcome of a completed read of pocket p is delivered in the four steps of the rule. A TAG of the pocket's
own tool that reports another kind then changes the entry's kind (R2). -/
def deliver (p : PocketNo) (o : Outcome) (s : State) : State :=
  let k := s.pocket p
  let s := if k.keepsFlag || decide (o = .readFail) then s else modPocket p (fun k => { k with verified := true }) s
  let s := if k.readRequested then ownLogic p o (modPocket p (fun k => { k with readRequested := false }) s) else s
  let own := k.readRequested && k.state.takesRead
  let s := if s.rds.awaiting && decide (s.rds.cursor = p) then sweepOutcome p own o s else s
  let due := s.trg.checks.filter (fun c => c.pocket == p)
  let s := due.foldl (fun s c => if s.trg.checks.contains c then settleCheck c o s else s) s
  match o with
  | .tag u kind => if k.contents = some u then retag u kind s else s
  | .noTag | .readFail => s

/-! ### Grant and visit (R49, R50, R60) -/

/-- R49, R50: the reader is granted to the pocket at the head of the queue; a pocket in FAULT ends READ_FAIL at once. -/
def grantRead (p : PocketNo) (rest : List PocketNo) (s : State) : State :=
  if (s.pocket p).state = .fault then deliver p .readFail { s with rds := { s.rds with queue := rest } }
  else { s with rds := { s.rds with queue := rest, inFlight := some { pocket := p, fails := 0 } } }

/-- R60: the ACTIVE sweep visits the cursor pocket. -/
def visit (s : State) : State :=
  let p := s.rds.cursor
  let k := s.pocket p
  if !s.present p then advanceSweep (recordStatus .absent s)
  else if k.passedOver || k.readRequested then advanceSweep (recordStatus .skipped s)
  else if k.state = .checking then advanceSweep (recordStatus .skipped (requestRead p s))
  else enqueueRead p { s with rds := { s.rds with awaiting := true } }

/-- What the reader and the sweep do next of themselves, if anything: a grant, else a visit. -/
def readerStep (s : State) : Option State :=
  if !s.running then none
  else
    match s.rds.inFlight, s.rds.queue with
    | none, p :: rest => some (grantRead p rest s)
    | _, _ => if s.rds.sweep = .active && !s.rds.awaiting then some (visit s) else none

/-- Grants and visits until none is left. A sweep visits 48 pockets, each with at most one grant, and the queue holds at
most 48 numbers, so 256 rounds never run out. -/
def readerRun : Nat → State → State
  | 0, s => s
  | n + 1, s =>
    match readerStep s with
    | some s' => readerRun n s'
    | none => s

/-- R49, R60: after a command, the reader is granted and the sweep visits as far as they go. -/
def settleReader (s : State) : State := readerRun 256 s

end Sys2Proof.Machine
end

