-- ==== Sys2Proof/Machine/Banks.lean ====
section
/-! DEFINITION. The pocket banks: modules, lock faults, doors, presses, pocket timers, and the end of a read attempt (chapter 02, R50). -/

namespace Sys2Proof.Machine

open Sys2Proof

/-! ### Silence and lock faults (R27, R31) -/

/-- R27: a queued or in-flight read of the pocket ends READ_FAIL. -/
def failRead (p : PocketNo) (s : State) : State :=
  if s.rds.queue.contains p || decide (s.rds.inFlight.map (·.pocket) = some p) then deliver p .readFail (dropRead p s)
  else s

/-- R27: the giver transfer of a pocket that goes to FAULT closes; its saved state becomes STOCKED. -/
def failGiverAt (p : PocketNo) (s : State) : State :=
  match s.cue.givers.find? (fun g => decide (g.pocket = some p)) with
  | some g => modPocket p (fun k => { k with saved := some .stocked }) (withdrawGiver .bus g.tool s)
  | none => s

/-- R27, R123: the taker transfer targeting a pocket that goes to FAULT closes; its saved state becomes EMPTY. -/
def failTakerAt (p : PocketNo) (s : State) : State :=
  match s.cue.takers.find? (fun k => k.targeting && decide (k.pocket = p)) with
  | some k =>
    let s := match k.current with
      | some o => sendLapse o.station k.seek .withdrawn (.taker k.seek) s
      | none => s
    let s := modPocket p (fun x => { x with saved := some .empty, target := none }) (closeTaker k s)
    noticeNeedFailed k .pocket s
  | none => s

/-- R27, R31, R145, R160: a present pocket goes to FAULT, keeping its former state; its reads end READ_FAIL, a waiting
adoption there is withdrawn, a stage on it is disturbed, and a transfer bound to it closes. -/
def pocketFault (p : PocketNo) (s : State) : State :=
  if (s.pocket p).state = .fault then failRead p s
  else
    let waiting := s.cue.waiting.any (fun w => w.isAt (.pocket p))
    let s := modPocket p (fun k => { k with saved := some k.state, state := .fault,
                                            readRequested := k.readRequested && !waiting }) s
    let s := failRead p (disturbStage p (dropWaitingAt (.pocket p) s))
    failTakerAt p (failGiverAt p s)

/-- The pocket numbers of a module address (00_scope.md section 3.2). -/
def modulePockets (a : Nat) : List PocketNo := (List.range 8).map (fun i => a * 8 + i)

/-- Change the record of a module. -/
def modModule (a : Nat) (f : Module → Module) (s : State) : State :=
  { s with pkc := { s.pkc with modules := s.pkc.modules.set a (f (s.pkc.modules.getD a Module.none)) } }

/-- R27: an ACTIVE module falls silent. -/
def silence (a : Nat) (s : State) : State :=
  if (s.pkc.modules.getD a Module.none).state = .active then
    let s := modModule a (fun m => { m with state := .silent }) s
    reportQuiet ((modulePockets a).foldl (fun s p => if s.present p then pocketFault p s else s) s)
  else s

/-- R28, R31: a pocket leaves FAULT for its saved state, unverified, its latch commanded as that state calls for. -/
def Pocket.leaveFault (k : Pocket) : Pocket :=
  match k.state, k.saved with
  | .fault, some st =>
    let k' := { k with state := st, saved := none, verified := false }
    { k' with latch := k'.calledLatch }
  | _, _ => k

/-- R33: a door closing taken when the pocket's door stood OPEN. -/
def closeDoor (p : PocketNo) (s : State) : State :=
  if (s.pocket p).door = .opened then closing p (modPocket p (fun k => { k with door := .closed }) s) else s

/-- R28: the door state in a returning module's answer, an opening and a closing in that order. -/
def answerDoor (p : PocketNo) (d : LineDoor) (s : State) : State :=
  let s := if d.isOpen || d.opened then openDoor p s else s
  if d.isOpen then s else closeDoor p s

/-- R45, R63: quiet is lost for a moment, as by a door that opens and closes within one exchange interval. -/
def quietLost (s : State) : State := if s.rds.sweep = .active then suspendSweep s else s

/-- R28: a SILENT module answers with its former report. -/
def returnModule (a : Nat) (doors : List LineDoor) (s : State) : State :=
  let s := modModule a (fun m => { m with state := .active }) s
  let s := (modulePockets a).foldl (fun s p => if s.present p then modPocket p Pocket.leaveFault s else s) s
  if (s.pkc.modules.getD a Module.none).door then
    let s := (List.range 8).foldl (fun s i =>
      if s.present (a * 8 + i) then answerDoor (a * 8 + i) (doors.getD i { isOpen := false, opened := false }) s
      else s) s
    reportQuiet (if doors.any (fun d => d.isOpen || d.opened) then quietLost s else s)
  else reportQuiet s

/-- R27 (row MODULE_SILENT). -/
def execModuleSilent (a : Nat) (s : State) : Host.Outcome State Fault Refusal :=
  .next (if s.running then settleReader (silence a s) else s)

/-- R28 (row MODULE_RETURN): a SILENT module answers with its former report. -/
def execModuleReturn (a : Nat) (doors : List LineDoor) (s : State) : Host.Outcome State Fault Refusal :=
  .next (if s.running ∧ (s.pkc.modules.getD a Module.none).state = .silent then settleReader (returnModule a doors s)
         else s)

/-- R28 (row MODULE_CHANGED): a SILENT module answers with a different report; its pockets stay FAULT. -/
def execModuleChanged (a : Nat) (s : State) : Host.Outcome State Fault Refusal :=
  .next (if s.running ∧ (s.pkc.modules.getD a Module.none).state = .silent then
           settleReader (reportQuiet (modModule a (fun m => { m with state := .changed }) s))
         else s)

/-- R31 (row LOCK_FAULT): a latch fails to report its commanded position by the second exchange. From then on the position
that the saved state calls for is commanded. -/
def execLockFault (p : PocketNo) (s : State) : Host.Outcome State Fault Refusal :=
  .next (if s.running && s.present p && s.moduleActive p && s.hasLock p && !decide ((s.pocket p).state = .fault) then
           settleReader (modPocket p Pocket.relatched (pocketFault p s))
         else s)

/-- R31 (row LATCH_POSITION_REACHED): the latch of a pocket in a lock fault reports the commanded position. -/
def execLatchPositionReached (p : PocketNo) (s : State) : Host.Outcome State Fault Refusal :=
  .next (if s.running && s.present p && s.moduleActive p && decide ((s.pocket p).state = .fault) then
           settleReader (modPocket p Pocket.leaveFault s)
         else s)

/-! ### Doors (R32, R33, R45) -/

/-- A door event can come from the pocket: present, its module ACTIVE with door sensors (R34). -/
def State.doorEvents (s : State) (p : PocketNo) : Bool :=
  s.running && s.present p && s.moduleActive p && s.hasDoor p

/-- R32 (row DOOR_OPENING). DESIGN CHOICE (log entry 59): the sweep takes the loss of quiet (R63) before the reader that a discarded
read sets free is granted again (R51), so that a sweep read next in the queue is withdrawn and not granted. -/
def execDoorOpening (p : PocketNo) (s : State) : Host.Outcome State Fault Refusal :=
  .next (if s.doorEvents p then settleReader (reportQuiet (openDoor p s)) else s)

/-- R33 (row DOOR_CLOSING): taken when the pocket's door stood OPEN. -/
def execDoorClosing (p : PocketNo) (s : State) : Host.Outcome State Fault Refusal :=
  .next (if s.doorEvents p then settleReader (reportQuiet (closeDoor p s)) else s)

/-! ### Releases as AWAY, presses, pocket timers (R39 to R43) -/

/-- R42 step 2: a granted release as AWAY. -/
def startRelease (p : PocketNo) (s : State) : State :=
  openLatch p (modPocket p (fun k => { k with openRelease := true, timer := some 120, timerRunning := true }) s)

/-- R42 steps 1 and 2: a release as AWAY of tool t is asked for. -/
def askRelease (p : PocketNo) (t : ToolId) (s : State) : State :=
  if s.departureRoom then startRelease p s else noticeLimit p t s

/-- R34, R41: a press stands for the closing on a module without door sensors, and is ignored otherwise. -/
def pressCloses (p : PocketNo) (s : State) : State := if s.hasDoor p then s else closing p s

/-- R41: the effect of a consumed press. DESIGN CHOICE (log entry 56): R41 has no row for a press that was marked before its pocket
went to FAULT; the mark stays, and the press is consumed and ignored as one of a RESERVED pocket is. -/
def pressEffect (p : PocketNo) (key : Bool) (s : State) : State :=
  let k := s.pocket p
  if k.hold && !key then s
  else
    match k.state with
    | .empty =>
      openLatch p (modPocket p (fun k => { k with state := .openForStock, timer := some 120, timerRunning := true }) s)
    | .stocked =>
      if k.openRelease then pressCloses p s
      else
        match k.contents.bind s.entry? with
        | some e =>
          if key || (s.isCrib p && !decide (e.condition = .ready)) then askRelease p e.tool s else s
        | none => s
    | .openForStock | .awaiting | .wrongTool | .releasing => pressCloses p s
    | .checking => if k.readRequested then s else requestRead p s
    | .reserved | .fault | .absent => s

/-- R39 (row PRESS_REPORTED): a press is marked pending for a present pocket that is not in FAULT, and cleared in the
module without effect otherwise. -/
def execPressReported (p : PocketNo) (s : State) : Host.Outcome State Fault Refusal :=
  .next (if s.running && s.present p && s.moduleActive p && !decide ((s.pocket p).state = .fault) then
           modPocket p (fun k => { k with press := true }) s
         else s)

/-- R39 step 1: the first pocket with a press pending, from where the walk stands. -/
def State.nextPress (s : State) : Option PocketNo :=
  let start := match s.pkc.walk with
    | some w => w
    | none => (s.pkc.lastServed + 1) % 48
  ((List.range 48).map (fun i => (start + i) % 48)).find? (fun p => (s.pocket p).press)

/-- R39: the pending mark is dropped; the walk goes on from the next pocket while another press is pending. -/
def dropPress (p : PocketNo) (s : State) : State :=
  let s := modPocket p (fun k => { k with press := false }) s
  let more := s.pkc.pockets.any (fun k => k.press)
  { s with pkc := { s.pkc with walk := if more then some ((p + 1) % 48) else none } }

/-- R39: the press is consumed and its pocket becomes the last one served. -/
def consumePress (p : PocketNo) (s : State) : State :=
  let s := modPocket p (fun k => { k with press := false }) s
  { s with pkc := { s.pkc with lastServed := p, walk := none } }

/-- R39 to R41 (row PRESS_SERVED): the scanner's check of the next pending press completes. -/
def execPressServed (a : PressAnswer) (key : Bool) (s : State) : Host.Outcome State Fault Refusal :=
  .next (if s.running then
           match s.nextPress with
           | none => s
           | some p =>
             match a with
             | .latched => settleReader (pressEffect p key (consumePress p s))
             | .notLatched => dropPress p s
             | .noAnswer => settleReader (silence (p / 8) (dropPress p s))
         else s)

/-- R43: the pocket timer expires, by the door. -/
def pocketTimerEnds (p : PocketNo) (s : State) : State :=
  if !s.hasDoor p then closing p (modPocket p (fun k => { k with timerRunning := false }) s)
  else
    match (s.pocket p).door with
    | .opened => modPocket p (fun k => { k with timerRunning := false }) s
    | .closed =>
      modPocket p (fun k =>
        match k.state with
        | .openForStock => k.toEmpty
        | .stocked => k.toStocked
        | .absent | .empty | .awaiting | .checking | .reserved | .releasing | .wrongTool | .fault => k) s

/-- R43: the pocket's timer runs and stands at 0, in OPEN_FOR_STOCK or with an open release. -/
def Pocket.timerDue (k : Pocket) : Bool :=
  decide (k.timer = some 0) && k.timerRunning &&
    (decide (k.state = .openForStock) || (decide (k.state = .stocked) && k.openRelease))

/-- R43 (row POCKET_TIMER_EXPIRY). -/
def execPocketTimerExpiry (p : PocketNo) (s : State) : Host.Outcome State Fault Refusal :=
  .next (if s.running && (s.pocket p).timerDue then settleReader (pocketTimerEnds p s) else s)

/-! ### Read attempts (R50) -/

/-- R50: the read in flight ends with an outcome, which is delivered. -/
def endRead (p : PocketNo) (o : Outcome) (s : State) : State :=
  settleReader (deliver p o { s with rds := { s.rds with inFlight := none } })

/-- R50: a FAIL attempt; the third ends the read READ_FAIL. -/
def failAttempt (r : Read) (s : State) : State :=
  if r.fails < 2 then { s with rds := { s.rds with inFlight := some { r with fails := r.fails + 1 } } }
  else endRead r.pocket .readFail s

/-- R50 (row READ_ATTEMPT_END). A tag that reports tool ID 0 or all-ones ends the attempt FAIL. -/
def execReadAttemptEnd (a : AttemptResult) (s : State) : Host.Outcome State Fault Refusal :=
  .next (if s.running then
           match s.rds.inFlight with
           | none => s
           | some r =>
             match a with
             | .tag t kind => if toolIdValid t then endRead r.pocket (.tag t kind) s else failAttempt r s
             | .noTag => endRead r.pocket .noTag s
             | .fail => failAttempt r s
         else s)

end Sys2Proof.Machine
end

