-- ==== Sys2Proof/Machine/Clock.lean ====
section
/-! DEFINITION. The calendar (R176, R177), the second and minute events (R178, R14, R15), the alarms and the age review (R180 to R182),
the backup latch and level (R183, R184), the outage (R187). -/

namespace Sys2Proof.Machine

open Sys2Proof

/-! ### The calendar (R176, R177) -/

/-- R176: a leap year. -/
def leapYear (y : Nat) : Bool := decide (y % 4 = 0) && (!decide (y % 100 = 0) || decide (y % 400 = 0))

/-- R176: the days of a year. -/
def yearDays (y : Nat) : Nat := if leapYear y then 366 else 365

/-- R176: the days of a month in its year. -/
def monthDays (y m : Nat) : Nat :=
  if m = 2 then (if leapYear y then 29 else 28)
  else if m = 4 ∨ m = 6 ∨ m = 9 ∨ m = 11 then 30
  else 31

/-- R176: days_since_2000 of a date. -/
def daysSince2000 (y m d : Nat) : Nat :=
  ((List.range (y - 2000)).map (fun i => yearDays (2000 + i))).sum +
    ((List.range (m - 1)).map (fun i => monthDays y (i + 1))).sum + (d - 1)

/-- R176: the weekday of a date. -/
def weekdayOf (y m d : Nat) : Nat := (daysSince2000 y m d + 6) % 7

/-- The calendar's value to the minute. -/
def Calendar.toStamp (c : Calendar) : Stamp :=
  { year := c.year, month := c.month, day := c.day, hour := c.hour, minute := c.minute }

/-- R176: the minute number of a calendar value. -/
def Stamp.minuteNumber (x : Stamp) : Nat := daysSince2000 x.year x.month x.day * 1440 + x.hour * 60 + x.minute

/-- R177: the last second of the calendar's range. -/
def Calendar.atEnd (c : Calendar) : Bool :=
  decide (c.year = 2199 ∧ c.month = 12 ∧ c.day = 31 ∧ c.hour = 23 ∧ c.minute = 59 ∧ c.second = 59)

/-- R177: the date advances to the next day. -/
def Calendar.nextDay (c : Calendar) : Calendar :=
  let w := (c.weekday + 1) % 7
  if c.day < monthDays c.year c.month then { c with day := c.day + 1, weekday := w }
  else if c.month < 12 then { c with day := 1, month := c.month + 1, weekday := w }
  else { c with day := 1, month := 1, year := c.year + 1, weekday := w }

/-- R177: the calendar one second later. -/
def Calendar.tick (c : Calendar) : Calendar :=
  if c.atEnd then Calendar.origin
  else if c.second < 59 then { c with second := c.second + 1 }
  else if c.minute < 59 then { c with second := 0, minute := c.minute + 1 }
  else if c.hour < 23 then { c with second := 0, minute := 0, hour := c.hour + 1 }
  else Calendar.nextDay { c with second := 0, minute := 0, hour := 0 }

/-- R177: the calendar advances; past its end the trust flag is cleared. -/
def tickCalendar (s : State) : State :=
  let t := s.cck.trust && !s.cck.cal.atEnd
  { s with cck := { s.cck with cal := s.cck.cal.tick, trust := t } }

/-- R15: the last-alive stamp is written with the calendar value. -/
def writeStamp (s : State) : State := { s with trg := { s.trg with stamp := s.cck.cal.toStamp } }

/-! ### The second event (R178) -/

/-- An entry's away timer counts (R178); it is present in AWAY and TRANSIT only (R3). -/
def Entry.second (e : Entry) : Entry := { e with awayTimer := e.awayTimer.map (· - 1) }

/-- R43: a running pocket timer counts, but not in FAULT. -/
def Pocket.second (k : Pocket) : Pocket :=
  if k.timerRunning && !decide (k.state = .fault) then { k with timer := k.timer.map (· - 1) } else k

/-- R112: the timer of a giver transfer counts. -/
def Giver.second (g : Giver) : Giver := { g with timer := g.timer.map (· - 1) }

/-- R112: the timer of a taker transfer counts. -/
def Taker.second (k : Taker) : Taker := { k with timer := k.timer - 1 }

/-- R138: the timer of a claim window counts. -/
def Window.second (w : Window) : Window := { w with timer := w.timer - 1 }

/-- R178: every timer of the node counts one second; a timer at 0 stands there until its expiry is taken. -/
def countTimers (s : State) : State :=
  { s with
    trg := { s.trg with entries := s.trg.entries.map Entry.second },
    pkc := { s.pkc with pockets := s.pkc.pockets.map Pocket.second },
    cue := { s.cue with givers := s.cue.givers.map Giver.second, takers := s.cue.takers.map Taker.second,
                        windows := s.cue.windows.map Window.second },
    hli := { s.hli with joinTimer := s.hli.joinTimer.map (· - 1) } }

/-! ### The minute event (R14, R180 to R182) -/

/-- R6, R14: the preset age raised by n minutes, saturating at 65535. -/
def Entry.older (n : Nat) (e : Entry) : Entry :=
  { e with preset := e.preset.map (fun p => { p with age := min 65535 (p.age + n) }) }

/-- R14, R188: every preset age is raised by n minutes. -/
def agePresets (n : Nat) (s : State) : State :=
  { s with trg := { s.trg with entries := s.trg.entries.map (Entry.older n) } }

/-- R182: the entry is changed by an age review. -/
def State.overAge (s : State) (e : Entry) : Bool :=
  e.here && decide (e.condition = .ready) &&
    match e.preset, s.kind? e.kind with
    | some p, some k => decide (k.ageLimit < p.age)
    | _, _ => false

/-- R182: an age review, in ascending order of tool ID. -/
def ageReview (s : State) : State :=
  ((s.trg.entries.filter s.overAge).map (·.tool)).foldl
    (fun s t => versionedCondition t (fun e => { e with condition := .needsPreset }) s) s

/-- R180: the alarm entry matches the calendar value. -/
def Alarm.matches (c : Calendar) (a : Alarm) : Bool :=
  a.enable &&
    (match a.hour with
      | some h => decide (h = c.hour)
      | none => true) &&
    (match a.minute with
      | some m => decide (m = c.minute)
      | none => true) &&
    a.weekdays.getD c.weekday false

/-- R180: the actions of the entries that match, in the order of the entries; none while the clock is not trusted. -/
def State.alarmActions (s : State) : List AlarmAction :=
  match s.stc.config with
  | some c => if s.cck.trust then (c.alarms.filter (Alarm.matches s.cck.cal)).map (·.action) else []
  | none => []

/-- R181: the action of a matching entry. -/
def alarmAct (a : AlarmAction) (s : State) : State :=
  match a with
  | .sweep => startIdleSweep s
  | .ageReview => ageReview s

/-- R181: the actions one after the other. -/
def actAlarms (l : List AlarmAction) (s : State) : State := l.foldl (fun s a => alarmAct a s) s

/-- R178: the minute event. Whether a review comes before the ageing of the same minute is open (R14) and is taken from
`Config.reviewFirst`. -/
def minuteEvent (s : State) : State :=
  let l := s.alarmActions
  let s := writeStamp s
  if l.contains .ageReview then
    let s' := { s with free := s.free + 1 }
    if Config.reviewFirst s.free then agePresets 1 (actAlarms l s') else actAlarms l (agePresets 1 s')
  else actAlarms l (agePresets 1 s)

/-- R31, R178: what the second event does in the blocks, from the end of RESTORING onward. DESIGN CHOICE (log entry 50): R180
lets a SWEEP and an AGE_REVIEW of one minute act in either order; the sweep makes its first visit after every action of the
minute, so that a read the review asks for is queued ahead of the sweep's. -/
def secondEvent (s : State) : State :=
  let s := retryLatches (countTimers s)
  settleReader (if s.cck.cal.second = 0 then minuteEvent s else s)

/-- R184: the level is read from the end of LOADING onward. -/
def readLevel (low : Bool) (s : State) : State :=
  if s.stc.powered ∧ s.stc.node ≠ .loading then { s with cck := { s.cck with low := low } } else s

/-- R177, R178, R184 (row SECOND_EVENT): the calendar advances in every node state and without main power. -/
def execSecondEvent (low : Bool) (s : State) : Host.Outcome State Fault Refusal :=
  .next (
    let s := readLevel low (tickCalendar s)
    if s.running then secondEvent s else s)

/-- R183 (row BACKUP_LATCH_SET). -/
def execBackupLatchSet (s : State) : Host.Outcome State Fault Refusal :=
  .next { s with cck := { s.cck with latch := true } }

/-! ### The outage and the setting of the clock (R186, R187) -/

/-- R187: the outage in minutes, 0..65535. -/
def State.outage (s : State) : Nat := min 65535 (s.cck.cal.toStamp.minuteNumber - s.trg.stamp.minuteNumber)

/-- R186: the values of a SETCLOCK are in range. -/
def clockInRange (y mo d h mi sec : Nat) : Bool :=
  decide (2000 ≤ y) && decide (y ≤ 2199) && decide (1 ≤ mo) && decide (mo ≤ 12) && decide (1 ≤ d) &&
    decide (d ≤ monthDays y mo) && decide (h ≤ 23) && decide (mi ≤ 59) && decide (sec ≤ 59)

/-- R186: the calendar value set, its weekday formed from the date. -/
def calendarOf (y mo d h mi sec : Nat) : Calendar :=
  { year := y, month := mo, day := d, hour := h, minute := mi, second := sec, weekday := weekdayOf y mo d }

/-- R186: the clock is set, trusted, and the stamp rewritten. -/
def setClock (c : Calendar) (s : State) : State :=
  writeStamp { s with cck := { s.cck with cal := c, trust := true } }

end Sys2Proof.Machine
end

