-- ==== Sys2Proof/Machine/Hall.lean ====
section
/-! DEFINITION. The hall line: sending (R96 to R100), station ID conflict (R101 to R103), a peer's ANNOUNCE (R107 to R110), and the
frames that go to the Tool Register, RECORD (R16) and WHEREIS (R136). -/

namespace Sys2Proof.Machine

open Sys2Proof

/-- R91, R92: the receiver is on and the frame is another station's. -/
def State.hallTaken (s : State) (src : StationId) : Bool :=
  s.running && decide (1 ≤ src) && decide (src ≤ 250) && !decide (src = s.ownId)

/-- R91 (row FRAME_DISCARDED): no effect. -/
def execFrameDiscarded (_bytes : List Byte) (s : State) : Host.Outcome State Fault Refusal := .next s

/-! ### Sending (R96 to R99) -/

/-- R105: the node state an ANNOUNCE carries at an attempt. -/
def NodeState.announced : NodeState → Nat
  | .joining => 4
  | .loading | .hunting | .restoring | .run | .idConflict | .configFault => 5

/-- R105: the frame as it is driven at an attempt. -/
def Frame.atAttempt (n : NodeState) : Frame → Frame
  | .announce a => .announce { a with nodeState := n.announced }
  | .seek m w md l => .seek m w md l
  | .offer d m r => .offer d m r
  | .take d m => .take d m
  | .lapse d m x => .lapse d m x
  | .released d m r => .released d m r
  | .received d m t v => .received d m t v
  | .record r => .record r
  | .whereis t => .whereis t

/-- The send in flight becomes x. -/
def setSend (x : Option Send) (s : State) : State := { s with hli := { s.hli with send := x } }

/-- R97: attempt k of a frame begins. -/
def drive (f : Frame) (o : FrameOwner) (k : Nat) (s : State) : State :=
  setSend (some { frame := f.atAttempt s.stc.node, owner := o, attempt := k, phase := .driving }) s

/-- R96: the head of the routine queue is chosen. -/
def beginRoutine (s : State) : State :=
  match s.hli.routine with
  | [] => s
  | f :: q => drive f .unowned 1 { s with hli := { s.hli with routine := q } }

/-- R96: the frame chosen in RUN. -/
def beginRun (s : State) : State :=
  match s.hli.urgent with
  | [] => beginRoutine s
  | u :: q => drive u.frame u.owner 1 { s with hli := { s.hli with urgent := q } }

/-- R96: the ANNOUNCE, wherever it stands in the routine queue. -/
def beginJoining (s : State) : State :=
  match s.hli.routine.find? Frame.isAnnounce with
  | some f => drive f .unowned 1 { s with hli := { s.hli with routine := s.hli.routine.eraseP Frame.isAnnounce } }
  | none => s

/-- R96: a new send begins, by the node state. -/
def beginSend (s : State) : State :=
  match s.stc.node with
  | .joining => beginJoining s
  | .run => beginRun s
  | .loading | .hunting | .restoring | .idConflict | .configFault => s

/-- R96, R97 (row SEND_ATTEMPT): the line is found quiet; a new send begins, or the send that waits for quiet drives its
next attempt. -/
def execSendAttempt (s : State) : Host.Outcome State Fault Refusal :=
  .next (if s.running then
           match s.hli.send with
           | none => beginSend s
           | some x =>
             match x.phase with
             | .quietWait => drive x.frame x.owner (x.attempt + 1) s
             | .driving | .backoff _ => s
         else s)

/-- R97 (row ATTEMPT_SENT): the frame is finished. -/
def execAttemptSent (s : State) : Host.Outcome State Fault Refusal :=
  .next (match s.hli.send with
    | some x => if s.running ∧ x.phase = .driving then setSend none s else s
    | none => s)

/-- R99: the back-off after attempt k, in slot times. -/
def backoffSlots (own k : Nat) : Nat := (own + 7 * k) % 16 + 1

/-- R137: SEND_FAILED of a frame of a taker transfer. -/
def takerSendFailed (f : Frame) (n : SeekNo) (s : State) : State :=
  match s.taker? n with
  | none => s
  | some k =>
    match f, k.state with
    | .seek _ _ _ _, .seeking => failTaker k .line s
    | .take d _, .taking => if k.counterpart = some d then fallBack k s else s
    | _, _ => s

/-- R137: SEND_FAILED of a frame of a giver transfer. -/
def giverSendFailed (f : Frame) (seeker : StationId) (n : SeekNo) (s : State) : State :=
  match s.giver? seeker n with
  | none => s
  | some g =>
    match f, g.state with
    | .offer _ _ _, .offered => endOffered g s
    | _, _ => s

/-- R100, R137: SEND_FAILED reaches the frame's owner. -/
def sendFailed (f : Frame) (o : FrameOwner) (s : State) : State :=
  match o with
  | .taker n => takerSendFailed f n s
  | .giver seeker n => giverSendFailed f seeker n s
  | .window _ | .unowned => s

/-- R99: the attempt of send x ends COLLIDED. -/
def collide (x : Send) (s : State) : State :=
  if x.attempt < 8 then setSend (some { x with phase := .backoff (backoffSlots s.ownId x.attempt) }) s
  else sendFailed x.frame x.owner (setSend none s)

/-- R99 (row ATTEMPT_COLLIDED). -/
def execAttemptCollided (s : State) : Host.Outcome State Fault Refusal :=
  .next (match s.hli.send with
    | some x => if s.running ∧ x.phase = .driving then settleReader (collide x s) else s
    | none => s)

/-- R99 (row BACKOFF_EXPIRY): the back-off ends and the next attempt waits for a quiet line. -/
def execBackoffExpiry (s : State) : Host.Outcome State Fault Refusal :=
  .next (match s.hli.send with
    | some x =>
      match x.phase with
      | .backoff _ => if s.running then setSend (some { x with phase := .quietWait }) s else s
      | .driving | .quietWait => s
    | none => s)

/-! ### Joining and station ID conflict (R101 to R103, R106) -/

/-- R189: the node state becomes n. -/
def setNode (n : NodeState) (s : State) : State := { s with stc := { s.stc with node := n } }

/-- R59, R106 (row JOIN_TIMER_EXPIRY): JOINING ends, and the sweep of R59 starts. A sweep begun in JOINING goes on as it
was: the dash of R59's table is read as no effect (DEDUCED, log entry 46). -/
def execJoinTimerExpiry (s : State) : Host.Outcome State Fault Refusal :=
  .next (if s.running ∧ s.stc.node = .joining ∧ s.hli.joinTimer = some 0 then
           settleReader (startIdleSweep { setNode .run s with hli := { s.hli with joinTimer := none } })
         else s)

/-- R102: every open transfer is ended locally: a giver as on LAPSE(WITHDRAWN), a taker with LINE. DESIGN CHOICE (log
entry 47): the givers first, in the order of the table, then the takers. -/
def endTransfers (s : State) : State :=
  let s := s.cue.givers.foldl (fun s g => lapseGiver g s) s
  s.cue.takers.foldl (fun s k => failTaker k .line s) s

/-- R101: the transmitter at the entry into ID_CONFLICT. -/
def stopSending (s : State) : State := { s with hli := { s.hli with urgent := [], routine := [], send := none } }

/-- R101 to R103: the entry into ID_CONFLICT. Leaving JOINING starts the sweep of R59, as in `execJoinTimerExpiry`. DESIGN CHOICE
(log entry 58): the transfers end before the sweep starts, so that the reads they ask for are queued ahead of its first. -/
def enterConflict (s : State) : State :=
  let wasJoining := decide (s.stc.node = .joining)
  let s := endTransfers (stopSending (setNode .idConflict s))
  if wasJoining then startIdleSweep s else s

/-- R101 (row ID_CONFLICT): a node that is in ID_CONFLICT already does nothing more. -/
def execIdConflict (s : State) : Host.Outcome State Fault Refusal :=
  .next (if s.running ∧ s.stc.node ≠ .idConflict then settleReader (enterConflict s) else s)

/-! ### A peer's ANNOUNCE (R107 to R110) -/

/-- R107: the ANNOUNCE passes its test. -/
def announceTested (dst : StationId) (a : Announce) : Bool :=
  decide (dst = 0) && decide (a.crib + a.magazine ≤ 48) && (decide (a.nodeState = 4) || decide (a.nodeState = 5))

/-- R107: the giver transfers whose seeker is station src. -/
def State.giversOf (s : State) (src : StationId) : List Giver := s.cue.givers.filter (fun g => g.seeker == src)

/-- R107: the taker transfers past SEEKING whose current offer came from station src. -/
def State.takersOf (s : State) (src : StationId) : List Taker :=
  s.cue.takers.filter (fun k => k.targeting && decide (k.counterpart = some src))

/-- R109: the offers of station src leave every offer list of a taker in SEEKING. -/
def dropOffers (src : StationId) (s : State) : State :=
  let f : Taker → Taker := fun k =>
    if k.state = .seeking then { k with offers := k.offers.filter (fun o => o.station != src) } else k
  { s with cue := { s.cue with takers := s.cue.takers.map f } }

/-- R109: every cached entry whose custodian is station src is deleted (R13). -/
def purgeCached (src : StationId) (s : State) : State :=
  (s.trg.entries.filter (fun e => !e.here && decide (e.custodian = src))).foldl (fun s e => dropEntry e.tool s) s

/-- R108, R109: the RAM-valid flag is clear. DESIGN CHOICE (log entry 47): the givers first, in the order of the table, then
the takers. -/
def counterpartReset (src : StationId) (s : State) : State :=
  let s := (s.giversOf src).foldl (fun s g => lapseGiver g s) s
  let s := (s.takersOf src).foldl (fun s k => failTaker k .counterpartReset s) s
  purgeCached src (dropOffers src s)

/-- R110: a frame is handed over once more unless it is queued or in flight. -/
def repeatFrame (f : Frame) (s : State) : State := if s.frameQueued f then s else handPlain f .unowned s

/-- R110: the RAM-valid flag is set; the last frame of every counterpart transfer is queued again. DESIGN CHOICE (log
entry 47): the givers' frames first, in the order of the table, then the takers'. -/
def resync (src : StationId) (s : State) : State :=
  let s := (s.giversOf src).foldl (fun s g => repeatFrame g.lastFrame s) s
  (s.takersOf src).foldl (fun s k => repeatFrame k.lastFrame s) s

/-- R107 (row ANNOUNCE_RECEIVED). -/
def execAnnounceReceived (dst src : StationId) (a : Announce) (s : State) : Host.Outcome State Fault Refusal :=
  .next (if s.hallTaken src && announceTested dst a then
           if a.ramValid then resync src s else settleReader (counterpartReset src s)
         else s)

/-! ### RECORD and WHEREIS -/

/-- R16 to R23, R135, R142 (row RECORD_RECEIVED): a malformed record is dropped. -/
def execRecordReceived (src : StationId) (t : Tdr) (s : State) : Host.Outcome State Fault Refusal :=
  .next (if s.hallTaken src then
           match s.takeTdr src t with
           | some r => settleReader (mergeRecord r s)
           | none => s
         else s)

/-- R136 (row WHEREIS_RECEIVED): a custody entry is answered with its RECORD, unless its adoption window is open (R141). -/
def execWhereisReceived (src : StationId) (t : ToolId) (s : State) : Host.Outcome State Fault Refusal :=
  .next (if s.hallTaken src then handRecord t s else s)

end Sys2Proof.Machine
end

