-- ==== Sys2Proof/Machine/Preset.lean ====
section
/-! DEFINITION. The presetter head: gauge custody (R68 to R71), bursts (R72 to R75), the reduction (R76 to R83), demand promotion (R87). -/

namespace Sys2Proof.Machine

open Sys2Proof

/-! ### Gauge custody (R68 to R71) -/

/-- R68: the entry of a tool that stands on the spindle, with the kind read (R2). -/
def Entry.toGauge (s : State) (kind : Nat) (e : Entry) : Entry :=
  { Entry.withKind s kind e with custody := .atGauge, pocket := none, destination := none, awayTimer := none }

/-- R4, R68: the tool's entry becomes AT_GAUGE in one versioned change; an entry already there becomes AWAY first. -/
def becomeGauge (t : ToolId) (kind : Nat) (s : State) : State :=
  let s := displaceGauge t s
  versionedCondition t (Entry.toGauge s kind) s

/-- R68 third row: the tool of pocket q is on the gauge. The move is a change forced under R4, so the sum is formed with the
departures of q ended. With room q is vacated as the row gives. At the outside limit nothing moves: the entry is deleted from where
it stands, which leaves q EMPTY as R13 gives, without a read asked for it and without a vacated mark. DESIGN CHOICE (log entry 57):
LIMIT then names the gauge, 48, where R169 lets it name the pocket or the gauge. -/
def gaugeFromPocket (t : ToolId) (kind : Nat) (q : Option PocketNo) (s : State) : State :=
  let stayed := withdrawGiver .elsewhere t s
  let moved := match q with
    | some p => vacateMoved p t stayed
    | none => stayed
  if moved.departureRoom then becomeGauge t kind moved else noticeLimit 48 t (deleteEntry t stayed)

/-- R68: the Tool Register takes tool t into gauge custody, by its entry here. -/
def takeToGauge (t : ToolId) (kind : Nat) (s : State) : State :=
  match s.entry? t with
  | none => foreignArrival t kind .gauge s
  | some e =>
    match e.custody with
    | .away | .lost => becomeGauge t kind s
    | .transit => becomeGauge t kind (withdrawGiver .elsewhere t s)
    | .stocked | .reserved | .releasing => gaugeFromPocket t kind e.pocket s
    | .atGauge => retag t kind s
    | .foreign => foreignArrival t kind .gauge s

/-- R70: the gauge tool leaves the spindle. Its entry becomes AWAY under an open adoption window too (R146), and an
adoption that waits at the gauge is withdrawn (R145). -/
def tagGone (s : State) : State :=
  match s.pru.gauge with
  | none => s
  | some g =>
    let s := endBursts s
    let s := match s.entry? g.tool with
      | some e => if e.custody = .atGauge then versioned g.tool Entry.goAway s else s
      | none => s
    let s := dropWaitingAt .gauge s
    { s with pru := { s.pru with gauge := none } }

/-- R68: a TAG accepted while the gauge tool is none. -/
def newGaugeTool (t : ToolId) (kind : Nat) (s : State) : State :=
  takeToGauge t kind { s with pru := { s.pru with gauge := some { tool := t, kind := kind } } }

/-- R69: the gauge tool takes a new kind. -/
def gaugeKind (t : ToolId) (kind : Nat) (s : State) : State :=
  retag t kind { s with pru := { s.pru with gauge := some { tool := t, kind := kind }, first := none } }

/-- R68, R69: an accepted TAG. -/
def headTag (t : ToolId) (kind : Nat) (s : State) : State :=
  match s.pru.gauge with
  | none => newGaugeTool t kind s
  | some g =>
    if g.tool = t then (if g.kind = kind then s else gaugeKind t kind s)
    else newGaugeTool t kind (tagGone s)

/-- R65: the head port is read: from the end of RESTORING, with a head fitted. -/
def State.headReads (s : State) : Bool := s.running && s.headFitted

/-- R65 (row HEAD_MESSAGE_DISCARDED): no effect. -/
def execHeadMessageDiscarded (_bytes : List Byte) (s : State) : Host.Outcome State Fault Refusal := .next s

/-- R68, R69 (row HEAD_TAG). A TAG that fails its acceptance check is discarded (R65). -/
def execHeadTag (t : ToolId) (kind : Nat) (s : State) : Host.Outcome State Fault Refusal :=
  .next (if s.headReads && toolIdValid t && decide (kind < 64) then settleReader (headTag t kind s) else s)

/-- R70 (row HEAD_TAG_GONE). -/
def execHeadTagGone (s : State) : Host.Outcome State Fault Refusal := .next (if s.headReads then tagGone s else s)

/-! ### Bursts (R72 to R74) -/

/-- R73: the sample count clamped to 4..32. -/
def clampCount (n : Nat) : Nat := max 4 (min n 32)

/-- R73: T of the burst. -/
def clampTemperature : Option Int → Int
  | some t => max (-1000) (min t 6000)
  | none => 2000

/-- R73: the temperature was clamped or none. -/
def temperatureProvisional : Option Int → Bool
  | some t => decide (t < -1000) || decide (6000 < t)
  | none => true

/-- R73: the new burst record. -/
def newBurst (tool : Option ToolId) (n : Nat) (edge : Bool) (temperature : Option Int) : Burst :=
  { tool := tool, n := clampCount n, edge := edge, temperature := clampTemperature temperature,
    provisional := temperatureProvisional temperature, slots := List.replicate 32 none }

/-- R73 (row BURST_START). -/
def execBurstStart (n : Nat) (edge : Bool) (temperature : Option Int) (s : State) : Host.Outcome State Fault Refusal :=
  .next (if s.headReads then
           let s := abortBurst s
           let b := newBurst (s.pru.gauge.map (·.tool)) n edge temperature
           { s with pru := { s.pru with burst := some b } }
         else s)

/-- R74: a sample stored in its slot; one with index n or above is ignored. -/
def Burst.store (index : Nat) (x : SampleSlot) (b : Burst) : Burst :=
  if index < b.n then { b with slots := b.slots.set index (some x) } else b

/-- R74 (row SAMPLE). -/
def execSample (index : Nat) (z x : Int) (valid : Bool) (s : State) : Host.Outcome State Fault Refusal :=
  .next (if s.headReads then
           let b := s.pru.burst.map (Burst.store index { z := z, x := x, valid := valid })
           { s with pru := { s.pru with burst := b } }
         else s)

/-! ### The reduction (R76 to R81) -/

/-- R76: the Z and X of a valid sample. -/
def validSample : Option SampleSlot → Option (Nat × Nat)
  | some a =>
    if a.valid = true ∧ 0 ≤ a.z ∧ a.z ≤ 6000000 ∧ 0 ≤ a.x ∧ a.x ≤ 1250000 then some (a.z.toNat, a.x.toNat) else none
  | none => none

/-- R76: the valid samples of slots 0..n-1. -/
def Burst.valid (b : Burst) : List (Nat × Nat) := (b.slots.take b.n).filterMap validSample

/-- R78: the thermal correction of a raw value: the exact product over 10^10, rounded to nearest, ties away from zero. -/
def thermal (raw alpha : Nat) (dT : Int) : Int :=
  let p : Int := raw * alpha * dT
  let q : Nat := p.natAbs / 10000000000
  let r : Nat := p.natAbs % 10000000000
  let m : Nat := if 10000000000 ≤ 2 * r then q + 1 else q
  if p < 0 then -(m : Int) else (m : Int)

/-- R78: a raw value corrected and clamped to 0..top. -/
def corrected (top raw alpha : Nat) (dT : Int) : Nat := (max 0 (min (raw - thermal raw alpha dT) top)).toNat

/-- R76: the largest of a list of values. -/
def largest (l : List Nat) : Nat := l.foldl max 0

/-- R76: the smallest of a list of values, each at most top. -/
def smallest (top : Nat) (l : List Nat) : Nat := l.foldl min top

/-- R76 to R78: the values of one closed burst with valid samples v. -/
def Burst.reduce (tool : ToolId) (alpha : Nat) (v : List (Nat × Nat)) (b : Burst) : FirstBurst :=
  let zs := v.map Prod.fst
  let xs := v.map Prod.snd
  let dT := b.temperature - 2000
  { tool := tool, cl := corrected 6000000 (largest zs) alpha dT, cr := corrected 1250000 (largest xs) alpha dT,
    runout := largest xs - smallest 1250000 xs, edge := b.edge, provisional := b.provisional }

/-- The absolute difference of two values. -/
def absDiff (a b : Nat) : Nat := max a b - min a b

/-- R80: the second burst repeats the first within the band. -/
def repeats (band : Nat) (a b : FirstBurst) : Bool :=
  decide (absDiff a.cl b.cl ≤ band) && decide (absDiff a.cr b.cr ≤ band)

/-- R80: the mean of two values, rounded half up. -/
def meanUp (a b : Nat) : Nat := (a + b + 1) / 2

/-- R80: two bursts combined. -/
def combine (a b : FirstBurst) : FirstBurst :=
  { tool := b.tool, cl := meanUp a.cl b.cl, cr := meanUp a.cr b.cr, runout := max a.runout b.runout,
    edge := a.edge || b.edge, provisional := a.provisional || b.provisional }

/-- R81: what the checks find. -/
inductive Verdict where
  | pass | failRunout | failTol
  deriving DecidableEq, Repr

/-- R81: the checks, in their order; a value equal to its limit passes. -/
def judge (k : KindEntry) (v : FirstBurst) : Verdict :=
  if k.runoutLimit < v.runout then .failRunout
  else if k.tolLength < absDiff v.cl k.nominalLength ∨ k.tolRadius < absDiff v.cr k.nominalRadius then .failTol
  else .pass

/-- R66: the RESULT outcome of a verdict. -/
def Verdict.outcome : Verdict → BurstOutcome
  | .pass => .pass
  | .failRunout => .failRunout
  | .failTol => .failTol

/-- R66: a RESULT that carries a burst's values. -/
def FirstBurst.result (o : BurstOutcome) (v : FirstBurst) : Result :=
  { outcome := o, cl := v.cl, cr := v.cr, runout := v.runout }

/-- R83: the condition after a preset, by the condition before and the life after. -/
def presetCondition (v : Verdict) (life : Nat) (c : Condition) : Condition :=
  match c with
  | .quarantine .duplicate => .quarantine .duplicate
  | .quarantine .operator => .quarantine .operator
  | .ready | .needsPreset | .expired | .quarantine .outOfTol | .quarantine .runout =>
    match v with
    | .pass => if 0 < life then .ready else .expired
    | .failRunout => .quarantine .runout
    | .failTol => .quarantine .outOfTol

/-- R82, R83: the entry after a preset. -/
def Entry.presetWith (own : StationId) (k : KindEntry) (v : FirstBurst) (e : Entry) : Entry :=
  let life := if v.edge then k.fullLife else e.life
  { e with preset := some { cls := if v.provisional then .provisional else .full, cl := v.cl, cr := v.cr,
                            runout := v.runout, station := own, age := 0 },
           used := 0, life := life, remainder := if v.edge then 0 else e.remainder,
           condition := presetCondition (judge k v) life e.condition }

/-- R81 to R83: the final values are judged and handed to the Tool Register, and the RESULT is sent. -/
def concludePreset (t : ToolId) (k : KindEntry) (v : FirstBurst) (s : State) : State :=
  let s := presetReport t (versioned t (Entry.presetWith s.ownId k v) s)
  sendResult (v.result (judge k v).outcome) s

/-- The pending first burst becomes x. -/
def setFirst (x : Option FirstBurst) (s : State) : State := { s with pru := { s.pru with first := x } }

/-- R79, R80: the values of a reduced burst, by the kind's number of bursts. -/
def concludeReduced (t : ToolId) (k : KindEntry) (v : FirstBurst) (s : State) : State :=
  if k.bursts = 2 then
    match s.pru.first with
    | none => sendResult (v.result .again) (setFirst (some v) s)
    | some a =>
      if repeats k.band a v then concludePreset t k (combine a v) (setFirst none s)
      else sendResult (v.result .repeatFail) (setFirst none s)
  else concludePreset t k v (setFirst none s)

/-- R75: the kind of the settled gauge tool decides, then the number of valid samples. -/
def concludeSettled (g : GaugeTool) (b : Burst) (s : State) : State :=
  match s.kind? g.kind with
  | none => sendResult (Result.bare .kindUnknown) (setFirst none s)
  | some k =>
    if b.valid.length < 4 then sendResult (Result.bare .shortBurst) s
    else concludeReduced g.tool k (b.reduce g.tool k.alpha b.valid) s

/-- R75: a burst closed at BURST_END concludes by the first row of the table that applies. -/
def concludeBurst (b : Burst) (s : State) : State :=
  match b.tool, s.pru.gauge with
  | some _, some g =>
    if s.gaugeSettled g.tool then concludeSettled g b s
    else sendResult (Result.bare .noCustody) (setFirst none s)
  | _, _ => sendResult (Result.bare .noCustody) (setFirst none s)

/-- R75 (row BURST_END). -/
def execBurstEnd (s : State) : Host.Outcome State Fault Refusal :=
  .next (if s.headReads then
           match s.pru.burst with
           | some b => concludeBurst b { s with pru := { s.pru with burst := none } }
           | none => s
         else s)

/-- R66 (row RESULT_SENT): the waiting RESULT, if any, is sent. -/
def execResultSent (s : State) : Host.Outcome State Fault Refusal :=
  .next (if s.headReads then { s with pru := { s.pru with tx := s.pru.txWait, txWait := none } } else s)

/-! ### Demand promotion (R87) -/

/-- R87: the entry's tool is a candidate of a promotion of a kind with this age limit. -/
def Entry.promotable (kind ageLimit : Nat) (e : Entry) : Bool :=
  decide (e.custody = .stocked) && decide (e.kind = kind) &&
    (e.condition.queued ||
      (decide (e.condition = .ready) &&
        match e.preset with
        | some p => decide (ageLimit < p.age)
        | none => false))

/-- R87: of two entries the one in the lower pocket. -/
def lowerPocket (a b : Entry) : Entry :=
  match a.pocket, b.pocket with
  | some p, some q => if q < p then b else a
  | none, some _ => b
  | _, none => a

/-- R87: the candidate chosen: the one nearest the head of the queue, else the one in the lowest pocket. -/
def State.promotion (s : State) (kind ageLimit : Nat) : Option ToolId :=
  let cs := s.trg.entries.filter (Entry.promotable kind ageLimit)
  match s.pru.queue.find? (fun t => cs.any (fun e => e.tool == t)) with
  | some t => some t
  | none =>
    match cs with
    | [] => none
    | e :: es => some (es.foldl lowerPocket e).tool

/-- R87: the queue with tool t moved to the head; the tail makes room in a full queue. -/
def promoted (t : ToolId) (q : List ToolId) : List ToolId := t :: (q.filter (· != t)).take 31

/-- R87: demand promotion of a kind. -/
def promote (kind : Nat) (s : State) : State :=
  match s.kind? kind with
  | none => s
  | some k =>
    match s.promotion kind k.ageLimit with
    | none => s
    | some t =>
      let s := match s.entry? t with
        | some e => if e.condition = .ready then versioned t (fun e => { e with condition := .needsPreset }) s else s
        | none => s
      setPresetQueue (promoted t s.pru.queue) s

end Sys2Proof.Machine
end

