-- ==== Sys2Proof/Machine/Transfers.lean ====
section
/-! DEFINITION. The protocol frames of a handoff (R115 to R136) and the expiries of the Custody Engine's and the register's timers. -/

namespace Sys2Proof.Machine

open Sys2Proof

/-! ### SEEK (R124 to R127) -/

/-- R127: the giver transfer opened for entry e in pocket q. -/
def newGiver (src : StationId) (n : SeekNo) (w : Want) (m : SeekMode) (minLife : Nat) (q : PocketNo) (e : Entry) : Giver :=
  { state := .offered, seeker := src, seek := n, want := w, mode := m, minLife := minLife, tool := e.tool,
    pocket := some q, timer := some 6, expired := false, withdrawing := false, lastFrame := .offer src n e.record }

/-- R44, R127: pocket q is reserved, the entry becomes RESERVED at its version, and the transfer opens. -/
def openGiver (g : Giver) (q : PocketNo) (s : State) : State :=
  let s := modPocket q (fun k => { k with state := .reserved }) s
  let s := modEntry g.tool (fun e => { e with custody := .reserved }) s
  handOffer g { s with cue := { s.cue with givers := s.cue.givers ++ [g] } }

/-- R127: the first candidate whose pocket grants the reservation, with that pocket. -/
def State.firstReservable (s : State) : List Entry → Option (Entry × PocketNo)
  | [] => none
  | e :: es =>
    match e.pocket with
    | some q => if s.reservable q then some (e, q) else s.firstReservable es
    | none => s.firstReservable es

/-- R127: the three things an offer needs, in their order. -/
def State.mayOffer (s : State) : Bool := decide (s.openTransfers < 8) && s.departureRoom && s.urgentSpace

/-- R127: a SEEK with no candidates asks for demand promotion of a kind. -/
def seekUnfilled (w : Want) (s : State) : State :=
  match w with
  | .kind k => promote k s
  | .tool _ => s

/-- R127: the SEEK is answered. -/
def answerSeek (src : StationId) (n : SeekNo) (w : Want) (m : SeekMode) (minLife : Nat) (s : State) : State :=
  match s.candidates w m minLife with
  | [] => seekUnfilled w s
  | c :: cs =>
    if s.mayOffer then
      match s.firstReservable (c :: cs) with
      | some (e, q) => openGiver (newGiver src n w m minLife q e) q s
      | none => s
    else s

/-- R124: the kind of a kind seek is defined here. -/
def State.knowsWant (s : State) (w : Want) : Bool :=
  match w with
  | .kind k => (s.kind? k).isSome
  | .tool _ => true

/-- R124 (row SEEK_RECEIVED). -/
def execSeekReceived (src : StationId) (n : SeekNo) (w : Want) (mode minLife : Nat) (s : State) :
    Host.Outcome State Fault Refusal :=
  .next (if s.hallTaken src && (s.giver? src n).isNone && s.knowsWant w then
           match modeOfCode mode with
           | some m => answerSeek src n w m minLife s
           | none => s
         else s)

/-! ### OFFER (R116, R117) -/

/-- R116, R117: an OFFER whose record has passed R16 or not, at the taker transfer it names. -/
def takeOffer (src : StationId) (r : Option Record) (k : Taker) (s : State) : State :=
  match k.state, r with
  | .seeking, some r =>
    if k.acceptsOffer r then putTaker { k with offers := placeOffer { station := src, record := r } k.offers } s else s
  | .seeking, none => s
  | .taking, _ => if k.counterpart = some src then repeatFrame k.lastFrame s else s
  | .awaitingArrival, _ => s

/-- R116, R117 (row OFFER_RECEIVED): offers are tested with the checks of R16 and kept as they arrived (log entry 22). -/
def execOfferReceived (src : StationId) (n : SeekNo) (t : Tdr) (s : State) : Host.Outcome State Fault Refusal :=
  .next (if s.hallTaken src then
           match s.taker? n with
           | some k => takeOffer src (recordOfTdr src t) k s
           | none => s
         else s)

/-! ### TAKE (R128) -/

/-- R44, R128: the reserved pocket is released. -/
def release (g : Giver) (s : State) : State :=
  let s := putGiver { g with state := .releasing, timer := some 300 } s
  let s := modEntry g.tool (fun e => { e with custody := .releasing }) s
  match g.pocket with
  | some q => openLatch q (modPocket q (fun k => { k with state := .releasing }) s)
  | none => s

/-- R128: the answer to a TAKE that names no open giver transfer. -/
def lateTake (src : StationId) (n : SeekNo) (s : State) : State :=
  sendLapse src n (if s.cue.lapsed.contains (src, n) then .tooLate else .notYours) .unowned s

/-- R128: a TAKE, by the giver transfer it names. -/
def takeTaken (src : StationId) (n : SeekNo) (s : State) : State :=
  match s.giver? src n with
  | some g =>
    match g.state with
    | .offered => release g s
    | .releasing => s
    | .transit => repeatFrame g.lastFrame s
  | none => lateTake src n s

/-- R128 (row TAKE_RECEIVED). -/
def execTakeReceived (src : StationId) (n : SeekNo) (s : State) : Host.Outcome State Fault Refusal :=
  .next (if s.hallTaken src then settleReader (takeTaken src n s) else s)

/-! ### LAPSE (R119, R131) -/

/-- R119: the offer of station src leaves the taker's list. -/
def dropOffer (src : StationId) (k : Taker) (s : State) : State :=
  putTaker { k with offers := k.offers.filter (fun o => o.station != src) } s

/-- R119: a LAPSE for a taker transfer. -/
def takerLapse (src : StationId) (k : Taker) (s : State) : State :=
  match k.state with
  | .seeking => dropOffer src k s
  | .taking => if k.counterpart = some src then fallBack k s else dropOffer src k s
  | .awaitingArrival => if k.counterpart = some src then failTaker k .lapsed s else s

/-- R131: a LAPSE for the giver transfer of the sender and seek number. -/
def giverLapse (src : StationId) (n : SeekNo) (s : State) : State :=
  match s.giver? src n with
  | some g => lapseGiver g s
  | none => s

/-- R119, R131 (row LAPSE_RECEIVED). The frame does not say which side it is for; each rule acts on the transfer it
finds, whatever the reason (log entry 28). -/
def execLapseReceived (src : StationId) (n : SeekNo) (_reason : LapseReason) (s : State) :
    Host.Outcome State Fault Refusal :=
  .next (if s.hallTaken src then
           let s := giverLapse src n s
           settleReader (match s.taker? n with
             | some k => takerLapse src k s
             | none => s)
         else s)

/-! ### RELEASED and RECEIVED (R120, R133) -/

/-- R120: the taker transfer that a RELEASED of tool t names. -/
def takerReleased (src : StationId) (n : SeekNo) (t : ToolId) (s : State) : State :=
  match s.taker? n with
  | some k =>
    if k.state = .taking ∧ k.counterpart = some src ∧ k.expected = some t then
      putTaker { k with state := .awaitingArrival, timer := 900 } s
    else s
  | none => s

/-- R120 (row RELEASED_RECEIVED): merged as a RECORD, then by the taker transfer. -/
def execReleasedReceived (src : StationId) (n : SeekNo) (t : Tdr) (s : State) : Host.Outcome State Fault Refusal :=
  .next (if s.hallTaken src then
           match s.takeTdr src t with
           | some r => settleReader (takerReleased src n r.tool (mergeRecord r s))
           | none => s
         else s)

/-- R133: in RELEASING the pocket is re-latched with the tool gone, verified clear. -/
def giverPocketGone (g : Giver) (s : State) : State :=
  match g.state, g.pocket with
  | .releasing, some q => relatchGone q (modPocket q (fun k => { k with verified := false }) s)
  | _, _ => s

/-- R133: a RECEIVED closes the giver transfer g. -/
def received (g : Giver) (v : Version) (s : State) : State :=
  let s := cacheReceived g.seeker g.tool v s
  closeTransitCheck g.tool (closeGiver g (giverPocketGone g s))

/-- R133: the giver transfer that a RECEIVED of tool t matches. -/
def State.receivedMatch (s : State) (src : StationId) (n : SeekNo) (t : ToolId) : Option Giver :=
  match s.giver? src n with
  | some g => if g.tool = t ∧ g.state ≠ .offered then some g else none
  | none => none

/-- R133 (row RECEIVED_FRAME). -/
def execReceivedFrame (src : StationId) (n : SeekNo) (t : ToolId) (v : Version) (s : State) :
    Host.Outcome State Fault Refusal :=
  .next (if s.hallTaken src then
           match s.receivedMatch src n t with
           | some g => settleReader (received g v s)
           | none =>
             match s.entry? t with
             | some e => if e.custody = .lost then cacheReceived src t v s else s
             | none => s
         else s)

/-! ### Timers of the transfers (R118, R122, R128, R130) -/

/-- R118: the window of a taker in SEEKING closes. -/
def windowEnds (k : Taker) (s : State) : State :=
  if k.offers.isEmpty then failTaker k .noOffer s
  else if s.targetable k.pocket then
    takeNext k.offers { k with state := .taking, timer := 320 } (target k.pocket k.seek s)
  else failTaker k .pocket s

/-- R118 (row WINDOW_TIMER_EXPIRY). -/
def execWindowTimerExpiry (n : SeekNo) (s : State) : Host.Outcome State Fault Refusal :=
  .next (match s.taker? n with
    | some k => if s.running ∧ k.state = .seeking ∧ k.timer = 0 then settleReader (windowEnds k s) else s
    | none => s)

/-- R122 (row DEADLINE_EXPIRY). -/
def execDeadlineExpiry (n : SeekNo) (s : State) : Host.Outcome State Fault Refusal :=
  .next (match s.taker? n with
    | some k =>
      if s.running ∧ k.state ≠ .seeking ∧ k.timer = 0 then settleReader (failTaker k .timeout s) else s
    | none => s)

/-- R128 (row HOLD_TIMER_EXPIRY). -/
def execHoldTimerExpiry (seeker : StationId) (n : SeekNo) (s : State) : Host.Outcome State Fault Refusal :=
  .next (match s.giver? seeker n with
    | some g => if s.running ∧ g.state = .offered ∧ g.timer = some 0 then endOffered g s else s
    | none => s)

/-- R130: the release timer of giver g expires. -/
def releaseEnds (g : Giver) (s : State) : State := readGiverPocket g (putGiver { g with expired := true } s)

/-- R130 (row RELEASE_TIMER_EXPIRY). -/
def execReleaseTimerExpiry (seeker : StationId) (n : SeekNo) (s : State) : Host.Outcome State Fault Refusal :=
  .next (match s.giver? seeker n with
    | some g =>
      if s.running ∧ g.state = .releasing ∧ g.timer = some 0 ∧ g.expired = false then settleReader (releaseEnds g s)
      else s
    | none => s)

/-! ### Away timers, transit checks, claim windows (R134, R135, R143, R151) -/

/-- R135, R151: the entry becomes LOST. -/
def Entry.lose (e : Entry) : Entry := { e with custody := .lost, destination := none, awayTimer := none }

/-- R151 (row AWAY_TIMER_EXPIRY). -/
def execAwayTimerExpiry (t : ToolId) (s : State) : Host.Outcome State Fault Refusal :=
  .next (match s.entry? t with
    | some e => if s.running ∧ e.custody = .away ∧ e.awayTimer = some 0 then versioned t Entry.lose s else s
    | none => s)

/-- R134: the entry is due for a transit check that has not begun. -/
def State.transitDue (s : State) (e : Entry) : Bool :=
  decide (e.custody = .transit) && decide (e.awayTimer = some 0) && !s.transitChecking e.tool

/-- R134: the tools due for a transit check, ascending. -/
def State.transitsDue (s : State) : List ToolId := (s.trg.entries.filter s.transitDue).map (·.tool)

/-- R134 (row TRANSIT_TIMER_EXPIRY): the checks due begin in ascending order of tool ID, as far as tool t. -/
def execTransitTimerExpiry (t : ToolId) (s : State) : Host.Outcome State Fault Refusal :=
  .next (if s.running && s.transitsDue.contains t then
           (s.transitsDue.filter (fun u => decide (u ≤ t))).foldl (fun s u => beginTransitCheck u s) s
         else s)

/-- R135: the giver transfer of a tool, if one is open, closes. -/
def closeGiverOf (t : ToolId) (s : State) : State :=
  match s.giverOf? t with
  | some g => closeGiver g s
  | none => s

/-- R135: a transit check of tool t ends unanswered. -/
def transitLost (t : ToolId) (s : State) : State := closeWindow t (closeGiverOf t (versioned t Entry.lose s))

/-- R135 (row TRANSIT_CHECK_EXPIRY). -/
def execTransitCheckExpiry (t : ToolId) (s : State) : Host.Outcome State Fault Refusal :=
  .next (match s.window? t with
    | some w => if s.running ∧ w.use = .transitCheck ∧ w.timer = 0 then settleReader (transitLost t s) else s
    | none => s)

/-- R143 (row CLAIM_WINDOW_EXPIRY). -/
def execClaimWindowExpiry (t : ToolId) (s : State) : Host.Outcome State Fault Refusal :=
  .next (match s.window? t with
    | some w =>
      match w.use with
      | .adoption _ fb h => if s.running ∧ w.timer = 0 then settleReader (settleAdoption t fb h s) else s
      | .transitCheck => s
    | none => s)

end Sys2Proof.Machine
end

