-- ==== Sys2Proof/Machine/Station.lean ====
section
/-! DEFINITION. The station link: the command receiver and the replies (R153 to R157), offset delivery (R158 to R164), tool life (R165 to
R168), notices and the attention output (R169 to R172), TOOL (R173, R174), and the commands ruled elsewhere (section 8.10). -/

namespace Sys2Proof.Machine

open Sys2Proof

/-! ### The command receiver (R153 to R155) -/

/-- What a command's rule answers: the state after its effects, the result and the payload. -/
structure Answer where
  state : State
  result : ResultCode
  payload : ReplyPayload

/-- R154: the receiver is on from the end of LOADING. -/
def State.receiverOn (s : State) : Bool := s.stc.powered && !decide (s.stc.node = .loading)

/-- R155: the reply is formed from the state the command's effects have left. -/
def respond (code : Nat) (a : Answer) : State :=
  { a.state with slk := { a.state.slk with reply := some { code := code, result := a.result, status := a.state.statusWord,
                                                           payload := a.payload } } }

/-- A result without a payload, the state as given. -/
def plain (r : ResultCode) (s : State) : Answer := { state := s, result := r, payload := .none }

/-- R153: a command frame ended while the receiver was busy. -/
def overrun (s : State) : State :=
  { s with slk := { s.slk with sticky := { s.slk.sticky with overrun := true } } }

/-- R154: a command other than STATUS is taken, by the node state. -/
def takeCommand (code : Nat) (f : State → Answer) (s : State) : State :=
  match s.stc.node with
  | .loading => s
  | .hunting | .restoring => respond code (plain .busy s)
  | .joining | .run | .idConflict => respond code (f s)
  | .configFault => respond code (plain .refused s)

/-- R153: a command frame that passes its check, when the receiver is on. -/
def command (code : Nat) (f : State → Answer) (s : State) : State :=
  if !s.receiverOn then s
  else if s.slk.reply.isSome then overrun s
  else takeCommand code f s

/-- R154, R156 (row STATUS): answered in every state in which the receiver is on. -/
def execStatus (s : State) : Host.Outcome State Fault Refusal :=
  .next (if !s.receiverOn then s
         else if s.slk.reply.isSome then overrun s
         else respond 0x10 (plain .ok s))

/-- R157. -/
def clearSticky (s : State) : Answer := plain .ok { s with slk := { s.slk with sticky := Sticky.clear } }

/-- R157 (row CLEAR). -/
def execClear (s : State) : Host.Outcome State Fault Refusal := .next (command 0x11 clearSticky s)

/-- R155: an unknown code is REFUSED, a known code with another payload length is RANGE. -/
def unknown (code : Nat) (s : State) : Answer := plain (if (commandLength code).isSome then .range else .refused) s

/-- R155 (row UNKNOWN_COMMAND). -/
def execUnknownCommand (code : Nat) (_payload : List Byte) (s : State) : Host.Outcome State Fault Refusal :=
  .next (command code (unknown code) s)

/-- R153 (row COMMAND_CHECK_FAIL): discarded without a reply, and no status bit is set. -/
def execCommandCheckFail (s : State) : Host.Outcome State Fault Refusal := .next s

/-- R153 (row COMMAND_OVERRUN). -/
def execCommandOverrun (s : State) : Host.Outcome State Fault Refusal :=
  .next (if s.receiverOn && s.slk.reply.isSome then overrun s else s)

/-- R153 (row REPLY_SENT): the receiver becomes free. -/
def execReplySent (s : State) : Host.Outcome State Fault Refusal :=
  .next (if s.receiverOn then { s with slk := { s.slk with reply := none } } else s)

/-! ### NEED and CANCEL (R113, R115, R123) -/

/-- R113: the next seek number after n that no open taker transfer holds. -/
def nextSeek (held : List SeekNo) : Nat → SeekNo → SeekNo
  | 0, n => (n + 1) % 256
  | fuel + 1, n => if held.contains ((n + 1) % 256) then nextSeek held fuel ((n + 1) % 256) else (n + 1) % 256

/-- R113: the seek number of the next NEED; at most 8 transfers are open. -/
def State.seekNext (s : State) : SeekNo := nextSeek (s.cue.takers.map (·.seek)) 8 s.cue.seekCounter

/-- R115: P is one that a NEED may name. -/
def State.needable (s : State) (p : PocketNo) : Bool :=
  s.targetable p && s.cue.takers.all (fun k => !decide (k.pocket = p))

/-- R115: the taker transfer opened by a NEED. -/
def newTaker (n : SeekNo) (p : PocketNo) (w : Want) (m : SeekMode) (minLife : Nat) : Taker :=
  { state := .seeking, seek := n, pocket := p, want := w, mode := m, minLife := minLife, timer := 2, offers := [],
    current := none, lastFrame := .seek n w m minLife }

/-- R115: a NEED that passes its checks. -/
def openTaker (p : PocketNo) (w : Want) (m : SeekMode) (minLife : Nat) (s : State) : Answer :=
  let n := s.seekNext
  let k := newTaker n p w m minLife
  let s := { s with cue := { s.cue with takers := s.cue.takers ++ [k], seekCounter := n } }
  { state := handSeek k s, result := .ok, payload := .seek n }

/-- R115: the checks of NEED, in order. -/
def need (p wantType want mode minLife : Nat) (s : State) : Answer :=
  match wantOfCodes wantType want, modeOfCode mode with
  | some w, some m =>
    if !s.needable p then plain .badPocket s
    else if !decide (s.openTransfers < 8) then plain .busy s
    else if !s.urgentSpace then plain .busy s
    else openTaker p w m minLife s
  | _, _ => plain .range s

/-- R115 (row NEED). -/
def execNeed (p : PocketNo) (wantType want mode minLife : Nat) (s : State) : Host.Outcome State Fault Refusal :=
  .next (command 0x12 (need p wantType want mode minLife) s)

/-- R123: a cancelled taker transfer ends by its state. -/
def cancelTaker (k : Taker) (s : State) : State :=
  match k.state, k.current with
  | .seeking, _ => closeTaker k s
  | .taking, some o | .awaitingArrival, some o =>
    untarget k.pocket (closeTaker k (sendLapse o.station k.seek .withdrawn (.taker k.seek) s))
  | .taking, none | .awaitingArrival, none => untarget k.pocket (closeTaker k s)

/-- R123: CANCEL. -/
def cancel (p : PocketNo) (s : State) : Answer :=
  match s.takerAt? p with
  | some k => plain .ok (settleReader (cancelTaker k s))
  | none => plain .badPocket s

/-- R123 (row CANCEL). -/
def execCancel (p : PocketNo) (s : State) : Host.Outcome State Fault Refusal := .next (command 0x13 (cancel p) s)

/-! ### STAGE and COMMIT (R158 to R162) -/

/-- R149, R158, R165: P is present and a pocket of a MAGAZINE module. -/
def State.magazinePocket (s : State) (p : PocketNo) : Bool := s.present p && s.isMagazine p

/-- R158, R162: P is STOCKED with no open release, and verified. -/
def State.stockedVerified (s : State) (p : PocketNo) : Bool :=
  decide ((s.pocket p).state = .stocked) && !(s.pocket p).openRelease && (s.pocket p).verified

/-- R158: the entry of P's contents, when it is a custody entry STOCKED in P, unchecked and without a window. -/
def State.stageable (s : State) (p : PocketNo) : Option Entry :=
  match (s.pocket p).contents.bind s.entry? with
  | some e =>
    if e.custody = .stocked ∧ e.pocket = some p ∧ s.checkPending e.tool = false ∧ s.windowOpen e.tool = false then some e
    else none
  | none => none

/-- R160: the token after n. -/
def nextToken (n : Nat) : Nat := if n < 255 then n + 1 else 1

/-- R160: the Stage slot is filled with the delivered values. -/
def fillStage (p : PocketNo) (e : Entry) (length radius wear : Nat) (s : State) : Answer :=
  let g : Stage := { pocket := p, tool := e.tool, version := e.version, length := length, radius := radius,
                     token := nextToken s.slk.token, disturbed := false }
  { state := { s with slk := { s.slk with stage := some g, token := g.token } }, result := .ok,
    payload := .staged length radius wear g.token }

/-- R158: the checks of STAGE, in order. -/
def stage (p : PocketNo) (s : State) : Answer :=
  if s.slk.sticky.seqError then plain .seq s
  else if !s.magazinePocket p then plain .badPocket s
  else if !s.stockedVerified p then plain .noTool s
  else
    match s.stageable p with
    | none => plain .noTool s
    | some e =>
      match s.delivery e with
      | some (l, r, w) => fillStage p e l r w s
      | none => plain .noTool s

/-- R158 (row STAGE). -/
def execStage (p : PocketNo) (s : State) : Host.Outcome State Fault Refusal := .next (command 0x14 (stage p) s)

/-- R162: the stage agrees with the present state. -/
def State.stageFresh (s : State) (g : Stage) : Bool :=
  !g.disturbed && s.stockedVerified g.pocket &&
    match s.entry? g.tool with
    | some e =>
      decide (e.custody = .stocked) && decide (e.pocket = some g.pocket) && decide (e.version = g.version) &&
        decide ((s.delivery e).map (fun d => d.1) = some g.length)
    | none => false

/-- The Stage slot is emptied. -/
def emptyStage (s : State) : State := { s with slk := { s.slk with stage := none } }

/-- R161: SEQ_ERROR is set and the Stage slot emptied. -/
def sequenceError (s : State) : State :=
  { s with slk := { s.slk with stage := none, sticky := { s.slk.sticky with seqError := true } } }

/-- R162: the LOADED mark of a stage. -/
def Stage.mark (g : Stage) : Mark := { version := g.version, length := g.length, radius := g.radius, drift := false }

/-- R162: a COMMIT of the stage g. -/
def commitStage (g : Stage) (s : State) : Answer :=
  if s.stageFresh g then
    { state := emptyStage (modPocket g.pocket (fun k => { k with mark := some g.mark }) s), result := .ok,
      payload := .committed g.length g.radius }
  else plain .stale (emptyStage s)

/-- R161: the checks of COMMIT, in order. -/
def commit (p : PocketNo) (token : Nat) (s : State) : Answer :=
  if s.slk.sticky.seqError then plain .seq s
  else
    match s.slk.stage with
    | some g => if g.pocket = p ∧ g.token = token then commitStage g s else plain .seq (sequenceError s)
    | none => plain .seq (sequenceError s)

/-- R161 (row COMMIT). -/
def execCommit (p : PocketNo) (token : Nat) (s : State) : Host.Outcome State Fault Refusal :=
  .next (command 0x15 (commit p token) s)

end Sys2Proof.Machine
end

