-- ==== Sys2Proof/Machine/Commands.lean ====
section
/-! DEFINITION. The remaining commands of the station link: USE (R165 to R168), FREE (R149, R150), NOTICES and the attention output (R171,
R172), TOOL (R173, R174), SWEEP, SWEEPSTAT, HOLD, UNHOLD, FORGET, SETCLOCK. -/

namespace Sys2Proof.Machine

open Sys2Proof

/-! ### USE (R165 to R168) -/

/-- R166: the entry after s seconds of cutting. -/
def Entry.cut (sec : Nat) (e : Entry) : Entry :=
  let sum := e.remainder + sec
  { e with life := e.life - sum / 60, used := min 65535 (e.used + sum / 60), remainder := sum % 60 }

/-- R150, R167: the kind's reserve. DESIGN CHOICE (log entry 60): 0 for a kind not defined here, of which the manual gives the full
life alone, so that no life is below it. -/
def State.reserve (s : State) (kind : Nat) : Nat :=
  match s.kind? kind with
  | some k => k.reserve
  | none => 0

/-- R167: life fell below the reserve. -/
def crossesReserve (reserve before after : Nat) : Bool := decide (reserve ≤ before) && decide (after < reserve)

/-- R167: life reached 0. -/
def crossesZero (before after : Nat) : Bool := decide (0 < before) && decide (after = 0)

/-- R167: the entry of a tool whose life has reached 0; under an adoption window the version is held (R141). -/
def Entry.expire (held : Bool) (e : Entry) : Entry :=
  { e with condition := .expired, version := if held then e.version else e.version + 1 }

/-- R167: life reached 0: EXPIRED as a versioned change, the mark cleared with LIFE_OUT. -/
def lifeOut (p : PocketNo) (t : ToolId) (s : State) : State :=
  let s := modEntry t (Entry.expire (s.adoptionOpen t)) s
  let s := modPocket p (fun k => { k with mark := none }) s
  presetReport t (pushNotice (pocketNotice .lifeOut p (some t)) s)

/-- R168: the drift of a mark that stands. -/
def reportDrift (p : PocketNo) (t : ToolId) (s : State) : State :=
  match (s.pocket p).mark, (s.entry? t).bind s.delivery with
  | some m, some (l, _, _) =>
    if m.drift = false ∧ l + 10 ≤ m.length then
      pushNotice (pocketNotice .offsetDrift p (some t)) (modPocket p (fun k => { k with mark := some { m with drift := true } }) s)
    else s
  | _, _ => s

/-- R166, R167: the seconds are counted and the crossings acted on. -/
def countUse (p : PocketNo) (e : Entry) (sec : Nat) (s : State) : State :=
  let e' := e.cut sec
  let low := crossesReserve (s.reserve e.kind) e.life e'.life
  let out := crossesZero e.life e'.life
  let s := putEntry e' s
  let s := if low then pushNotice (pocketNotice .lifeLow p (some e.tool)) s else s
  let s := if out then lifeOut p e.tool s else s
  let s := if low || out then handRecord e.tool s else s
  reportDrift p e.tool s

/-- R165: the reply of a USE that counted. -/
def usedPayload (t : ToolId) (s : State) : ReplyPayload :=
  match s.entry? t with
  | some e => .used e.life e.remainder e.used
  | none => .none

/-- R165 step 4: seconds above 3600 are clamped, with sticky CLAMPED. -/
def clampUse (sec : Nat) (s : State) : State :=
  if 3600 < sec then { s with slk := { s.slk with sticky := { s.slk.sticky with clamped := true } } } else s

/-- R165: the tool of a LOADED pocket. -/
def State.loadedEntry (s : State) (p : PocketNo) : Option Entry :=
  if (s.pocket p).mark.isSome then (s.pocket p).contents.bind s.entry? else none

/-- R165: the steps of USE, in order. -/
def useTool (p : PocketNo) (sec : Nat) (s : State) : Answer :=
  if !s.magazinePocket p then plain .badPocket s
  else if sec = 0 then plain .ok s
  else
    match s.loadedEntry p with
    | none => plain .noTool s
    | some e =>
      let s := countUse p e (min sec 3600) (clampUse sec s)
      { state := s, result := .ok, payload := usedPayload e.tool s }

/-- R165 (row USE). -/
def execUse (p : PocketNo) (sec : Nat) (s : State) : Host.Outcome State Fault Refusal :=
  .next (command 0x16 (useTool p sec) s)

/-! ### FREE (R149, R150) -/

/-- R150 step 2: a READY tool below its reserve needs a preset. -/
def freeCondition (t : ToolId) (s : State) : State :=
  match s.entry? t with
  | some e =>
    if e.condition = .ready ∧ e.life < s.reserve e.kind then
      versionedCondition t (fun e => { e with condition := .needsPreset }) s
    else s
  | none => s

/-- R150: FREE acts on the tool t of pocket p. -/
def freeTool (p : PocketNo) (t : ToolId) (s : State) : State :=
  startRelease p (freeCondition t (modPocket p (fun k => { k with mark := none }) s))

/-- R149: the checks of FREE, in order. -/
def freePocket (p : PocketNo) (s : State) : Answer :=
  if !s.magazinePocket p then plain .badPocket s
  else
    match (s.pocket p).state, (s.pocket p).openRelease, (s.pocket p).contents with
    | .stocked, false, some t =>
      if s.departureRoom then plain .ok (settleReader (freeTool p t s)) else plain .busy (noticeLimit p t s)
    | _, _, _ => plain .noTool s

/-- R149 (row FREE). -/
def execFree (p : PocketNo) (s : State) : Host.Outcome State Fault Refusal := .next (command 0x17 (freePocket p) s)

/-! ### NOTICES and the attention output (R171, R172) -/

/-- R171: up to four notices are removed from the head and returned. -/
def fetchNotices (s : State) : Answer :=
  { state := { s with slk := { s.slk with notices := s.slk.notices.drop 4 } }, result := .ok,
    payload := .notices (s.slk.notices.take 4) }

/-- R171 (row NOTICES). -/
def execNotices (s : State) : Host.Outcome State Fault Refusal := .next (command 0x18 fetchNotices s)

/-- R172 (row ATTENTION_PULSE_END): the pulse ends and the owed count falls by one. DESIGN CHOICE (log entry 48): the count
falls at the end of the pulse and not at its start. -/
def execAttentionPulseEnd (s : State) : Host.Outcome State Fault Refusal :=
  .next (if s.receiverOn && decide (s.slk.pulse = .asserted) then
           { s with slk := { s.slk with owed := s.slk.owed - 1, pulse := .released } }
         else s)

/-- R172 (row ATTENTION_RELEASE_INTERVAL_END): the next owed pulse is given, or the output idles. -/
def execAttentionReleaseIntervalEnd (s : State) : Host.Outcome State Fault Refusal :=
  .next (if s.receiverOn && decide (s.slk.pulse = .released) then
           { s with slk := { s.slk with pulse := if 0 < s.slk.owed then .asserted else .idle } }
         else s)

/-! ### TOOL (R173, R174) -/

/-- R173: what a TOOL names. -/
inductive ToolSel where
  | pocket (p : PocketNo)
  | tool (t : ToolId)
  deriving DecidableEq, Repr

/-- R173: the selector and argument, when in range. -/
def selOfCodes (selector arg : Nat) : Option ToolSel :=
  match selector with
  | 0 => if arg ≤ 48 then some (.pocket arg) else none
  | 1 => if toolIdValid arg then some (.tool arg) else none
  | _ => none

/-- R46: the record of pocket 0..48. -/
def State.pocketRecord (s : State) (p : PocketNo) : Pocket :=
  if p = 48 then { Pocket.vacant with state := s.pkc.gauge } else s.pocket p

/-- R173: the pocket is present, or ABSENT with kept contents. -/
def State.toolPocket (s : State) (p : PocketNo) : Bool :=
  !decide ((s.pocketRecord p).state = .absent) || (s.pocketRecord p).contents.isSome

/-- R173: the entry a TOOL concerns. -/
def State.selEntry (s : State) (x : ToolSel) : Option Entry :=
  match x with
  | .tool t => s.entry? t
  | .pocket p =>
    if p = 48 then s.trg.entries.find? (fun e => decide (e.custody = .atGauge)) else (s.pocket p).contents.bind s.entry?

/-- R173: the pocket a TOOL concerns. -/
def State.selPocket (s : State) (x : ToolSel) : Option PocketNo :=
  match x with
  | .pocket p => some p
  | .tool t =>
    match s.entry? t with
    | some e => if e.custody.inPocket then e.pocket else none
    | none => none

/-- R173: the entry part of an entry. -/
def State.entryPart (s : State) (e : Entry) : EntryPart :=
  { entry := e, checkPending := s.checkPending e.tool, windowOpen := s.windowOpen e.tool }

/-- R173: both parts as they stand. -/
def State.toolParts (s : State) (x : ToolSel) : ReplyPayload :=
  .tool ((s.selPocket x).map (fun p => (p, s.pocketRecord p))) ((s.selEntry x).map s.entryPart)

/-- R173: the second and third check of TOOL. -/
def State.selCheck (s : State) (x : ToolSel) : Option ResultCode :=
  match x with
  | .tool t => if (s.entry? t).isSome then none else some .noTool
  | .pocket p => if s.toolPocket p then none else some .badPocket

/-- R173: the checks of TOOL, and then f. -/
def toolChecked (selector arg : Nat) (f : ToolSel → State → Answer) (s : State) : Answer :=
  match selOfCodes selector arg with
  | none => plain .range s
  | some x =>
    match s.selCheck x with
    | some r => plain r s
    | none => f x s

/-- R173: the reply OK with both parts. -/
def toolReply (x : ToolSel) (s : State) : Answer := { state := s, result := .ok, payload := s.toolParts x }

/-- R173 (row TOOL): action NONE; an action other than the three is RANGE. -/
def execTool (selector arg action : Nat) (s : State) : Host.Outcome State Fault Refusal :=
  .next (command 0x19 (if action = 0 then toolChecked selector arg toolReply else plain .range) s)

/-- R174: the checks of WITHHOLD and RELEASE on the entry named, and then f. -/
def toolEntry (key : Bool) (f : Entry → State → Option State) (x : ToolSel) (s : State) : Answer :=
  match s.selEntry x with
  | none => plain .noTool s
  | some e =>
    if !key then plain .keyRequired s
    else if !e.here then plain .refused s
    else
      match f e s with
      | some s => toolReply x s
      | none => plain .refused s

/-- R174: WITHHOLD. -/
def withhold (e : Entry) (s : State) : Option State :=
  match e.condition with
  | .quarantine .duplicate => none
  | .quarantine .operator => some s
  | .quarantine .outOfTol | .quarantine .runout | .ready | .needsPreset | .expired =>
    some (settleReader (versionedCondition e.tool (fun e => { e with condition := .quarantine .operator }) s))

/-- R174: RELEASE. -/
def releaseTool (e : Entry) (s : State) : Option State :=
  match e.condition with
  | .quarantine .operator => some (versioned e.tool (fun e => { e with condition := .needsPreset }) s)
  | .quarantine .duplicate | .quarantine .outOfTol | .quarantine .runout | .ready | .needsPreset | .expired => none

/-- R174 (row TOOL_WITHHOLD). -/
def execToolWithhold (selector arg : Nat) (key : Bool) (s : State) : Host.Outcome State Fault Refusal :=
  .next (command 0x19 (toolChecked selector arg (toolEntry key withhold)) s)

/-- R174 (row TOOL_RELEASE). -/
def execToolRelease (selector arg : Nat) (key : Bool) (s : State) : Host.Outcome State Fault Refusal :=
  .next (command 0x19 (toolChecked selector arg (toolEntry key releaseTool)) s)

/-! ### Sweep, hold, FORGET, SETCLOCK -/

/-- R59: SWEEP. -/
def sweepCommand (s : State) : Answer :=
  if s.rds.sweep = .idle then plain .ok (settleReader (startSweep s)) else plain .busy s

/-- R59 (row SWEEP). -/
def execSweep (s : State) : Host.Outcome State Fault Refusal := .next (command 0x1A sweepCommand s)

/-- R64: SWEEPSTAT. -/
def sweepStat (s : State) : Answer :=
  { state := s, result := .ok, payload := .sweepStat s.rds.sweep s.rds.cursor s.rds.table }

/-- R64 (row SWEEPSTAT). -/
def execSweepstat (s : State) : Host.Outcome State Fault Refusal := .next (command 0x1B sweepStat s)

/-- R38: HOLD and UNHOLD. -/
def setHold (p : PocketNo) (h key : Bool) (s : State) : Answer :=
  if !s.present p then plain .badPocket s
  else if !key then plain .keyRequired s
  else plain .ok (modPocket p (fun k => { k with hold := h }) s)

/-- R38 (row HOLD). -/
def execHold (p : PocketNo) (key : Bool) (s : State) : Host.Outcome State Fault Refusal :=
  .next (command 0x1C (setHold p true key) s)

/-- R38 (row UNHOLD). -/
def execUnhold (p : PocketNo) (key : Bool) (s : State) : Host.Outcome State Fault Refusal :=
  .next (command 0x1D (setHold p false key) s)

/-- R152: the pocket the deleted entry named is read again; a pocket in FAULT or ABSENT is not. -/
def rereadPocket (p : PocketNo) (s : State) : State :=
  if (s.pocket p).state = .fault ∨ (s.pocket p).state = .absent then s
  else requestRead p (modPocket p (Pocket.toChecking .insert) s)

/-- R148, R152: the vacated marks that name tool t are dropped, each with a read of its pocket. -/
def dropVacated (t : ToolId) (s : State) : State :=
  (List.range 48).foldl (fun s p =>
    if (s.pocket p).vacated.map (·.tool) = some t then
      requestRead p (modPocket p (fun k => { k with vacated := none }) s)
    else s) s

/-- R152: a waiting adoption of tool t leaves the list, with a read of its pocket. DESIGN CHOICE (log entry 44): one that
waits at the gauge leaves the list too, and no fresh foreign arrival follows. -/
def forgetWaiting (t : ToolId) (s : State) : State :=
  let is : Waiting → Bool := fun w => decide (w.tool = t ∧ w ≠ .transitCheck t)
  let here := s.cue.waiting.filter is
  let s := { s with cue := { s.cue with waiting := s.cue.waiting.filter (fun w => !is w) } }
  here.foldl (fun s w =>
    match w with
    | .adoption _ _ (.pocket p) => requestRead p s
    | .adoption _ _ .gauge | .transitCheck _ => s) s

/-- R71, R152: the gauge tool whose entry was deleted is a fresh foreign arrival at the gauge. -/
def gaugeAgain (t : ToolId) (s : State) : State :=
  match s.pru.gauge with
  | some g => if g.tool = t then foreignArrival t g.kind .gauge s else s
  | none => s

/-- R152: FORGET of the entry e. -/
def forgetEntry (e : Entry) (s : State) : State :=
  let s := forgetWaiting e.tool s
  let s := deleteEntry e.tool s
  let s := match e.pocket with
    | some p => if e.here then rereadPocket p s else s
    | none => s
  let s := dropVacated e.tool s
  if e.custody = .atGauge then gaugeAgain e.tool s else s

/-- R152: the checks of FORGET, in order. -/
def forgetTool (t : ToolId) (key : Bool) (s : State) : Answer :=
  if !toolIdValid t then plain .range s
  else if !key then plain .keyRequired s
  else
    match s.entry? t with
    | some e => plain .ok (settleReader (forgetEntry e s))
    | none => plain .noTool s

/-- R152 (row FORGET). -/
def execForget (t : ToolId) (key : Bool) (s : State) : Host.Outcome State Fault Refusal :=
  .next (command 0x1E (forgetTool t key) s)

/-- R186: the checks of SETCLOCK, in order. -/
def setClockCommand (y mo d h mi sec : Nat) (key : Bool) (s : State) : Answer :=
  if !clockInRange y mo d h mi sec then plain .range s
  else if s.cck.trust && !key then plain .keyRequired s
  else
    { state := setClock (calendarOf y mo d h mi sec) s, result := .ok,
      payload := .clock y mo d h mi sec (weekdayOf y mo d) }

/-- R186 (row SETCLOCK). -/
def execSetclock (y mo d h mi sec : Nat) (key : Bool) (s : State) : Host.Outcome State Fault Refusal :=
  .next (command 0x1F (setClockCommand y mo d h mi sec key) s)

end Sys2Proof.Machine
end

