-- ==== Sys2Proof/Machine/Start.lean ====
section
/-! DEFINITION. Starts and supplies: LOADING (R189 to R192), HUNTING (R26, R193), RESTORING (R47, R48, R194 to R197) and the entry into
JOINING (R104). -/

namespace Sys2Proof.Machine

open Sys2Proof

/-! ### The beginning of a start (R183, R189) -/

/-- R66, R67: the Preset Reduction Unit at every start; the Preset Queue is record memory. -/
def Pru.atStart (u : Pru) : Pru := { u with gauge := none, burst := none, first := none, tx := none, txWait := none }

/-- R154, R156, R160, R172: the Station Link at every start. -/
def Slk.atStart (k : Slk) : Slk :=
  { k with reply := none, sticky := Sticky.clear, stage := none, owed := 0, pulse := .idle }

/-- R194: what the Station Link clears at the beginning of RESTORING. A reply that is still being sent goes on (R153). -/
def Slk.atRestore (k : Slk) : Slk := { k with sticky := Sticky.clear, stage := none, notices := [], owed := 0 }

/-- R25, R39, R46: the Pocket Controller at every start; the pocket records are record memory. -/
def Pkc.atStart (k : Pkc) : Pkc :=
  { k with modules := List.replicate 6 Module.none, gauge := .absent, lastServed := 47, walk := none }

/-- R183, R189: a start begins in LOADING with the first reading of the latch. The record memory is left as it is. -/
def beginStart (s : State) : State :=
  { s with
    pkc := s.pkc.atStart, rds := Rds.empty, pru := s.pru.atStart, slk := s.slk.atStart,
    hli := { s.hli with send := none, joinTimer := none },
    cck := { s.cck with low := false },
    stc := { s.stc with node := .loading, powered := true, config := none, refusedOnce := false, huntNext := 0,
                        report := if s.cck.latch then .failed else .held } }

/-- R189 (row POWER_ON). -/
def execPowerOn (s : State) : Host.Outcome State Fault Refusal := .next (beginStart s)

/-- R189 (row RESET_INPUT): without main power the input has no effect. -/
def execResetInput (s : State) : Host.Outcome State Fault Refusal := .next (if s.stc.powered then beginStart s else s)

/-- R189, R197 (row MAIN_POWER_LOSS): the node stops; the record memory stays as it is. -/
def execMainPowerLoss (s : State) : Host.Outcome State Fault Refusal :=
  .next { s with stc := { s.stc with powered := false } }

/-! ### LOADING and HUNTING (R26, R190 to R193) -/

/-- R190: what a reading of the image does: accepted, refused once, or refused twice. -/
def readConfig (c : Option NodeConfig) (s : State) : State :=
  match c with
  | some c => { s with stc := { s.stc with config := some c, node := .hunting, huntNext := 0 } }
  | none =>
    if s.stc.refusedOnce then { s with stc := { s.stc with node := .configFault } }
    else { s with stc := { s.stc with refusedOnce := true } }

/-- R190, R192 (row CONFIG_READ). -/
def execConfigRead (image : Option (List Byte)) (s : State) : Host.Outcome State Fault Refusal :=
  .next (if s.stc.powered ∧ s.stc.node = .loading then readConfig (readImage image) s else s)

/-- R191: the bank kind of a module address. -/
def State.bankOf (s : State) (a : Nat) : BankKind :=
  match s.stc.config with
  | some c => c.banks.getD a .crib
  | none => .crib

/-- R26: the record of an address after its probe; 0 lines or more than 8 count as no module. -/
def huntedModule (bank : BankKind) (r : Option ModuleReport) : Module :=
  match r with
  | some r =>
    if 1 ≤ r.lines ∧ r.lines ≤ 8 then
      { state := .active, bank := bank, lock := r.lock, door := r.door, indicator := r.indicator, lines := r.lines }
    else Module.none
  | none => Module.none

/-- R26: the door state a line starts with; a line of a module without door sensors counts as CLOSED (R45). -/
def huntedDoor (r : Option ModuleReport) (i : Nat) : Door :=
  match r with
  | some r => if r.door && decide (i < r.lines) && r.doorsOpen.getD i false then .opened else .closed
  | none => .closed

/-- R26: the probe of address a settles. -/
def settleProbe (a : Nat) (r : Option ModuleReport) (s : State) : State :=
  let s := modModule a (fun _ => huntedModule (s.bankOf a) r) s
  (List.range 8).foldl (fun s i => modPocket (a * 8 + i) (fun k => { k with door := huntedDoor r i }) s) s

/-! ### RESTORING: what is cleared (R48, R194) -/

/-- R26: the pocket is present after the hunt. -/
def State.fitted (s : State) (p : PocketNo) : Bool :=
  s.moduleActive p && decide (p % 8 < (s.moduleOf p).lines)

/-- R57: the reads requested before the start are lost. -/
def Pocket.unread (k : Pocket) : Pocket := { k with readRequested := false }

/-- R194: what is emptied or cleared at the beginning of RESTORING, whatever the report. -/
def restoreClear (s : State) : State :=
  { s with
    hli := { s.hli with urgent := [], routine := [], send := none },
    rds := Rds.empty, pru := s.pru.atStart,
    pkc := { s.pkc with pockets := s.pkc.pockets.map Pocket.unread },
    slk := s.slk.atRestore,
    cue := { s.cue with takers := s.cue.takers.map (fun k => { k with offers := [] }), lapsed := [], waiting := [] } }

/-- R48: a pocket formed after the memory failed. -/
def formedPocket (s : State) (p : PocketNo) : Pocket :=
  if s.fitted p then { Pocket.vacant with state := .empty, door := (s.pocket p).door } else Pocket.vacant

/-- R48, R183, R194: the record memory is emptied. -/
def restoreFailed (s : State) : State :=
  { s with
    trg := Trg.empty, cue := Cue.empty,
    pru := { s.pru with queue := [] },
    slk := { s.slk with token := 0 },
    cck := { s.cck with cal := Calendar.origin, trust := false },
    pkc := { s.pkc with pockets := (List.range 48).map (formedPocket s) } }

/-! ### RESTORING with the memory held: steps 1 to 7 (R195, R196) -/

/-- Insert by ascending key, after those of the same key. -/
def insertOn {α : Type} (key : α → Nat) (x : α) : List α → List α
  | [] => [x]
  | y :: ys => if key x < key y then x :: y :: ys else y :: insertOn key x ys

/-- Sort by ascending key. -/
def sortOn {α : Type} (key : α → Nat) (l : List α) : List α := l.foldl (fun r x => insertOn key x r) []

/-- R196: every custody entry takes the new ID as a versioned change. DESIGN CHOICE (log entry 51): in ascending order of tool
ID. -/
def renameEntries (own : StationId) (s : State) : State :=
  ((s.trg.entries.filter Entry.here).map (·.tool)).foldl
    (fun s t => versioned t (fun e => { e with custodian := own }) s) s

/-- R195 step 1, R196: the memory is taken under a changed station ID. -/
def stationIdStep (s : State) : State :=
  if s.ownId = s.stc.recordedId then s
  else endTransfers (purgeCached s.ownId (renameEntries s.ownId s))

/-- R195 step 2: every taker in SEEKING fails with RESTART. DESIGN CHOICE (log entry 51): in the order of opening. -/
def seekingStep (s : State) : State :=
  (s.cue.takers.filter (fun k => decide (k.state = .seeking))).foldl (fun s k => failTaker k .restart s) s

/-- R195 step 3: every transit check closes with its window. -/
def transitCheckStep (s : State) : State :=
  { s with cue := { s.cue with windows := s.cue.windows.filter (fun w => !decide (w.use = .transitCheck)) } }

/-- R188: n seconds are taken off an away timer. -/
def Entry.pass (n : Nat) (e : Entry) : Entry := { e with awayTimer := e.awayTimer.map (· - n) }

/-- R188: n seconds are taken off a running pocket timer. -/
def Pocket.pass (n : Nat) (k : Pocket) : Pocket :=
  if k.timerRunning && !decide (k.state = .fault) then { k with timer := k.timer.map (· - n) } else k

/-- R188: n seconds are taken off a giver transfer's timer. -/
def Giver.pass (n : Nat) (g : Giver) : Giver := { g with timer := g.timer.map (· - n) }

/-- R188: n seconds are taken off a taker transfer's timer. -/
def Taker.pass (n : Nat) (k : Taker) : Taker := { k with timer := k.timer - n }

/-- R188: n seconds are taken off every timer kept. -/
def passTimers (n : Nat) (s : State) : State :=
  { s with
    trg := { s.trg with entries := s.trg.entries.map (Entry.pass n) },
    pkc := { s.pkc with pockets := s.pkc.pockets.map (Pocket.pass n) },
    cue := { s.cue with givers := s.cue.givers.map (Giver.pass n), takers := s.cue.takers.map (Taker.pass n) } }

/-- R195 step 4: the outage is formed and applied. -/
def outageStep (s : State) : State := passTimers (s.outage * 60) (agePresets s.outage s)

/-- R7, R195 step 5: the life of tool t clamped; a READY custody entry brought to 0 becomes EXPIRED. -/
def clampLife (t : ToolId) (s : State) : State :=
  match s.entry? t with
  | none => s
  | some e =>
    let life := min e.life (s.fullLife e.kind)
    if e.here ∧ e.condition = .ready ∧ life = 0 then
      versioned t (fun e => { e with life := life, condition := .expired }) s
    else putEntry { e with life := life } s

/-- R195 step 5: every life is clamped, in ascending order of tool ID. -/
def lifeStep (s : State) : State := (s.trg.entries.map (·.tool)).foldl (fun s t => clampLife t s) s

/-- R147: the window of an adoption closes as though it had expired with no record heard. -/
def closeAdoption (w : Window) (s : State) : State :=
  match w.use with
  | .adoption _ fb _ => settleAdoption w.tool fb none s
  | .transitCheck => s

/-- R195 step 6: every adoption window closes, in ascending order of tool ID. -/
def adoptionStep (s : State) : State := (sortOn Window.tool s.cue.windows).foldl (fun s w => closeAdoption w s) s

/-- R195 step 7: every presence check is dropped. -/
def checkStep (s : State) : State := { s with trg := { s.trg with checks := [] } }

/-! ### The rebuild of the pockets: step 8 (R47, R197) -/

/-- R197: a giver whose pocket no longer fits. -/
def giverMisfit (s : State) (g : Giver) : Bool :=
  match g.state, g.pocket with
  | .offered, some q | .releasing, some q => !s.fitted q || s.isMagazine q
  | _, _ => false

/-- R197: a giver whose pocket no longer fits closes. -/
def closeMisfitGiver (g : Giver) (s : State) : State := closeGiver g (restock g.tool (lapseSeeker g s))

/-- R197: a taker whose target no longer fits. -/
def takerMisfit (s : State) (k : Taker) : Bool := k.targeting && (!s.fitted k.pocket || s.isCrib k.pocket)

/-- R197: a taker whose target no longer fits closes with POCKET. -/
def closeMisfitTaker (k : Taker) (s : State) : State :=
  let s := match k.current with
    | some o => sendLapse o.station k.seek .withdrawn (.taker k.seek) s
    | none => s
  let s := modPocket k.pocket (fun x => { x with target := none }) s
  noticeNeedFailed k .pocket (closeTaker k s)

/-- R197: every kept transfer whose pocket no longer fits closes. DESIGN CHOICE (log entry 51): the givers first, in the order
of the table, then the takers. -/
def closeMisfits (s : State) : State :=
  let s := (s.cue.givers.filter (giverMisfit s)).foldl (fun s g => closeMisfitGiver g s) s
  (s.cue.takers.filter (takerMisfit s)).foldl (fun s k => closeMisfitTaker k s) s

/-- R47: what no pocket keeps over a start. -/
def Pocket.restarted (k : Pocket) : Pocket :=
  { k with check := none, openRelease := false, saved := none, verified := false, readRequested := false,
           latch := .locked, target := none, timer := none, timerRunning := false, vacated := none, press := false }

/-- R47: the pocket names a STOCKED entry. -/
def State.holdsStocked (s : State) (k : Pocket) : Bool :=
  match k.contents.bind s.entry? with
  | some e => decide (e.custody = .stocked)
  | none => false

/-- R47: the giver transfer that names a pocket. -/
def State.giverNaming (s : State) (p : PocketNo) : Option Giver := s.cue.givers.find? (fun g => decide (g.pocket = some p))

/-- R47: the taker transfer that targets a pocket. -/
def State.takerTargeting (s : State) (p : PocketNo) : Option Taker :=
  s.cue.takers.find? (fun k => k.targeting && decide (k.pocket = p))

/-- R47: a present pocket named by a giver transfer. -/
def Pocket.withGiver (g : Giver) (k : Pocket) : Pocket :=
  match g.state with
  | .releasing =>
    { k.restarted with state := .releasing, latch := .opened,
                       readRequested := (g.expired || g.withdrawing) && decide (k.door = .closed) }
  | .offered | .transit => { k.restarted with state := .reserved }

/-- R47: a present pocket that no transfer binds, by its contents or its state before the outage. -/
def Pocket.unbound (stocked : Bool) (k : Pocket) : Pocket :=
  if stocked then { k.restarted with state := .stocked }
  else
    match k.state, k.check with
    | .openForStock, _ =>
      { k.restarted with state := .openForStock, contents := none, latch := .opened, timer := k.timer,
                         timerRunning := k.timerRunning && decide (k.door = .closed) }
    | .checking, some .insert =>
      { k.restarted with state := .checking, check := some .insert, contents := none, latch := k.latch,
                         readRequested := true }
    | _, _ => { k.restarted with state := .empty, contents := none }

/-- R47: the record of pocket p after a start with the memory held, by the first row that applies. -/
def rebuiltPocket (s : State) (p : PocketNo) : Pocket :=
  let k := s.pocket p
  if !s.fitted p then { k.restarted with state := .absent, door := .closed }
  else
    match s.giverNaming p, s.takerTargeting p with
    | some g, _ => k.withGiver g
    | none, some t =>
      { k.restarted with state := .awaiting, contents := none, latch := .opened, target := some t.seek }
    | none, none => k.unbound (s.holdsStocked k)

/-- R47, R163: the kept LOADED mark of pocket p is tested. -/
def testMark (p : PocketNo) (s : State) : State :=
  match (s.pocket p).mark with
  | some m => if s.markHolds p m then s else clearMark p (s.pocket p).contents s
  | none => s

/-- R195 step 8: the pockets are rebuilt and the kept marks tested. DESIGN CHOICE (log entry 51): the marks in ascending order
of pocket number. -/
def pocketStep (s : State) : State :=
  let s := closeMisfits s
  let s := { s with pkc := { s.pkc with pockets := (List.range 48).map (rebuiltPocket s) } }
  (List.range 48).foldl (fun s p => testMark p s) s

/-! ### Steps 9 to 11 (R67, R88, R195) -/

/-- The tool of the entry in custody AT_GAUGE. -/
def State.atGauge? (s : State) : Option Entry := s.trg.entries.find? (fun e => decide (e.custody = .atGauge))

/-- R67, R195 step 9: an AT_GAUGE entry becomes AWAY when no head is fitted. -/
def gaugeStep (s : State) : State :=
  if s.headFitted then s
  else
    match s.atGauge? with
    | some e => versioned e.tool Entry.goAway s
    | none => s

/-- R195 step 10: the holds that stand at 0. -/
def holdStep (s : State) : State :=
  (sortOn Giver.tool (s.cue.givers.filter (fun g => decide (g.state = .offered ∧ g.timer = some 0)))).foldl
    (fun s g => endOffered g s) s

/-- R195 step 10: the release timers that stand at 0. -/
def releaseStep (s : State) : State :=
  (sortOn Giver.tool (s.cue.givers.filter (fun g =>
    decide (g.state = .releasing ∧ g.timer = some 0 ∧ g.expired = false)))).foldl (fun s g => releaseEnds g s) s

/-- R195 step 10: the deadlines that stand at 0, in ascending order of the tool expected. DESIGN CHOICE (log entry 51): two that
expect one tool are taken in the order of opening. -/
def deadlineStep (s : State) : State :=
  (sortOn (fun k => k.expected.getD 0) (s.cue.takers.filter (fun k => k.targeting && decide (k.timer = 0)))).foldl
    (fun s k => failTaker k .timeout s) s

/-- R195 step 10: the AWAY timers that stand at 0. -/
def awayStep (s : State) : State :=
  ((s.trg.entries.filter (fun e => decide (e.custody = .away ∧ e.awayTimer = some 0))).map (·.tool)).foldl
    (fun s t => versioned t Entry.lose s) s

/-- R195 step 10: the TRANSIT timers that stand at 0. -/
def transitStep (s : State) : State := s.transitsDue.foldl (fun s t => beginTransitCheck t s) s

/-- R195 step 10: the pocket timers that stand at 0. -/
def pocketTimerStep (s : State) : State :=
  (List.range 48).foldl (fun s p => if (s.pocket p).timerDue then pocketTimerEnds p s else s) s

/-- R195 step 10: the expiries, kind by kind. -/
def expiryStep (s : State) : State :=
  pocketTimerStep (transitStep (awayStep (deadlineStep (releaseStep (holdStep s)))))

/-- R88: the tool may stay in the Preset Queue. -/
def State.queueKeeps (s : State) (t : ToolId) : Bool :=
  match s.entry? t with
  | some e => e.here && e.condition.queued
  | none => false

/-- R88, R195 step 11: the queue as kept is cleaned, and the conditions changed since state `before` are taken by R85. -/
def queueStep (before s : State) : State :=
  let s := setPresetQueue (before.pru.queue.filter s.queueKeeps) s
  ((s.trg.entries.filter (fun e =>
    !decide ((before.entry? e.tool).map (·.condition) = some e.condition))).map (·.tool)).foldl
      (fun s t => presetReport t s) s

/-- R195: the memory is held; the steps one after the other. The counts of step 12 are formed when they are needed. -/
def restoreHeld (s : State) : State :=
  let s := outageStep (transitCheckStep (seekingStep (stationIdStep s)))
  queueStep s (expiryStep (gaugeStep (pocketStep (checkStep (adoptionStep (lifeStep s))))))

/-! ### The end of RESTORING and the entry into JOINING (R104, R105, R197) -/

/-- R105: every ACTIVE module has the property. -/
def State.allModules (s : State) (f : Module → Bool) : Bool :=
  s.pkc.modules.all (fun m => !decide (m.state = .active) || f m)

/-- R105: the number of present pockets of ACTIVE modules of a bank kind. -/
def State.countBank (s : State) (b : BankKind) : Nat :=
  (List.range 48).countP (fun p => s.fitted p && decide ((s.moduleOf p).bank = b))

/-- R105: the join report. -/
def State.joinReport (s : State) : Announce :=
  { ramValid := decide (s.stc.report = .held), headFitted := s.headFitted, locks := s.allModules Module.lock,
    doors := s.allModules Module.door, crib := s.countBank .crib, magazine := s.countBank .magazine, nodeState := 4 }

/-- R67: the gauge tool set from an AT_GAUGE entry. -/
def State.gaugeAtStart (s : State) : Option GaugeTool :=
  if s.headFitted then s.atGauge?.map (fun e => { tool := e.tool, kind := e.kind }) else none

/-- R57, R197: the reads requested in RESTORING, in pocket-number order. -/
def State.requestedReads (s : State) : List PocketNo :=
  (List.range 48).filter (fun p => s.present p && (s.pocket p).readRequested)

/-- R197: RESTORING ends. -/
def endRestoring (s : State) : State :=
  let s := writeStamp (refreshIndicators s)
  { s with
    cck := { s.cck with latch := false },
    stc := { s.stc with recordedId := s.ownId },
    rds := { Rds.empty with queue := s.requestedReads },
    pru := { s.pru with gauge := s.gaugeAtStart } }

/-- R104: the node enters JOINING. -/
def enterJoining (s : State) : State :=
  let q := placeAnnounce s.joinReport s.hli.routine
  { s with stc := { s.stc with node := .joining }, hli := { s.hli with routine := q, joinTimer := some 1 } }

/-- R194 to R197: RESTORING as a whole. -/
def restore (s : State) : State :=
  let gauge : PocketState := if s.headFitted then .empty else .absent
  let s := restoreClear { s with pkc := { s.pkc with gauge := gauge } }
  let s := match s.stc.report with
    | .held => restoreHeld s
    | .failed => restoreFailed s
  settleReader (enterJoining (endRestoring s))

/-- R26: a probe in HUNTING; the one of address 5 ends HUNTING, and RESTORING follows. -/
def hunt (r : Option ModuleReport) (s : State) : State :=
  let a := s.stc.huntNext
  let s := settleProbe a r s
  if a < 5 then { s with stc := { s.stc with huntNext := a + 1 } }
  else restore { s with stc := { s.stc with node := .restoring } }

/-- R26 (row HUNT_PROBE). -/
def execHuntProbe (r : Option ModuleReport) (s : State) : Host.Outcome State Fault Refusal :=
  .next (if s.stc.powered ∧ s.stc.node = .hunting then hunt r s else s)

end Sys2Proof.Machine
end

