-- ==== Sys2Proof/Machine/Dispatch.lean ====
section
/-! DEFINITION. Each command's meaning, one arm per constructor of `Instr`. -/

namespace Sys2Proof.Machine

open Sys2Proof

def exec (i : Instr) (s : State) : Host.Outcome State Fault Refusal :=
  match i with
  | .powerOn => Sys2Proof.Machine.execPowerOn s
  | .resetInput => Sys2Proof.Machine.execResetInput s
  | .backupLatchSet => Sys2Proof.Machine.execBackupLatchSet s
  | .configRead image => Sys2Proof.Machine.execConfigRead image s
  | .huntProbe answer => Sys2Proof.Machine.execHuntProbe answer s
  | .joinTimerExpiry => Sys2Proof.Machine.execJoinTimerExpiry s
  | .secondEvent low => Sys2Proof.Machine.execSecondEvent low s
  | .moduleSilent addr => Sys2Proof.Machine.execModuleSilent addr s
  | .moduleReturn addr doors => Sys2Proof.Machine.execModuleReturn addr doors s
  | .moduleChanged addr => Sys2Proof.Machine.execModuleChanged addr s
  | .lockFault p => Sys2Proof.Machine.execLockFault p s
  | .latchPositionReached p => Sys2Proof.Machine.execLatchPositionReached p s
  | .doorOpening p => Sys2Proof.Machine.execDoorOpening p s
  | .doorClosing p => Sys2Proof.Machine.execDoorClosing p s
  | .pressReported p => Sys2Proof.Machine.execPressReported p s
  | .pressServed answer key => Sys2Proof.Machine.execPressServed answer key s
  | .pocketTimerExpiry p => Sys2Proof.Machine.execPocketTimerExpiry p s
  | .readAttemptEnd result => Sys2Proof.Machine.execReadAttemptEnd result s
  | .attentionPulseEnd => Sys2Proof.Machine.execAttentionPulseEnd s
  | .headMessageDiscarded bytes => Sys2Proof.Machine.execHeadMessageDiscarded bytes s
  | .headTag tool kind => Sys2Proof.Machine.execHeadTag tool kind s
  | .headTagGone => Sys2Proof.Machine.execHeadTagGone s
  | .burstStart n edge temperature => Sys2Proof.Machine.execBurstStart n edge temperature s
  | .sample index z x valid => Sys2Proof.Machine.execSample index z x valid s
  | .burstEnd => Sys2Proof.Machine.execBurstEnd s
  | .resultSent => Sys2Proof.Machine.execResultSent s
  | .frameDiscarded bytes => Sys2Proof.Machine.execFrameDiscarded bytes s
  | .idConflict => Sys2Proof.Machine.execIdConflict s
  | .announceReceived dst src a => Sys2Proof.Machine.execAnnounceReceived dst src a s
  | .seekReceived src seek want mode minLife => Sys2Proof.Machine.execSeekReceived src seek want mode minLife s
  | .offerReceived src seek tdr => Sys2Proof.Machine.execOfferReceived src seek tdr s
  | .takeReceived src seek => Sys2Proof.Machine.execTakeReceived src seek s
  | .lapseReceived src seek reason => Sys2Proof.Machine.execLapseReceived src seek reason s
  | .releasedReceived src seek tdr => Sys2Proof.Machine.execReleasedReceived src seek tdr s
  | .receivedFrame src seek tool version => Sys2Proof.Machine.execReceivedFrame src seek tool version s
  | .recordReceived src tdr => Sys2Proof.Machine.execRecordReceived src tdr s
  | .whereisReceived src tool => Sys2Proof.Machine.execWhereisReceived src tool s
  | .sendAttempt => Sys2Proof.Machine.execSendAttempt s
  | .attemptSent => Sys2Proof.Machine.execAttemptSent s
  | .attemptCollided => Sys2Proof.Machine.execAttemptCollided s
  | .backoffExpiry => Sys2Proof.Machine.execBackoffExpiry s
  | .windowTimerExpiry seek => Sys2Proof.Machine.execWindowTimerExpiry seek s
  | .deadlineExpiry seek => Sys2Proof.Machine.execDeadlineExpiry seek s
  | .holdTimerExpiry seeker seek => Sys2Proof.Machine.execHoldTimerExpiry seeker seek s
  | .releaseTimerExpiry seeker seek => Sys2Proof.Machine.execReleaseTimerExpiry seeker seek s
  | .awayTimerExpiry tool => Sys2Proof.Machine.execAwayTimerExpiry tool s
  | .transitTimerExpiry tool => Sys2Proof.Machine.execTransitTimerExpiry tool s
  | .transitCheckExpiry tool => Sys2Proof.Machine.execTransitCheckExpiry tool s
  | .claimWindowExpiry tool => Sys2Proof.Machine.execClaimWindowExpiry tool s
  | .status => Sys2Proof.Machine.execStatus s
  | .clear => Sys2Proof.Machine.execClear s
  | .need p wantType want mode minLife => Sys2Proof.Machine.execNeed p wantType want mode minLife s
  | .cancel p => Sys2Proof.Machine.execCancel p s
  | .stage p => Sys2Proof.Machine.execStage p s
  | .commit p token => Sys2Proof.Machine.execCommit p token s
  | .use p seconds => Sys2Proof.Machine.execUse p seconds s
  | .free p => Sys2Proof.Machine.execFree p s
  | .notices => Sys2Proof.Machine.execNotices s
  | .tool selector arg action => Sys2Proof.Machine.execTool selector arg action s
  | .toolWithhold selector arg key => Sys2Proof.Machine.execToolWithhold selector arg key s
  | .toolRelease selector arg key => Sys2Proof.Machine.execToolRelease selector arg key s
  | .sweep => Sys2Proof.Machine.execSweep s
  | .sweepstat => Sys2Proof.Machine.execSweepstat s
  | .hold p key => Sys2Proof.Machine.execHold p key s
  | .unhold p key => Sys2Proof.Machine.execUnhold p key s
  | .forget tool key => Sys2Proof.Machine.execForget tool key s
  | .setclock year month day hour minute second key => Sys2Proof.Machine.execSetclock year month day hour minute second key s
  | .unknownCommand code payload => Sys2Proof.Machine.execUnknownCommand code payload s
  | .commandCheckFail => Sys2Proof.Machine.execCommandCheckFail s
  | .commandOverrun => Sys2Proof.Machine.execCommandOverrun s
  | .replySent => Sys2Proof.Machine.execReplySent s
  | .mainPowerLoss => Sys2Proof.Machine.execMainPowerLoss s
  | .attentionReleaseIntervalEnd => Sys2Proof.Machine.execAttentionReleaseIntervalEnd s

end Sys2Proof.Machine
end

