-- ==== Sys2Proof/Machine/Formats.lean ====
section
/-! DEFINITION. The bytes the node sends (R66, R90, R155, R200 to R203): the frame being driven on the hall line, the reply on the station
link, the RESULT on the head port. -/

namespace Sys2Proof.Machine

open Sys2Proof

/-! ### Codes (R201, R202) -/

/-- R201: the custody code of a TDR. -/
def HeardCustody.code : HeardCustody → Nat
  | .stocked => 1
  | .atGauge => 2
  | .transit => 3
  | .away => 4
  | .lost => 5

/-- R202: the custody code of a TOOL reply. -/
def Custody.code : Custody → Nat
  | .stocked => 1
  | .atGauge => 2
  | .transit => 3
  | .away => 4
  | .lost => 5
  | .reserved => 6
  | .releasing => 7
  | .foreign => 8

/-- R201: the reason code. -/
def Reason.code : Reason → Nat
  | .outOfTol => 1
  | .runout => 2
  | .duplicate => 3
  | .operator => 4

/-- R201: the condition code and the reason code. -/
def Condition.codes : Condition → Nat × Nat
  | .ready => (1, 0)
  | .needsPreset => (2, 0)
  | .quarantine r => (3, r.code)
  | .expired => (4, 0)

/-- An absent number is sent as 0. -/
def orZero : Option Nat → Nat
  | some n => n
  | none => 0

/-- R201: the flags of a TDR. -/
def tdrFlags (p : Option Preset) (conflict : Bool) : Byte :=
  byteOfBits [p.isSome, decide (p.map (·.cls) = some .full), conflict]

/-- R201: the TDR that carries a record. The bytes of an absent preset part are 0. -/
def Record.toTdr (r : Record) : Tdr :=
  { tool := r.tool, kind := r.kind, version := r.version, custodian := r.custodian, custody := r.heard.code,
    destination := orZero r.destination, condition := r.condition.codes.1, reason := r.condition.codes.2,
    flags := tdrFlags r.preset r.conflict, cl := orZero (r.preset.map (·.cl)), cr := orZero (r.preset.map (·.cr)),
    runout := orZero (r.preset.map (·.runout)), presetStation := orZero (r.preset.map (·.station)),
    presetAge := orZero (r.preset.map (·.age)), life := r.life, remainder := r.remainder, used := r.used }

/-! ### Hall-line frames (R90, R200) -/

/-- R200: the mode code. -/
def SeekMode.code : SeekMode → Nat
  | .attended => 0
  | .unattended => 1

/-- R90, R200: the bytes of a frame that station own sends. -/
def Frame.bytes (own : StationId) : Frame → List Byte
  | .announce a => hallFrame 0 own 1 a.encode
  | .seek n w m l => hallFrame 0 own 2 (be 1 n ++ be 1 w.code ++ be 6 w.value ++ be 1 m.code ++ be 2 l)
  | .offer d n r => hallFrame d own 3 (be 1 n ++ r.toTdr.encode)
  | .take d n => hallFrame d own 4 (be 1 n)
  | .lapse d n x => hallFrame d own 5 (be 1 n ++ be 1 (lapseCode x))
  | .released d n r => hallFrame d own 6 (be 1 n ++ r.toTdr.encode)
  | .received d n t v => hallFrame d own 7 (be 1 n ++ be 6 t ++ be 2 v.toNat)
  | .record r => hallFrame 0 own 8 r.toTdr.encode
  | .whereis t => hallFrame 0 own 9 (be 6 t)

/-- R97: the bytes being driven on the hall line, if any. -/
def State.lineBytes (s : State) : Option (List Byte) :=
  match s.hli.send with
  | some x => if s.stc.powered ∧ x.phase = .driving then some (x.frame.bytes s.ownId) else none
  | none => none

/-! ### RESULT (R66, R203) -/

/-- R203: the outcome code. -/
def BurstOutcome.code : BurstOutcome → Nat
  | .pass => 1
  | .failRunout => 2
  | .failTol => 3
  | .again => 4
  | .repeatFail => 5
  | .shortBurst => 6
  | .aborted => 7
  | .kindUnknown => 8
  | .noCustody => 9

/-- R203: the message of a RESULT. -/
def Result.bytes (r : Result) : List Byte :=
  headMessage 0x81 (be 1 r.outcome.code ++ be 4 r.cl ++ be 4 r.cr ++ be 4 r.runout)

/-- R66: the bytes being sent on the head port, if any. -/
def State.headBytes (s : State) : Option (List Byte) := if s.stc.powered then s.pru.tx.map Result.bytes else none

/-! ### Replies (R155, R202) -/

/-- R202: the result code. -/
def ResultCode.code : ResultCode → Nat
  | .ok => 0
  | .busy => 1
  | .badPocket => 2
  | .noTool => 3
  | .stale => 4
  | .seq => 5
  | .keyRequired => 6
  | .range => 7
  | .refused => 8

/-- R202: the reason code of a notice, 0 absent. -/
def FailReason.code : FailReason → Nat
  | .noOffer => 1
  | .pocket => 2
  | .lapsed => 3
  | .timeout => 4
  | .line => 5
  | .counterpartReset => 6
  | .restart => 7

/-- A pocket number, 0xFF absent (R202). -/
def pocketByte : Option PocketNo → Nat
  | some p => p
  | none => 0xFF

/-- A timer, 0xFFFF absent (R202). -/
def timerField : Option Nat → Nat
  | some t => t
  | none => 0xFFFF

/-- R202: the 17 bytes of a notice. DESIGN CHOICE (log entry 52): a seek number and counts that the kind does not carry are sent
as 0. -/
def Notice.bytes (n : Notice) : List Byte :=
  be 1 (n.kind.index + 1) ++ be 1 (pocketByte n.pocket) ++ be 6 (orZero n.tool) ++ be 1 (orZero n.seek) ++
    be 1 (orZero (n.reason.map FailReason.code)) ++
    ((List.range 7).map (fun i => be 1 (n.counts.getD i 0))).flatten

/-- R29, R202: the state code of a pocket. -/
def PocketState.code : PocketState → Nat
  | .absent => 0
  | .empty => 1
  | .openForStock => 2
  | .awaiting => 3
  | .checking => 4
  | .stocked => 5
  | .reserved => 6
  | .releasing => 7
  | .wrongTool => 8
  | .fault => 9

/-- R202: the code of a check. -/
def Check.code : Check → Nat
  | .insert => 1
  | .remove => 2
  | .recheck => 3

/-- R202: the code of an indicator. -/
def Indicator.code : Indicator → Nat
  | .off => 0
  | .on => 1
  | .blink => 2
  | .flicker => 3

/-- R202: the flags of a pocket part. -/
def Pocket.flagBits (k : Pocket) : Nat :=
  flagByte [k.hold, k.verified, decide (k.door = .opened), decide (k.latch = .opened), k.openRelease, k.mark.isSome,
            k.mark.any (·.drift), k.target.isSome]

/-- R202: the saved state, 0xFF absent. -/
def savedByte : Option PocketState → Nat
  | some x => x.code
  | none => 0xFF

/-- R202: the 20 bytes of a pocket part. In FAULT the check kept is that of the saved state. -/
def pocketPart (p : PocketNo) (k : Pocket) : List Byte :=
  let check := orZero (k.check.map Check.code)
  be 1 p ++ be 1 k.state.code ++ be 1 (if k.state = .checking then check else 0) ++ be 1 (savedByte k.saved) ++
    be 1 (if k.saved = some .checking then check else 0) ++ be 1 k.flagBits ++ be 1 k.indicator.code ++
    be 2 (orZero (k.mark.map (fun m => m.version.toNat))) ++ be 4 (orZero (k.mark.map (·.length))) ++
    be 4 (orZero (k.mark.map (·.radius))) ++ be 1 (orZero k.target) ++ be 2 (timerField k.timer)

/-- R202: an absent pocket part. DESIGN CHOICE (log entry 52): its other 19 bytes are sent as 0. -/
def noPocketPart : List Byte := be 1 0xFF ++ List.replicate 19 0

/-- R202: the 40 bytes of an entry part. -/
def EntryPart.bytes (x : EntryPart) : List Byte :=
  { x.entry.record.toTdr with custody := x.entry.custody.code }.encode ++
    be 1 (orZero (x.entry.heard.map HeardCustody.code)) ++ be 1 (pocketByte x.entry.pocket) ++
    be 2 (timerField x.entry.awayTimer) ++ be 1 (flagByte [x.checkPending, x.windowOpen])

/-- R58, R202: the code of a sweep status. -/
def SweepStatus.code : SweepStatus → Nat
  | .none => 0
  | .ok => 1
  | .missing => 2
  | .unexpected => 3
  | .mismatch => 4
  | .readFail => 5
  | .skipped => 6
  | .absent => 7

/-- R58, R202: the code of the sweep state. -/
def SweepState.code : SweepState → Nat
  | .idle => 0
  | .active => 1
  | .suspended => 2

/-- R202: the bytes of a reply payload. -/
def ReplyPayload.bytes : ReplyPayload → List Byte
  | .none => []
  | .seek n => be 1 n
  | .staged l r w t => be 4 l ++ be 4 r ++ be 4 w ++ be 1 t
  | .committed l r => be 4 l ++ be 4 r
  | .used l m u => be 2 l ++ be 1 m ++ be 2 u
  | .notices ns => be 1 ns.length ++ (ns.map Notice.bytes).flatten
  | .tool p e =>
    (match p with
      | some (n, k) => pocketPart n k
      | Option.none => noPocketPart) ++
    (match e with
      | some x => x.bytes
      | Option.none => List.replicate 40 0)
  | .sweepStat x c t => be 1 x.code ++ be 1 c ++ (t.map (fun y => be 1 y.code)).flatten
  | .clock y mo d h mi s w => be 2 y ++ be 1 mo ++ be 1 d ++ be 1 h ++ be 1 mi ++ be 1 s ++ be 1 w

/-- R155, R202: the frame of a reply; a payload is sent only with OK. -/
def Reply.bytes (r : Reply) : List Byte :=
  linkFrame r.code (be 1 r.result.code ++ r.status ++ (if r.result = .ok then r.payload.bytes else []))

/-- R153: the bytes of the reply being sent, if any. -/
def State.replyBytes (s : State) : Option (List Byte) := if s.stc.powered then s.slk.reply.map Reply.bytes else none

end Sys2Proof.Machine
end

