-- ==== Sys2Proof/Safety.lean ====
section
/-! DEFINITION. The terms claims use: the bounds the manual gives the node's tables, the silence of a node in ID_CONFLICT, the range of
the calendar, when the reader stays where it is, and which commands come by which port. -/

namespace Sys2Proof.Machine

open Sys2Proof

/-- The bounds the manual gives the tables: the Tool Register ascends in tool ID, no tool twice, and holds at most 256
entries (R11); six modules (R25); 48 pockets (R29); the reader queue holds pockets 0..47, none twice (R49); 48 sweep
statuses (R58); the Preset Queue holds at most 32 (R84); at most 8 transfers are open (R112), each taker with at most 4
offers (R116); the lapsed list holds at most 8 (R113); at most 4 claim windows are open (R138); the urgent queue holds at
most 8 (R93) and the routine queue at most 16 (R94); at most 16 notices wait (R170); at most 16 pulses are owed (R172). -/
structure State.Bounded (s : State) : Prop where
  register : s.trg.entries.Pairwise (fun a b => a.tool < b.tool)
  entries : s.trg.entries.length ≤ 256
  modules : s.pkc.modules.length = 6
  pockets : s.pkc.pockets.length = 48
  readerOnce : s.rds.queue.Nodup
  readerRange : ∀ p ∈ s.rds.queue, p < 48
  statuses : s.rds.table.length = 48
  presetQueue : s.pru.queue.length ≤ 32
  transfers : s.cue.givers.length + s.cue.takers.length ≤ 8
  offers : ∀ k ∈ s.cue.takers, k.offers.length ≤ 4
  lapsed : s.cue.lapsed.length ≤ 8
  windows : s.cue.windows.length ≤ 4
  urgent : s.hli.urgent.length ≤ 8
  routine : s.hli.routine.length ≤ 16
  notices : s.slk.notices.length ≤ 16
  owed : s.slk.owed ≤ 16

/-- R101: in ID_CONFLICT both transmit queues are empty and no send is in flight. -/
def State.Silent (s : State) : Prop :=
  s.stc.node = .idConflict → s.hli.urgent = [] ∧ s.hli.routine = [] ∧ s.hli.send = none

/-- R176: the fields of a calendar value lie in their ranges, and the weekday is that of the date. -/
def Calendar.Valid (c : Calendar) : Prop :=
  clockInRange c.year c.month c.day c.hour c.minute c.second = true ∧ c.weekday = weekdayOf c.year c.month c.day

/-- The seconds from the origin of the calendar to its value (R176). -/
def Calendar.seconds (c : Calendar) : Nat := c.toStamp.minuteNumber * 60 + c.second

/-- The reader holds a read of a pocket other than p, and no sweep runs: after a command that concerns p the reader stays
where it is. -/
def State.readerElsewhere (s : State) (p : PocketNo) : Prop :=
  (∃ r, s.rds.inFlight = some r ∧ r.pocket ≠ p) ∧ s.rds.sweep = .idle

/-- The reader holds a read and no sweep runs. -/
def State.readerBusy (s : State) : Prop := s.rds.inFlight.isSome = true ∧ s.rds.sweep = .idle

/-- Read r is under way, and the reader, the sweep and the presence checks have nothing else: its end concerns the logic of its
own pocket alone. -/
structure State.SoleRead (s : State) (r : Read) : Prop where
  running : s.running = true
  bounded : s.Bounded
  inFlight : s.rds.inFlight = some r
  queue : s.rds.queue = []
  sweep : s.rds.sweep = .idle
  awaiting : s.rds.awaiting = false
  checks : s.trg.checks = []
  range : r.pocket < 48

/-- The command receiver takes a command by its own rule (R153, R154). -/
def State.takesCommands (s : State) : Prop := s.running = true ∧ s.slk.reply = none

/-- The state with a reply of the code and result and with the payload, formed from the state itself (R155). -/
def State.replied (s : State) (code : Nat) (r : ResultCode) (payload : ReplyPayload) : State :=
  { s with slk := { s.slk with reply := some { code := code, result := r, status := s.statusWord, payload := payload } } }

/-- R61, R64: the reader and a SUSPENDED sweep after the read of cursor pocket p gave status x: the reader is free, the status
is recorded, and the cursor advances; past 47 the sweep is IDLE at cursor 0. -/
def Rds.swept (d : Rds) (p : PocketNo) (x : SweepStatus) : Rds :=
  { d with inFlight := none, awaiting := false, table := d.table.set p x, sweep := if p < 47 then .suspended else .idle,
           cursor := if p < 47 then p + 1 else 0 }

/-- R102, R108, R131: what is left of the one open transfer of state s, giver g, when it is ended as on LAPSE(WITHDRAWN). In
OFFERED the pocket and the entry are STOCKED again; in RELEASING the transfer stays, withdrawing, and a read of its pocket is
asked for once the door is CLOSED; in TRANSIT the entry is AWAY with timer 3600 s, its version advanced by one. -/
structure State.GiverEnded (s t : State) (g : Giver) : Prop where
  offered : g.state = .offered → ∀ q e, g.pocket = some q → q < 48 → (s.pocket q).state = .reserved →
    s.entry? g.tool = some e → e.custody = .reserved →
    t.cue.givers = [] ∧ t.cue.lapsed.getLast? = some (g.seeker, g.seek) ∧
      (t.pocket q).state = .stocked ∧ (t.pocket q).latch = .locked ∧ (t.pocket q).contents = (s.pocket q).contents ∧
      (∀ p, p ≠ q → t.pocket p = s.pocket p) ∧
      t.entry? g.tool = some { e with custody := .stocked } ∧ (∀ v, v ≠ g.tool → t.entry? v = s.entry? v)
  releasing : g.state = .releasing → ∀ q, g.pocket = some q → s.present q = true → s.readerElsewhere q →
    t.cue.givers = [{ g with withdrawing := true }] ∧ t.trg = s.trg ∧
      (t.pocket q).state = (s.pocket q).state ∧ (∀ p, p ≠ q → t.pocket p = s.pocket p) ∧
      ((s.pocket q).door = .closed → (s.pocket q).readRequested = false →
        (t.pocket q).readRequested = true ∧ q ∈ t.rds.queue) ∧
      ((s.pocket q).door = .opened → t.pkc = s.pkc ∧ t.rds = s.rds)
  transit : g.state = .transit → ∀ e, s.entry? g.tool = some e → e.custody = .transit → e.pocket = none →
    s.cue.windows = [] → s.cue.waiting = [] →
    t.cue.givers = [] ∧ t.pkc = s.pkc ∧
      t.entry? g.tool = some { e with custody := .away, destination := none, awayTimer := some 3600,
                                      version := e.version + 1 } ∧
      (∀ v, v ≠ g.tool → t.entry? v = s.entry? v)

/-- R102, R108, R44: the target pocket 0..47 of taker k is EMPTY and latched again, with no other pocket changed, when it stood
AWAITING with no read requested. -/
def State.Untargeted (s t : State) (k : Taker) : Prop :=
  k.pocket < 48 → (s.pocket k.pocket).state = .awaiting → (s.pocket k.pocket).readRequested = false →
    (t.pocket k.pocket).state = .empty ∧ (t.pocket k.pocket).latch = .locked ∧ (t.pocket k.pocket).target = none ∧
      ∀ p, p ≠ k.pocket → t.pocket p = s.pocket p

/-- R10: record r supersedes entry e. -/
def Record.Supersedes (r : Record) (e : Entry) : Prop :=
  versionNewer r.version e.version = true ∨ (r.version - e.version).toNat = 32768 ∨
    (r.version = e.version ∧ r.custodian < e.custodian)

/-- R20: entry e is held on positive evidence: AT_GAUGE, or in a verified pocket with a door sensor, out of FAULT. -/
def State.HeldHere (s : State) (e : Entry) : Prop :=
  (e.custody = .atGauge ∧ e.pocket = none) ∨
    ((e.custody = .stocked ∨ e.custody = .reserved) ∧ ∃ p, e.pocket = some p ∧ s.hasDoor p = true ∧
      (s.pocket p).verified = true ∧ (s.pocket p).state ≠ .fault ∧ (s.pocket p).state ≠ .absent)

/-- R95: the routine queue can take a RECORD: it holds fewer than 16 frames, or a RECORD to discard. A full queue always holds
at least 15 RECORDs. -/
def State.RoutineRoom (s : State) : Prop := s.hli.routine.length < 16 ∨ s.hli.routine.any Frame.isRecord = true

/-- R87: entry e is one that a demand promotion of kind k, with the age limit, may choose. -/
def State.PromotionCandidate (s : State) (k ageLimit : Nat) (e : Entry) : Prop :=
  e ∈ s.trg.entries ∧ e.custody = .stocked ∧ e.kind = k ∧
    (e.condition = .needsPreset ∨ e.condition = .expired ∨ e.condition = .quarantine .runout ∨
      e.condition = .quarantine .outOfTol ∨ (e.condition = .ready ∧ ∃ p, e.preset = some p ∧ ageLimit < p.age))

/-- R4: the sum of the outside count and the departure count. -/
def State.outsideSum (s : State) : Nat :=
  (s.trg.entries.filter (fun e => decide (e.custody = .atGauge ∨ e.custody = .transit ∨ e.custody = .away ∨
    e.custody = .lost))).length +
  (s.cue.givers.filter (fun g => decide (g.state = .offered ∨ g.state = .releasing))).length +
  (s.pkc.pockets.filter (fun k => k.openRelease)).length

/-- R202: the code of a station-link command other than STATUS. -/
def linkCode : Instr → Option Nat
  | .clear => some 0x11
  | .need _ _ _ _ _ => some 0x12
  | .cancel _ => some 0x13
  | .stage _ => some 0x14
  | .commit _ _ => some 0x15
  | .use _ _ => some 0x16
  | .free _ => some 0x17
  | .notices => some 0x18
  | .tool _ _ _ => some 0x19
  | .toolWithhold _ _ _ => some 0x19
  | .toolRelease _ _ _ => some 0x19
  | .sweep => some 0x1A
  | .sweepstat => some 0x1B
  | .hold _ _ => some 0x1C
  | .unhold _ _ => some 0x1D
  | .forget _ _ => some 0x1E
  | .setclock _ _ _ _ _ _ _ => some 0x1F
  | .unknownCommand code _ => some code
  | _ => none

/-- R90: the station whose frame a command brings. -/
def hallSource : Instr → Option StationId
  | .announceReceived _ src _ => some src
  | .seekReceived src _ _ _ _ => some src
  | .offerReceived src _ _ => some src
  | .takeReceived src _ => some src
  | .lapseReceived src _ _ => some src
  | .releasedReceived src _ _ => some src
  | .receivedFrame src _ _ _ => some src
  | .recordReceived src _ => some src
  | .whereisReceived src _ => some src
  | _ => none

/-- R91: an ANNOUNCE comes with destination 0 or this node's own ID; the other commands carry no destination. -/
def hallReaches (own : StationId) : Instr → Prop
  | .announceReceived dst _ _ => dst = 0 ∨ dst = own
  | _ => True

end Sys2Proof.Machine
end

