-- ==== Sys2Proof/Certificates/Slice0/Obligations.lean ====
section
/-! DEFINITION. What is to be proved of the node. Every statement about a command names the state and the operands it starts from and
says what the command leaves; a state written as an update of s changes what it names and nothing else. -/

open Sys2Proof Sys2Proof.Machine

/-! ### The machine -/

/-- A step runs the command at the front of the queue on the state with the queue's rest.

An empty queue idles (the model's choice, log entry 4). -/
def Obligations.FrontCommandRuns : Prop :=
  (∀ (c : Instr) (cs : List Instr) (s : State), s.pending = c :: cs → step s = exec c { s with pending := cs }) ∧
  (∀ s : State, s.pending = [] → step s = .next s)

/-- Every command answers a next state, in every state, and no command touches the queue of waiting commands: nothing the
manual describes stops the node. -/
def Obligations.EveryCommandAnswers : Prop :=
  ∀ (c : Instr) (s : State), ∃ t, exec c s = .next t ∧ t.pending = s.pending

/-- The state after reset keeps the bounds of the tables (R11, R25, R29, R49, R58, R84, R93, R94, R112, R113, R138, R170, R172),
the silence of ID_CONFLICT (R101) and the range of the calendar (R176). -/
def Obligations.ResetKeeps : Prop := State.reset.Bounded ∧ State.reset.Silent ∧ State.reset.cck.cal.Valid

/-- R11, R25, R29, R49, R58, R84, R93, R94, R112, R113, R116, R138, R170, R172: every step keeps the bounds of the tables and
the queues, from every state that has them. -/
def Obligations.StepKeepsBounds : Prop := ∀ s t : State, s.Bounded → step s = .next t → t.Bounded

/-- R101: a node in ID_CONFLICT holds no frame and sends none; every step keeps that, from every state that has it. -/
def Obligations.StepKeepsSilence : Prop := ∀ s t : State, s.Silent → step s = .next t → t.Silent

/-- R176, R177, R186: the calendar lies in its range with the weekday of its date; every step keeps that, from every state that
has it. -/
def Obligations.StepKeepsCalendar : Prop :=
  ∀ s t : State, s.cck.cal.Valid → step s = .next t → t.cck.cal.Valid

/-- R176, R177: a calendar value in its range, not at the end of 2199, advances by exactly one second, and the weekday follows
the date; at the end of 2199 the calendar takes its origin, a Saturday. -/
def Obligations.CalendarAdvances : Prop :=
  (∀ c : Calendar, c.Valid → c.atEnd = false → c.tick.Valid ∧ c.tick.seconds = c.seconds + 1) ∧
    ∀ c : Calendar, c.atEnd = true → c.tick = { year := 2000, month := 1, day := 1, hour := 0, minute := 0, second := 0,
                                                weekday := 6 }

/-- R189: the node state changes by the table of the rule and by no other command; RESTORING is passed within the probe that
ends HUNTING (log entry 8). R190 to R192, R183, R196, R197: the configuration, the report of the latch and the recorded ID
change with those commands only.

The model's choice (log entry 27): MAIN_POWER_LOSS, alone among the others, touches the Start Controller, and it keeps the node
state. -/
def Obligations.NodeStateChanges : Prop :=
  ∀ (c : Instr) (s t : State), exec c s = .next t → t.stc ≠ s.stc →
    ((c = .powerOn ∨ c = .resetInput) ∧ t.stc.node = .loading) ∨
    ((∃ image, c = .configRead image) ∧ s.stc.node = .loading ∧
      (t.stc.node = .loading ∨ t.stc.node = .hunting ∨ t.stc.node = .configFault)) ∨
    ((∃ r, c = .huntProbe r) ∧ s.stc.node = .hunting ∧ (t.stc.node = .hunting ∨ t.stc.node = .joining)) ∨
    (c = .joinTimerExpiry ∧ s.stc.node = .joining ∧ t.stc.node = .run) ∨
    (c = .idConflict ∧ (s.stc.node = .joining ∨ s.stc.node = .run) ∧ t.stc.node = .idConflict) ∨
    (c = .mainPowerLoss ∧ t.stc.node = s.stc.node)

/-- R177, R183, R185, R186: only a second, a setting of the clock and the end of RESTORING change the calendar; only these
commands, the start of a node and the setting of the latch touch the clock at all.

The model's choices: HUNT_PROBE stands for the end of RESTORING (log entry 8), and BACKUP_LATCH_SET leaves the calendar as it
is (log entry 20). -/
def Obligations.ClockChanges : Prop :=
  ∀ (c : Instr) (s t : State), exec c s = .next t →
    (t.cck.cal ≠ s.cck.cal →
      (∃ low, c = .secondEvent low) ∨ (∃ r, c = .huntProbe r) ∨
        (∃ y mo d h mi sec key, c = .setclock y mo d h mi sec key)) ∧
    (t.cck ≠ s.cck →
      (∃ low, c = .secondEvent low) ∨ (∃ r, c = .huntProbe r) ∨
        (∃ y mo d h mi sec key, c = .setclock y mo d h mi sec key) ∨
        c = .powerOn ∨ c = .resetInput ∨ c = .backupLatchSet)

/-! ### The byte layouts -/

/-- R91, R200, R201: the frame that brings a well-formed command of the hall line is read as that command, every field at every
value, at every station other than its sender. That the six bytes of a SEEK's kind want are read as one number, when the upper
five are not 0 too, is the model's choice (log entry 54). -/
def Obligations.HallRoundTrip : Prop :=
  ∀ (own : StationId) (i : Instr) (b : List Byte), 1 ≤ own → own ≤ 250 → i.wf = true → encodeHall own i = some b →
    (∀ src, hallSource i = some src → src ≠ own) → hallReaches own i → hallCommand own b = i

/-- R153, R202: the frame of a well-formed command of the station link is read as that command, every field at every value,
with the level of the key input that the command carries. -/
def Obligations.LinkRoundTrip : Prop :=
  ∀ (i : Instr) (b : List Byte), i.wf = true → encodeLink i = some b → linkCommand i.key b = i

/-- R65, R203: the message of a well-formed command of the head port is read as that command, every field at every value. -/
def Obligations.HeadRoundTrip : Prop :=
  ∀ (i : Instr) (b : List Byte), i.wf = true → encodeHead i = some b → headCommand b = i

/-- R200, R202, R203: a TAKE, an ANNOUNCE and a WHEREIS written out byte by byte, a USE and a FORGET, a TAG and a BURST_START,
each read as the command it stands for; a frame under the node's own ID is an ID conflict (R91).

R199: the bytes before a check come back from the bytes with their check, and the check over the nine ASCII bytes
"123456789" is 0x29B1. -/
def Obligations.WordsRead : Prop :=
  (hallCommand 5 [0x05, 0x09, 0x04, 0x01, 0x07, 0x5E, 0x3A] = .takeReceived 9 7 ∧
   hallCommand 5 [0x00, 0x09, 0x01, 0x04, 0x03, 0x10, 0x08, 0x05, 0xD7, 0xE7] =
     .announceReceived 0 9 { ramValid := true, headFitted := true, locks := false, doors := false, crib := 16,
                             magazine := 8, nodeState := 5 } ∧
   hallCommand 5 [0x00, 0x09, 0x09, 0x06, 0x00, 0x01, 0x02, 0x03, 0x04, 0x05, 0x59, 0xC1] =
     .whereisReceived 9 0x0102030405 ∧
   hallCommand 5 [0x07, 0x05, 0x04, 0x01, 0x07, 0x55, 0x8B] = .idConflict ∧
   linkCommand false [0xA5, 0x04, 0x16, 0x0B, 0x00, 0x3C, 0xA3, 0x1A] = .use 11 60 ∧
   linkCommand true [0xA5, 0x07, 0x1E, 0x00, 0x01, 0x02, 0x03, 0x04, 0x05, 0x71, 0xDD] = .forget 0x0102030405 true ∧
   headCommand [0x5A, 0x01, 0x07, 0x00, 0x01, 0x02, 0x03, 0x04, 0x05, 0x15, 0xCF, 0x17] = .headTag 0x0102030405 21 ∧
   headCommand [0x5A, 0x03, 0x04, 0x08, 0x01, 0xFF, 0x38, 0x4F, 0xA1] = .burstStart 8 true (some (-200))) ∧
  ((∀ l : List Byte, checked (withCheck l) = some l) ∧
     crc16 [0x31, 0x32, 0x33, 0x34, 0x35, 0x36, 0x37, 0x38, 0x39] = 0x29B1)

/-- R190, R191: an image that is accepted loads a station ID of 1..250, six banks, nine mask bits, 64 kind entries with every
field inside its range, and four alarm entries with hours and minutes inside theirs.

R191, R156: the configuration is marked clamped exactly when a field as it stands in the image lies outside its range: a bank
kind or the attention mode above 1, a field of a defined kind entry, an hour, a minute or an action of an alarm entry; and
the status word shows CONFIG_CLAMPED exactly then. -/
def Obligations.ImageInRanges : Prop :=
  ∀ (l : List Byte) (c : NodeConfig), readImage (some l) = some c →
    (1 ≤ c.station ∧ c.station ≤ 250) ∧ c.banks.length = 6 ∧ c.mask.length = 9 ∧ c.kinds.length = 64 ∧
    c.alarms.length = 4 ∧
    (∀ k ∈ c.kinds, ∀ e, k = some e →
      e.nominalLength ≤ 6000000 ∧ e.tolLength ≤ 6000000 ∧ e.nominalRadius ≤ 1250000 ∧ e.tolRadius ≤ 1250000 ∧
      e.runoutLimit ≤ 1250000 ∧ e.alpha ≤ 3000 ∧ 1 ≤ e.bursts ∧ e.bursts ≤ 2 ∧ e.reserve ≤ e.fullLife ∧
      e.wearLimit ≤ 6000000 ∧ e.band ≤ 65535 ∧ e.fullLife ≤ 65535 ∧ e.wearRate ≤ 65535 ∧ e.ageLimit ≤ 65535) ∧
    (∀ a ∈ c.alarms, (∀ h, a.hour = some h → h ≤ 23) ∧ (∀ m, a.minute = some m → m ≤ 59)) ∧
    (c.clamped = true ↔
      (∃ a, a < 6 ∧ 1 < field (3 + a) 1 l) ∨ 1 < field 10 1 l ∨
      (∃ k r, k < 64 ∧ (field 0 1 (kindBytes l k)).testBit 0 = true ∧ r = rawKind (kindBytes l k) ∧
        (6000000 < r.nominalLength ∨ 6000000 < r.tolLength ∨ 1250000 < r.nominalRadius ∨ 1250000 < r.tolRadius ∨
          1250000 < r.runoutLimit ∨ 3000 < r.alpha ∨ r.bursts = 0 ∨ 2 < r.bursts ∨ r.fullLife < r.reserve ∨
          6000000 < r.wearLimit)) ∨
      (∃ k b, k < 4 ∧ b = alarmBytes l k ∧
        ((field 1 1 b ≠ 0xFF ∧ 23 < field 1 1 b) ∨ (field 2 1 b ≠ 0xFF ∧ 59 < field 2 1 b) ∨ 1 < field 4 1 b))) ∧
    (∀ s : State, s.stc.config = some c → ∃ b : Byte, s.statusWord[1]? = some b ∧ b.getLsbD 4 = c.clamped)

/-! ### Starts and supplies, the clock -/

/-- R189, R183: POWER_ON, and RESET_INPUT with main power on, begin a start in LOADING with the first reading of the latch; the
record memory and the calendar stay as they are, and what every start empties is empty. BACKUP_LATCH_SET sets the latch, and
MAIN_POWER_LOSS turns main power off.

The model's choices: POWER_ON begins a start in every state, and RESET_INPUT without main power has no effect (log entry 35);
the notices and the transmit queues stand until RESTORING (log entry 18); BACKUP_LATCH_SET leaves the memory and the calendar
as they are (log entry 20); MAIN_POWER_LOSS changes nothing more, and then no output of the node is driven (log entry 27). -/
def Obligations.SuppliesAct : Prop :=
  (∀ s : State, ∃ t : State,
     exec .powerOn s = .next t ∧
     (s.stc.powered = true → exec .resetInput s = .next t) ∧
     (s.stc.powered = false → exec .resetInput s = .next s) ∧
     t.stc = { s.stc with node := .loading, powered := true, config := none, refusedOnce := false, huntNext := 0,
                          report := if s.cck.latch then .failed else .held } ∧
     t.cck = { s.cck with low := false } ∧
     t.trg = s.trg ∧ t.cue = s.cue ∧
     t.pkc.pockets = s.pkc.pockets ∧ t.pkc.gauge = .absent ∧ t.pkc.modules = List.replicate 6 Module.none ∧
     t.rds.queue = [] ∧ t.rds.inFlight = none ∧ t.rds.sweep = .idle ∧ t.rds.table = List.replicate 48 .none ∧
     t.pru = { gauge := none, burst := none, first := none, queue := s.pru.queue, tx := none, txWait := none } ∧
     t.slk = { s.slk with reply := none, sticky := ⟨false, false, false, false⟩, stage := none, owed := 0, pulse := .idle } ∧
     t.hli = { s.hli with send := none, joinTimer := none } ∧ t.attention = false ∧ t.lineBytes = none ∧ t.headBytes = none ∧ t.replyBytes = none ∧
     t.free = s.free ∧ t.pending = s.pending) ∧
  (∀ s : State,
     exec .backupLatchSet s = .next { s with cck := { s.cck with latch := true } } ∧
     ∃ t : State, exec .mainPowerLoss s = .next t ∧ t = { s with stc := { s.stc with powered := false } } ∧
       t.attention = false ∧ t.lineBytes = none ∧ t.headBytes = none ∧ t.replyBytes = none)

/-- R190, R192: in LOADING an accepted image is loaded and HUNTING follows; a refused image is read once more, and a second
refusal puts the node into CONFIG_FAULT. That CONFIG_READ leaves every other state as it was is the model's choice (log
entry 3).

R26: a probe of address 0..4 in HUNTING settles the address: ACTIVE with the bank kind of the configuration for a report of
1..8 lines, ABSENT for another report or none; the doors of its eight pockets start as reported. Nothing else changes but the
indicators of these pockets, which are formed anew (R37). -/
def Obligations.ConfigAndHunt : Prop :=
  (∀ (image : Option (List Byte)) (s : State),
     (s.stc.powered = true → s.stc.node = .loading →
       (∀ c, readImage image = some c →
         exec (.configRead image) s =
           .next { s with stc := { s.stc with config := some c, node := .hunting, huntNext := 0 } }) ∧
       (readImage image = none → s.stc.refusedOnce = false →
         exec (.configRead image) s = .next { s with stc := { s.stc with refusedOnce := true } }) ∧
       (readImage image = none → s.stc.refusedOnce = true →
         exec (.configRead image) s = .next { s with stc := { s.stc with node := .configFault } })) ∧
     (s.stc.node ≠ .loading → exec (.configRead image) s = .next s)) ∧
  (∀ (r : Option ModuleReport) (s : State), s.stc.powered = true → s.stc.node = .hunting → s.stc.huntNext < 5 →
     s.pkc.pockets.length = 48 →
     ∃ t : State, exec (.huntProbe r) s = .next t ∧
       t.stc = { s.stc with huntNext := s.stc.huntNext + 1 } ∧
       t.pkc.modules = s.pkc.modules.set s.stc.huntNext
         (match r with
           | some m =>
             if 1 ≤ m.lines ∧ m.lines ≤ 8 then
               { state := .active, bank := s.bankOf s.stc.huntNext, lock := m.lock, door := m.door,
                 indicator := m.indicator, lines := m.lines }
             else Module.none
           | none => Module.none) ∧
       (∀ p, p / 8 = s.stc.huntNext → (t.pocket p).door =
         (match r with
           | some m => if m.door ∧ p % 8 < m.lines ∧ m.doorsOpen.getD (p % 8) false = true then .opened else .closed
           | none => .closed)) ∧
       (∀ p, p / 8 = s.stc.huntNext →
         { t.pocket p with door := (s.pocket p).door, indicator := (s.pocket p).indicator } = s.pocket p) ∧
       (∀ p, p / 8 ≠ s.stc.huntNext → t.pocket p = s.pocket p) ∧
       t = { s with stc := t.stc, pkc := { s.pkc with modules := t.pkc.modules, pockets := t.pkc.pockets } })

/-- R26, R104, R183, R194, R197: the probe of address 5 ends HUNTING; RESTORING follows within it (log entry 8) and the node is
JOINING, with the latch re-armed and its own ID recorded. When the memory failed, the record memory is empty, every pocket is
EMPTY and unverified or ABSENT by the hunt (R48), the calendar stands at its origin untrusted, and the ANNOUNCE is the one
frame queued. When the memory held, the calendar and its trust are kept.

With the memory held and the station ID kept, n being the outage in minutes (R187). With no transfer and no window open, every
entry (R195, R7, R188, R151): preset ages raised by n, away timers lowered by 60n seconds, the life clamped, a READY custody
entry brought to 0 EXPIRED, an AWAY one whose timer is used up LOST, the version advanced once for each of the two. With
transfers that fit the hunt and outlast the outage: all are kept, their timers lowered, their offer lists empty (R194), and
each pocket is what the rows of R47 give: ABSENT, RESERVED or RELEASING by its giver, AWAITING by its taker, STOCKED,
OPEN_FOR_STOCK, CHECKING with INSERT, or EMPTY; unverified, its hold flag kept.

R196: with the memory held and another station ID, no taker transfer is left, and of the giver transfers those in RELEASING alone,
withdrawing. With no transfer and no window open, a cached entry of the new ID is deleted; every custody entry takes the new ID
as custodian with its version advanced by one, and its RECORD is queued; the steps above act on it as with the ID kept.

The model's readings, where the rules are silent: a clamp of the life keeps the seconds remainder (log entry 17), a transfer is
kept though its tool becomes EXPIRED by the clamp (log entry 33), and a FAULT pocket is rebuilt as any other, by its contents and
transfers (log entry 34). -/
def Obligations.HuntEndsInJoining : Prop :=
  ∀ (r : Option ModuleReport) (s : State), s.stc.powered = true → s.stc.node = .hunting → s.stc.huntNext = 5 →
    ∃ t : State, exec (.huntProbe r) s = .next t ∧
      t.stc = { s.stc with node := .joining, recordedId := s.ownId } ∧ t.cck.latch = false ∧ t.cck.low = s.cck.low ∧
      (s.stc.report = .held → t.cck.cal = s.cck.cal ∧ t.cck.trust = s.cck.trust) ∧
      (s.stc.report = .failed →
        t.cck.cal = Calendar.origin ∧ t.cck.trust = false ∧
        t.trg.entries = [] ∧ t.trg.heard = [] ∧ t.trg.checks = [] ∧ t.trg.stamp = Calendar.origin.toStamp ∧
        t.cue = Cue.empty ∧ t.pru = Pru.empty ∧ t.rds = Rds.empty ∧ t.slk.notices = [] ∧ t.slk.token = 0 ∧
        t.hli = { urgent := [], routine := [.announce t.joinReport], send := none, joinTimer := some 1 } ∧
        ∀ p, p < 48 → t.pocket p =
          (if t.fitted p then { Pocket.vacant with state := .empty, door := (t.pocket p).door } else Pocket.vacant)) ∧
      (∀ n, s.stc.report = .held → s.Bounded → s.ownId = s.stc.recordedId →
        n = min 65535 (s.cck.cal.toStamp.minuteNumber - s.trg.stamp.minuteNumber) →
        (s.cue.givers = [] → s.cue.takers = [] → s.cue.windows = [] →
          (s.headFitted = true ∨ ∀ e ∈ s.trg.entries, e.custody ≠ .atGauge) →
          t.trg.heard = s.trg.heard ∧ t.trg.checks = [] ∧ t.trg.stamp = s.cck.cal.toStamp ∧
          (∀ u, s.entry? u = none → t.entry? u = none) ∧
          ∀ u e, s.entry? u = some e → ∃ (e' : Entry) (out lost : Bool), t.entry? u = some e' ∧
            (out = true ↔ e.custody ≠ .foreign ∧ e.condition = .ready ∧ min e.life (s.fullLife e.kind) = 0) ∧
            (lost = true ↔ e.custody = .away ∧ ∃ x, e.awayTimer = some x ∧ x ≤ 60 * n) ∧
            e' = { e with
              preset := e.preset.map (fun p => { p with age := min 65535 (p.age + n) }),
              life := min e.life (s.fullLife e.kind),
              condition := if out then .expired else e.condition,
              custody := if lost then .lost else e.custody,
              destination := if lost then none else e.destination,
              awayTimer := if lost then none else e.awayTimer.map (· - 60 * n),
              version := e.version + (if out then 1 else 0) + (if lost then 1 else 0) }) ∧
        ((∀ g ∈ s.cue.givers, (∀ x, g.timer = some x → 60 * n < x) ∧
            (∀ q, g.pocket = some q → t.fitted q = true ∧ t.isMagazine q = false)) →
          (∀ k ∈ s.cue.takers, k.state ≠ .seeking ∧ 60 * n < k.timer ∧ t.fitted k.pocket = true ∧ t.isCrib k.pocket = false) →
          t.cue.givers = s.cue.givers.map (fun g => { g with timer := g.timer.map (· - 60 * n) }) ∧
          t.cue.takers = s.cue.takers.map (fun k => { k with timer := k.timer - 60 * n, offers := [] }) ∧
          ∀ p k, p < 48 → k = s.pocket p →
            (t.pocket p).verified = false ∧ (t.pocket p).hold = k.hold ∧
            (t.fitted p = false → (t.pocket p).state = .absent ∧ (t.pocket p).contents = k.contents) ∧
            (t.fitted p = true →
              (∀ g, s.giverNaming p = some g → (t.pocket p).contents = k.contents ∧
                (g.state = .offered → (t.pocket p).state = .reserved ∧ (t.pocket p).latch = .locked) ∧
                (g.state = .releasing → (t.pocket p).state = .releasing ∧ (t.pocket p).latch = .opened)) ∧
              (∀ x, s.giverNaming p = none → s.takerTargeting p = some x →
                (t.pocket p).state = .awaiting ∧ (t.pocket p).latch = .opened ∧ (t.pocket p).target = some x.seek ∧
                (t.pocket p).contents = none) ∧
              (s.giverNaming p = none → s.takerTargeting p = none →
                (s.holdsStocked k = true →
                  (t.pocket p).state = .stocked ∧ (t.pocket p).latch = .locked ∧ (t.pocket p).openRelease = false ∧
                  (t.pocket p).contents = k.contents) ∧
                (s.holdsStocked k = false → (t.pocket p).contents = none ∧
                  (∀ x, k.state = .openForStock → k.timerRunning = true → k.timer = some x → 60 * n < x →
                    (t.pocket p).state = .openForStock ∧ (t.pocket p).latch = .opened ∧
                    (t.pocket p).timer = some (x - 60 * n)) ∧
                  (k.state = .checking → k.check = some .insert →
                    (t.pocket p).state = .checking ∧ (t.pocket p).check = some .insert ∧ (t.pocket p).latch = k.latch ∧
                    (t.pocket p).readRequested = true) ∧
                  (k.state ≠ .openForStock → ¬(k.state = .checking ∧ k.check = some .insert) →
                    (t.pocket p).state = .empty ∧ (t.pocket p).latch = .locked)))))) ∧
      (∀ n, s.stc.report = .held → s.Bounded → s.ownId ≠ s.stc.recordedId →
        n = min 65535 (s.cck.cal.toStamp.minuteNumber - s.trg.stamp.minuteNumber) →
        t.cue.takers = [] ∧ (∀ g ∈ t.cue.givers, g.state = .releasing ∧ g.withdrawing = true) ∧
        (s.cue.givers = [] → s.cue.takers = [] → s.cue.windows = [] →
          (s.headFitted = true ∨ ∀ e ∈ s.trg.entries, e.custody ≠ .atGauge) →
          ∀ u e, s.entry? u = some e →
            (e.custody = .foreign → e.custodian = s.ownId → t.entry? u = none ∧ u ∉ t.trg.heard) ∧
            (e.custody = .foreign → e.custodian ≠ s.ownId →
              t.entry? u = some { e with
                preset := e.preset.map (fun p => { p with age := min 65535 (p.age + n) }),
                life := min e.life (s.fullLife e.kind), awayTimer := e.awayTimer.map (· - 60 * n) }) ∧
            (e.custody ≠ .foreign → ∃ (e' : Entry) (out lost : Bool), t.entry? u = some e' ∧
              (out = true ↔ e.condition = .ready ∧ min e.life (s.fullLife e.kind) = 0) ∧
              (lost = true ↔ e.custody = .away ∧ ∃ x, e.awayTimer = some x ∧ x ≤ 60 * n) ∧
              e' = { e with
                custodian := s.ownId,
                preset := e.preset.map (fun p => { p with age := min 65535 (p.age + n) }),
                life := min e.life (s.fullLife e.kind),
                condition := if out then .expired else e.condition,
                custody := if lost then .lost else e.custody,
                destination := if lost then none else e.destination,
                awayTimer := if lost then none else e.awayTimer.map (· - 60 * n),
                version := e.version + 1 + (if out then 1 else 0) + (if lost then 1 else 0) } ∧
              (s.trg.entries.length ≤ 15 → t.hli.routine.any (Frame.isRecordOf u) = true))))

/-- R106, R59: the join timer's expiry brings JOINING to RUN and starts the sweep: SUSPENDED while the node is not quiet, with
every status NONE and the cursor at 0. The queued frames keep their places. R45: the node is quiet when the door of every present
pocket of an ACTIVE module is CLOSED.

R59, R60: while the node is quiet the sweep starts ACTIVE and visits pocket 0 at once: for an EMPTY, STOCKED, RESERVED or FAULT
pocket without an open release and a requested read, its read is queued and awaited.

R59, R154, R181: a sweep begun in JOINING goes on as it was; that the dash of R59's table means no effect is the model's reading
(log entry 46). That the expiry outside JOINING leaves the state as it was is the model's choice (log entry 3), and R106's own
words where a conflict has ended JOINING. -/
def Obligations.JoinTimerExpires : Prop :=
  ∀ s : State,
    (s.running = true → s.stc.node = .joining → s.hli.joinTimer = some 0 →
      (∃ t : State, exec .joinTimerExpiry s = .next t ∧ t.stc = { s.stc with node := .run } ∧ t.cck = s.cck) ∧
      (s.rds.sweep = .idle → s.quiet = false → (s.rds.inFlight.isSome = true ∨ s.rds.queue = []) →
        exec .joinTimerExpiry s = .next
          { s with
            stc := { s.stc with node := .run }, hli := { s.hli with joinTimer := none },
            rds := { s.rds with sweep := .suspended, cursor := 0, awaiting := false,
                                table := List.replicate 48 .none } }) ∧
      (s.rds.sweep = .idle → s.quiet = true → s.readerElsewhere 0 → 0 ∉ s.rds.queue → (s.pocket 0).readRequested = false →
        ((s.pocket 0).state = .empty ∨ ((s.pocket 0).state = .stocked ∧ (s.pocket 0).openRelease = false) ∨
          (s.pocket 0).state = .reserved ∨ (s.pocket 0).state = .fault) →
        exec .joinTimerExpiry s = .next
          { s with
            stc := { s.stc with node := .run }, hli := { s.hli with joinTimer := none },
            rds := { s.rds with sweep := .active, cursor := 0, awaiting := true, table := List.replicate 48 .none,
                                queue := s.rds.queue ++ [0] } }) ∧
      ((s.rds.sweep = .suspended ∨ (s.rds.sweep = .active ∧ s.rds.awaiting = true)) →
        (s.rds.inFlight.isSome = true ∨ s.rds.queue = []) →
        exec .joinTimerExpiry s = .next
          { s with stc := { s.stc with node := .run }, hli := { s.hli with joinTimer := none } })) ∧
    (s.stc.node ≠ .joining → exec .joinTimerExpiry s = .next s) ∧
    (s.quiet = true ↔ ∀ p, p < 48 → s.present p = true → s.moduleActive p = true → (s.pocket p).door = .closed)

/-- R177, R178, R184: before the end of RESTORING, in CONFIG_FAULT and without main power a second advances the calendar only,
and clears the trust past its end; the backup level is read from the end of LOADING on with main power.

R178: in JOINING, RUN and ID_CONFLICT a second that ends no minute counts every timer down by one (one at 0 stands there, the
model's choice, log entry 5) and commands the latch of a pocket in a lock fault once more (R31); nothing else changes but the
calendar and the level reading.

R14, R15: a second that ends a minute, while the clock is not trusted or no alarm matches (R180), ages every preset by one
minute, saturating at 65535, and writes the last-alive stamp with the calendar value reached; versions and queued RECORDs stay.

R179, R180: an alarm entry matches by its enable, hour, minute and weekday. R181, R59: with the one action SWEEP the sweep is
started, or the alarm is dropped while one runs. R181, R182: with the one action AGE_REVIEW, while no preset stands just at its
limit, every READY custody entry past the age limit of its kind becomes NEEDS_PRESET as a versioned change with a RECORD
queued, and joins the Preset Queue; no other entry changes but by the ageing. -/
def Obligations.SecondEventActs : Prop :=
  (∀ (low : Bool) (s : State), s.running = false →
     exec (.secondEvent low) s = .next
       { s with cck := { s.cck with cal := s.cck.cal.tick, trust := s.cck.trust && !s.cck.cal.atEnd,
                                    low := if s.stc.powered = true ∧ s.stc.node ≠ .loading then low else s.cck.low } }) ∧
  (∀ (low : Bool) (s : State), s.running = true → s.cck.cal.tick.second ≠ 0 → s.readerBusy →
     exec (.secondEvent low) s = .next
       { s with
         cck := { s.cck with cal := s.cck.cal.tick, trust := s.cck.trust && !s.cck.cal.atEnd, low := low },
         trg := { s.trg with entries := s.trg.entries.map (fun e => { e with awayTimer := e.awayTimer.map (· - 1) }) },
         pkc := { s.pkc with pockets := s.pkc.pockets.mapIdx (fun p k =>
           let k' := if k.timerRunning = true ∧ k.state ≠ .fault then { k with timer := k.timer.map (· - 1) } else k
           if s.moduleActive p then k'.relatched else k') },
         cue := { s.cue with givers := s.cue.givers.map (fun g => { g with timer := g.timer.map (· - 1) }),
                             takers := s.cue.takers.map (fun k => { k with timer := k.timer - 1 }),
                             windows := s.cue.windows.map (fun w => { w with timer := w.timer - 1 }) },
         hli := { s.hli with joinTimer := s.hli.joinTimer.map (· - 1) } }) ∧
  (∀ (low : Bool) (s : State), s.running = true → s.cck.cal.tick.second = 0 → s.readerBusy →
     (s.cck.trust = false ∨ ∀ c, s.stc.config = some c → ∀ a ∈ c.alarms, Alarm.matches s.cck.cal.tick a = false) →
     ∃ t : State, exec (.secondEvent low) s = .next t ∧
       t.trg = { s.trg with
         entries := s.trg.entries.map (fun e =>
           { e with awayTimer := e.awayTimer.map (· - 1),
                    preset := e.preset.map (fun p => { p with age := min 65535 (p.age + 1) }) }),
         stamp := s.cck.cal.tick.toStamp } ∧
       t.hli.routine = s.hli.routine ∧ t.hli.urgent = s.hli.urgent ∧ t.rds = s.rds ∧ t.pru = s.pru ∧ t.slk = s.slk ∧
       t.stc = s.stc ∧ t.free = s.free) ∧
  (∀ (c : Calendar) (a : Alarm), Alarm.matches c a = true ↔
     a.enable = true ∧ (a.hour = none ∨ a.hour = some c.hour) ∧ (a.minute = none ∨ a.minute = some c.minute) ∧
       a.weekdays.getD c.weekday false = true) ∧
  (∀ (low : Bool) (c : NodeConfig) (s : State), s.running = true → s.cck.cal.tick.second = 0 → s.cck.trust = true →
     s.cck.cal.atEnd = false → s.stc.config = some c → s.rds.inFlight.isSome = true →
     ((c.alarms.filter (Alarm.matches s.cck.cal.tick)).map (·.action) = [.sweep] →
       ∃ t : State, exec (.secondEvent low) s = .next t ∧
         t.trg = { s.trg with
           entries := s.trg.entries.map (fun e =>
             { e with awayTimer := e.awayTimer.map (· - 1),
                      preset := e.preset.map (fun p => { p with age := min 65535 (p.age + 1) }) }),
           stamp := s.cck.cal.tick.toStamp } ∧
         (s.rds.sweep = .idle → s.quiet = false →
           t.rds = { s.rds with sweep := .suspended, cursor := 0, awaiting := false, table := List.replicate 48 .none }) ∧
         ((s.rds.sweep = .suspended ∨ (s.rds.sweep = .active ∧ s.rds.awaiting = true)) → t.rds = s.rds)) ∧
     ((c.alarms.filter (Alarm.matches s.cck.cal.tick)).map (·.action) = [.ageReview] → s.Bounded → s.rds.sweep = .idle →
       s.cue.givers = [] → s.cue.windows = [] →
       (∀ e ∈ s.trg.entries, ∀ p k, e.preset = some p → s.kind? e.kind = some k → p.age ≤ 65535 ∧ p.age ≠ k.ageLimit) →
       ∃ t : State, exec (.secondEvent low) s = .next t ∧ t.trg.stamp = s.cck.cal.tick.toStamp ∧
         (∀ u, s.entry? u = none → t.entry? u = none) ∧
         ∀ u e, s.entry? u = some e → ∃ aged : Bool,
           (aged = true ↔ e.custody ≠ .foreign ∧ e.condition = .ready ∧
             ∃ p k, e.preset = some p ∧ s.kind? e.kind = some k ∧ k.ageLimit < p.age) ∧
           t.entry? u = some
             { e with awayTimer := e.awayTimer.map (· - 1),
                      preset := e.preset.map (fun p => { p with age := min 65535 (p.age + 1) }),
                      condition := if aged then .needsPreset else e.condition,
                      version := e.version + (if aged then 1 else 0) } ∧
           (aged = true → s.stc.node ≠ .idConflict → s.hli.routine.length + s.trg.entries.length ≤ 16 →
             t.hli.routine.any (Frame.isRecordOf u) = true) ∧
           (aged = true → s.pru.queue.length + s.trg.entries.length ≤ 32 → u ∈ t.pru.queue)))

/-! ### Modules, latches, doors, presses, pocket timers -/

/-- R27: an ACTIVE module whose pockets no transfer, check, adoption or read concerns falls SILENT: each of its present pockets
that is not in FAULT goes to FAULT with its state saved and nothing else of it changed but its indicator; the other
pockets, the register, the transfers, the queues and the reader stay as they are.

R27, R123, R132: a pocket of the module that a giver transfer in OFFERED or RELEASING names: the saved state is STOCKED, the
entry STOCKED at its version, LAPSE(WITHDRAWN) handed over, and the transfer closes. One that a taker transfer targets: the
saved state is EMPTY without a target, LAPSE(WITHDRAWN) goes to the counterpart, the transfer closes with NEED_FAILED(POCKET). A
read in flight there ends READ_FAIL: the reader is free, and the pocket asks for no read. That this outcome finds the pocket in
FAULT already, its verified flag kept, is the model's reading (log entry 23). -/
def Obligations.ModuleFallsSilent : Prop :=
  (∀ (a : Nat) (s : State), s.running = true → a < 6 → s.pkc.modules.length = 6 → s.pkc.pockets.length = 48 →
    (s.pkc.modules.getD a Module.none).state = .active → s.rds.sweep = .idle →
    (∃ r, s.rds.inFlight = some r ∧ r.pocket / 8 ≠ a) → (∀ p ∈ s.rds.queue, p / 8 ≠ a) →
    s.cue.waiting = [] → s.slk.stage = none →
    (∀ g ∈ s.cue.givers, ∀ p, g.pocket = some p → p / 8 ≠ a) →
    (∀ k ∈ s.cue.takers, k.targeting = true → k.pocket / 8 ≠ a) →
    ∃ t : State, exec (.moduleSilent a) s = .next t ∧
      t.pkc.modules = s.pkc.modules.set a { s.pkc.modules.getD a Module.none with state := .silent } ∧
      (∀ p, p / 8 ≠ a → t.pocket p = s.pocket p) ∧
      (∀ p, p / 8 = a → (s.pocket p).state ≠ .absent → (s.pocket p).state ≠ .fault →
        (t.pocket p).state = .fault ∧ (t.pocket p).saved = some (s.pocket p).state ∧
        { t.pocket p with state := (s.pocket p).state, saved := (s.pocket p).saved,
                          indicator := (s.pocket p).indicator } = s.pocket p) ∧
      (∀ p, p / 8 = a → ((s.pocket p).state = .absent ∨ (s.pocket p).state = .fault) → t.pocket p = s.pocket p) ∧
      t.trg = s.trg ∧ t.rds = s.rds ∧ t.pru = s.pru ∧ t.cue = s.cue ∧ t.hli = s.hli ∧ t.slk = s.slk ∧
      t.cck = s.cck ∧ t.stc = s.stc) ∧
  (∀ (a : Nat) (q : PocketNo) (s : State), s.running = true → s.Bounded → a < 6 → q / 8 = a →
     (s.pkc.modules.getD a Module.none).state = .active → s.rds.sweep = .idle → (∀ p ∈ s.rds.queue, p / 8 ≠ a) →
     s.cue.waiting = [] → s.slk.stage = none → s.present q = true → (s.pocket q).state ≠ .fault →
     ((∃ r, s.rds.inFlight = some r ∧ r.pocket / 8 ≠ a) → s.hli.urgent.length < 8 → s.stc.node ≠ .idConflict →
       (∀ g e, s.cue.givers = [g] → s.cue.takers = [] → g.pocket = some q → s.entry? g.tool = some e →
         ((g.state = .offered ∧ e.custody = .reserved) ∨ (g.state = .releasing ∧ e.custody = .releasing)) →
         ∃ t : State, exec (.moduleSilent a) s = .next t ∧ (t.pocket q).state = .fault ∧
           (t.pocket q).saved = some .stocked ∧ (t.pocket q).contents = (s.pocket q).contents ∧
           (t.pocket q).hold = (s.pocket q).hold ∧ (t.pocket q).mark = (s.pocket q).mark ∧
           t.entry? g.tool = some { e with custody := .stocked } ∧ (∀ v, v ≠ g.tool → t.entry? v = s.entry? v) ∧
           t.cue.givers = [] ∧ t.cue.lapsed.getLast? = some (g.seeker, g.seek) ∧
           t.hli = { s.hli with urgent := s.hli.urgent ++
             [⟨.lapse g.seeker g.seek .withdrawn, .giver g.seeker g.seek⟩] } ∧
           t.rds = s.rds ∧ t.pru = s.pru ∧ t.slk = s.slk ∧ t.cck = s.cck ∧ t.stc = s.stc) ∧
       (∀ k o, s.cue.givers = [] → s.cue.takers = [k] → k.state ≠ .seeking → k.current = some o → k.pocket = q →
         ∃ t : State, exec (.moduleSilent a) s = .next t ∧ (t.pocket q).state = .fault ∧
           (t.pocket q).saved = some .empty ∧ (t.pocket q).target = none ∧ t.cue = { s.cue with takers := [] } ∧
           t.hli = { s.hli with urgent := s.hli.urgent ++ [⟨.lapse o.station k.seek .withdrawn, .taker k.seek⟩] } ∧
           (s.masked .needFailed = false → s.slk.notices.length < 16 →
             t.slk.notices = s.slk.notices ++ [⟨.needFailed, some q, none, some k.seek, some .pocket, []⟩]) ∧
           t.trg = s.trg ∧ t.rds = s.rds ∧ t.pru = s.pru ∧ t.cck = s.cck ∧ t.stc = s.stc)) ∧
     (∀ r, s.rds.inFlight = some r → r.pocket = q → s.rds.queue = [] → s.rds.awaiting = false → s.trg.checks = [] →
       s.cue.givers = [] → s.cue.takers = [] →
       ∃ t : State, exec (.moduleSilent a) s = .next t ∧ t.rds = { s.rds with inFlight := none } ∧
         (t.pocket q).state = .fault ∧ (t.pocket q).saved = some (s.pocket q).state ∧
         (t.pocket q).readRequested = false ∧ (t.pocket q).verified = (s.pocket q).verified ∧
         (t.pocket q).contents = (s.pocket q).contents ∧ (t.pocket q).check = (s.pocket q).check ∧
         t.trg = s.trg ∧ t.cue = s.cue ∧ t.pru = s.pru ∧ t.hli = s.hli ∧ t.slk = s.slk ∧ t.cck = s.cck ∧
         t.stc = s.stc))

/-- R28, R30: a SILENT module without door sensors that answers with its former report is ACTIVE again: each of its pockets
in FAULT returns to its saved state, unverified, its latch as that state calls for; no read is queued, and nothing else
changes but the indicators of its pockets, which are formed anew (R37).

R28, R32, R33: with door sensors each pocket of the module also takes the door state reported. One that stands open is OPEN,
its mark cleared; one that stayed closed is as it was; one that closes, after the opening of the interval or from before, is
taken as a closing, by the table of R33 for the saved state. That MODULE_RETURN brings the door reports is the model's reading
(log entry 26).

R28: a SILENT module that answers with another report is CHANGED, its pockets as they were. That the two events leave the state
as it was for a module that is not SILENT is the model's choice (log entry 3). -/
def Obligations.ModuleAnswers : Prop :=
  (∀ (a : Nat) (doors : List LineDoor) (s : State), s.running = true → a < 6 → s.pkc.modules.length = 6 →
     s.pkc.pockets.length = 48 → (s.pkc.modules.getD a Module.none).state = .silent →
     (s.pkc.modules.getD a Module.none).door = false → s.readerBusy →
     ∃ t : State, exec (.moduleReturn a doors) s = .next t ∧
       t.pkc.modules = s.pkc.modules.set a { s.pkc.modules.getD a Module.none with state := .active } ∧
       (∀ p, p / 8 ≠ a → t.pocket p = s.pocket p) ∧
       (∀ p x, p / 8 = a → (s.pocket p).state = .fault → (s.pocket p).saved = some x →
         (t.pocket p).state = x ∧ (t.pocket p).saved = none ∧ (t.pocket p).verified = false ∧
         (t.pocket p).contents = (s.pocket p).contents ∧ (t.pocket p).hold = (s.pocket p).hold ∧
         (t.pocket p).mark = (s.pocket p).mark ∧ (t.pocket p).timer = (s.pocket p).timer ∧
         ((x = .empty ∨ x = .reserved) → (t.pocket p).latch = .locked) ∧
         ((x = .openForStock ∨ x = .awaiting ∨ x = .wrongTool ∨ x = .releasing) → (t.pocket p).latch = .opened) ∧
         (x = .stocked → (t.pocket p).latch = if (s.pocket p).openRelease then .opened else .locked) ∧
         { t.pocket p with state := .fault, saved := some x, verified := (s.pocket p).verified,
                           latch := (s.pocket p).latch, indicator := (s.pocket p).indicator } = s.pocket p) ∧
       (∀ p, p / 8 = a → ((s.pocket p).state ≠ .fault ∨ (s.pocket p).saved = none) →
         { t.pocket p with indicator := (s.pocket p).indicator } = s.pocket p) ∧
       t = { s with pkc := { s.pkc with modules := t.pkc.modules, pockets := t.pkc.pockets } }) ∧
  (∀ (a : Nat) (doors : List LineDoor) (s : State), s.running = true → a < 6 → s.pkc.modules.length = 6 →
     s.pkc.pockets.length = 48 → (s.pkc.modules.getD a Module.none).state = .silent →
     (s.pkc.modules.getD a Module.none).door = true → s.rds.sweep = .idle →
     (∃ r, s.rds.inFlight = some r ∧ r.pocket / 8 ≠ a) →
     ∃ t : State, exec (.moduleReturn a doors) s = .next t ∧
       t.pkc.modules = s.pkc.modules.set a { s.pkc.modules.getD a Module.none with state := .active } ∧
       (∀ p, p / 8 ≠ a → t.pocket p = s.pocket p) ∧
       (∀ p x d, p / 8 = a → (s.pocket p).state = .fault → (s.pocket p).saved = some x → x ≠ .absent →
         d = doors.getD (p % 8) ⟨false, false⟩ →
         (t.pocket p).verified = false ∧ (t.pocket p).contents = (s.pocket p).contents ∧
         (t.pocket p).hold = (s.pocket p).hold ∧
         (d.isOpen = true → (t.pocket p).door = .opened ∧ (t.pocket p).state = x ∧ (t.pocket p).mark = none ∧
           (t.pocket p).timerRunning = false ∧ (t.pocket p).readRequested = false) ∧
         (d.isOpen = false → (t.pocket p).door = .closed) ∧
         (d.isOpen = false → d.opened = false → (s.pocket p).door = .closed →
           (t.pocket p).state = x ∧ (t.pocket p).mark = (s.pocket p).mark) ∧
         (d.isOpen = false → (d.opened = true ∨ (s.pocket p).door = .opened) →
           ((x = .empty ∨ x = .openForStock) → (t.pocket p).state = .checking ∧ (t.pocket p).check = some .insert ∧
             (t.pocket p).readRequested = true ∧ p ∈ t.rds.queue) ∧
           (x = .stocked → (t.pocket p).state = .checking ∧
             (t.pocket p).check = some (if (s.pocket p).openRelease then .remove else .recheck) ∧
             (t.pocket p).readRequested = true ∧ p ∈ t.rds.queue))) ∧
       t.trg = s.trg ∧ t.pru = s.pru ∧ t.hli = s.hli ∧ t.cck = s.cck ∧ t.stc = s.stc) ∧
  (∀ (a : Nat) (s : State),
     (s.running = true → (s.pkc.modules.getD a Module.none).state = .silent → s.readerBusy →
       exec (.moduleChanged a) s = .next { s with pkc := { s.pkc with
         modules := s.pkc.modules.set a { s.pkc.modules.getD a Module.none with state := .changed } } }) ∧
     ((s.pkc.modules.getD a Module.none).state ≠ .silent →
       exec (.moduleChanged a) s = .next s ∧ ∀ doors, exec (.moduleReturn a doors) s = .next s))

/-- R31: a lock fault of a present pocket that no transfer, adoption, read or stage concerns takes it to FAULT with its state
saved; the position its saved state calls for is commanded again. The commanded position reached brings a pocket in FAULT back
to its saved state, unverified. Other pockets and every other part of the node stay as they are.

R27, R31, R132: the lock fault of a RELEASING pocket: its giver transfer is withdrawn with LAPSE(WITHDRAWN) and closes, the entry
is STOCKED at its version, the saved state STOCKED, and the latch is commanded LOCKED. R30: the position each state calls for. -/
def Obligations.LatchFaultsAndReturns : Prop :=
  (∀ (p : PocketNo) (s : State), s.running = true → s.present p = true → s.moduleActive p = true → s.hasLock p = true →
    s.readerElsewhere p →
    ((s.pocket p).state ≠ .fault → p ∉ s.rds.queue → s.cue.waiting = [] → s.slk.stage = none →
      (∀ g ∈ s.cue.givers, g.pocket ≠ some p) → (∀ k ∈ s.cue.takers, k.targeting = true → k.pocket ≠ p) →
      exec (.lockFault p) s = .next
        (modPocket p (fun k => { k with saved := some k.state, state := .fault, latch := k.calledLatch }) s)) ∧
    (∀ g e, (s.pocket p).state = .releasing → (s.pocket p).openRelease = false → p ∉ s.rds.queue → s.cue.waiting = [] →
      s.slk.stage = none → (∀ k ∈ s.cue.takers, k.targeting = true → k.pocket ≠ p) → s.Bounded →
      s.cue.givers.find? (fun x => decide (x.pocket = some p)) = some g → s.giverOf? g.tool = some g →
      g.state = .releasing → s.entry? g.tool = some e → e.custody = .releasing → s.hli.urgent.length < 8 →
      s.stc.node ≠ .idConflict →
      ∃ t : State, exec (.lockFault p) s = .next t ∧
        (t.pocket p).state = .fault ∧ (t.pocket p).saved = some .stocked ∧ (t.pocket p).latch = .locked ∧
        (t.pocket p).contents = (s.pocket p).contents ∧ (∀ q, q ≠ p → t.pocket q = s.pocket q) ∧
        t.entry? g.tool = some { e with custody := .stocked } ∧ (∀ v, v ≠ g.tool → t.entry? v = s.entry? v) ∧
        t.giver? g.seeker g.seek = none ∧ t.cue.lapsed.getLast? = some (g.seeker, g.seek) ∧
        t.hli = { s.hli with urgent := s.hli.urgent ++ [⟨.lapse g.seeker g.seek .withdrawn, .giver g.seeker g.seek⟩] } ∧
        t.cue.takers = s.cue.takers ∧ t.rds = s.rds ∧ t.pru = s.pru ∧ t.slk = s.slk ∧ t.cck = s.cck ∧ t.stc = s.stc) ∧
    (∀ x, (s.pocket p).state = .fault → (s.pocket p).saved = some x →
      ∃ t : State, exec (.latchPositionReached p) s = .next t ∧ (t.pocket p).state = x ∧ (t.pocket p).saved = none ∧
        (t.pocket p).verified = false ∧ (∀ q, q ≠ p → t.pocket q = s.pocket q) ∧
        t = { s with pkc := { s.pkc with pockets := t.pkc.pockets } })) ∧
  (∀ k : Pocket,
    ((k.state = .openForStock ∨ k.state = .awaiting ∨ k.state = .wrongTool ∨ k.state = .releasing) → k.calledLatch = .opened) ∧
    ((k.state = .empty ∨ k.state = .reserved) → k.calledLatch = .locked) ∧
    (k.state = .stocked → k.calledLatch = if k.openRelease then .opened else .locked) ∧
    (k.state = .checking → k.calledLatch = k.latch) ∧
    (∀ x, k.state = .fault → k.saved = some x → k.relatched = { k with latch := { k with state := x }.calledLatch }) ∧
    (k.state ≠ .fault → k.relatched = k))

/-- R32, R51, R160, R164: a door opening, whatever the pocket's state: the door stands OPEN, the verified flag, the LOADED mark
and read requested are clear, the pocket timer stops, a queued read of the pocket is gone, a stage on it is disturbed; the
state, the contents and the latch stay. A cleared mark queues RECORD_CHANGED unless it is masked.

R33: a door closing taken with the door OPEN, by the pocket's state: EMPTY, OPEN_FOR_STOCK and STOCKED become CHECKING with
the check of the table, the other states are kept; in every state but FAULT a read of the pocket is asked for. The latch,
the contents and the verified flag stay, and so does everything else.

R45, R63: an opening suspends an ACTIVE sweep: the queued read of the cursor pocket leaves the queue, or stays for another
requester alone, and awaiting is cleared; a read in flight goes on. R60, R63: the closing of the last open door resumes it: the
cursor pocket, by its state, has its read queued and awaited, is recorded SKIPPED or ABSENT and passed, or, when CHECKING, is
SKIPPED with a read asked for. -/
def Obligations.DoorsAct : Prop :=
  (∀ (p : PocketNo) (s : State), s.doorEvents p = true → s.readerElsewhere p → s.pkc.pockets.length = 48 →
     ∃ t : State, exec (.doorOpening p) s = .next t ∧
       (t.pocket p).door = .opened ∧ (t.pocket p).verified = false ∧ (t.pocket p).mark = none ∧
       (t.pocket p).readRequested = false ∧ (t.pocket p).timerRunning = false ∧
       (t.pocket p).state = (s.pocket p).state ∧ (t.pocket p).contents = (s.pocket p).contents ∧
       (t.pocket p).latch = (s.pocket p).latch ∧ (t.pocket p).timer = (s.pocket p).timer ∧
       (∀ q, q ≠ p → t.pocket q = s.pocket q) ∧
       t.rds = { s.rds with queue := s.rds.queue.filter (· != p),
                            awaiting := s.rds.awaiting && !decide (s.rds.cursor = p) } ∧
       (∀ g, s.slk.stage = some g → g.pocket = p → t.slk.stage = some { g with disturbed := true }) ∧
       (∀ g, s.slk.stage = some g → g.pocket ≠ p → t.slk.stage = some g) ∧
       (s.masked .recordChanged = false → s.slk.notices.length < 16 → (s.pocket p).mark.isSome = true →
         t.slk.notices = s.slk.notices ++ [⟨.recordChanged, some p, (s.pocket p).contents, none, none, []⟩]) ∧
       ((s.pocket p).mark = none → t.slk.notices = s.slk.notices) ∧
       t.cue = { s.cue with waiting := s.cue.waiting.filter (fun w => !w.isAt (.pocket p)) } ∧
       t.trg = s.trg ∧ t.pru = s.pru ∧ t.hli = s.hli ∧ t.cck = s.cck ∧ t.stc = s.stc) ∧
  (∀ (p : PocketNo) (s : State), s.doorEvents p = true → (s.pocket p).door = .opened → s.readerElsewhere p →
     s.pkc.pockets.length = 48 →
     ∃ t : State, exec (.doorClosing p) s = .next t ∧
       (t.pocket p).door = .closed ∧ (t.pocket p).latch = (s.pocket p).latch ∧
       (t.pocket p).contents = (s.pocket p).contents ∧ (t.pocket p).verified = (s.pocket p).verified ∧
       (((s.pocket p).state = .empty ∨ (s.pocket p).state = .openForStock) →
         (t.pocket p).state = .checking ∧ (t.pocket p).check = some .insert) ∧
       ((s.pocket p).state = .stocked →
         (t.pocket p).state = .checking ∧
         (t.pocket p).check = some (if (s.pocket p).openRelease then .remove else .recheck)) ∧
       ((s.pocket p).state ≠ .empty → (s.pocket p).state ≠ .openForStock → (s.pocket p).state ≠ .stocked →
         (t.pocket p).state = (s.pocket p).state ∧ (t.pocket p).check = (s.pocket p).check) ∧
       ((s.pocket p).state ≠ .fault → (t.pocket p).readRequested = true) ∧
       ((s.pocket p).state ≠ .fault → (s.pocket p).readRequested = false → p ∈ t.rds.queue) ∧
       ((s.pocket p).state = .fault → t.rds = s.rds) ∧
       (∀ q, q ≠ p → t.pocket q = s.pocket q) ∧
       t = { s with pkc := { s.pkc with pockets := t.pkc.pockets }, rds := { s.rds with queue := t.rds.queue } }) ∧
  (∀ (p c : PocketNo) (s : State), s.doorEvents p = true → s.Bounded → s.rds.cursor = c → c < 48 → c ≠ p →
     ((∃ r, s.rds.inFlight = some r ∧ r.pocket ≠ p) → s.rds.sweep = .active → s.rds.awaiting = true →
       ∃ t : State, exec (.doorOpening p) s = .next t ∧
         (c ∈ s.rds.queue → (s.pocket c).readRequested = false → (∀ x ∈ s.trg.checks, x.pocket ≠ c) →
           t.rds = { s.rds with sweep := .suspended, awaiting := false,
                                queue := s.rds.queue.filter (fun q => q != p && q != c) }) ∧
         (c ∈ s.rds.queue → ((s.pocket c).readRequested = true ∨ ∃ x ∈ s.trg.checks, x.pocket = c) →
           t.rds = { s.rds with sweep := .suspended, awaiting := false, queue := s.rds.queue.filter (· != p) }) ∧
         (c ∉ s.rds.queue → t.rds = { s.rds with sweep := .suspended, queue := s.rds.queue.filter (· != p) })) ∧
     ((∃ r, s.rds.inFlight = some r ∧ r.pocket ≠ p ∧ r.pocket ≠ c) → s.rds.sweep = .suspended → s.rds.awaiting = false →
       (s.pocket p).door = .opened → c ∉ s.rds.queue →
       (∀ q, q < 48 → q ≠ p → s.present q = true → s.moduleActive q = true → (s.pocket q).door = .closed) →
       ∃ t : State, exec (.doorClosing p) s = .next t ∧
         ((s.pocket c).readRequested = false →
           ((s.pocket c).state = .empty ∨ ((s.pocket c).state = .stocked ∧ (s.pocket c).openRelease = false) ∨
             (s.pocket c).state = .reserved ∨ (s.pocket c).state = .fault) →
           t.rds.sweep = .active ∧ t.rds.cursor = c ∧ t.rds.awaiting = true ∧ c ∈ t.rds.queue ∧
             t.rds.table = s.rds.table ∧ t.pocket c = s.pocket c) ∧
         (s.present c = true →
           ((s.pocket c).readRequested = true ∨ (s.pocket c).state = .openForStock ∨ (s.pocket c).state = .awaiting ∨
             (s.pocket c).state = .wrongTool ∨ (s.pocket c).state = .releasing ∨ (s.pocket c).state = .checking ∨
             ((s.pocket c).state = .stocked ∧ (s.pocket c).openRelease = true)) →
           t.rds.table[c]? = some .skipped ∧ (t.rds.sweep = .active → c < t.rds.cursor) ∧
           ((s.pocket c).state = .checking → (s.pocket c).readRequested = false →
             (t.pocket c).readRequested = true ∧ c ∈ t.rds.queue)) ∧
         ((s.pocket c).state = .absent →
           t.rds.table[c]? = some .absent ∧ (t.rds.sweep = .active → c < t.rds.cursor))))

/-- R39: a press reported for a present pocket of an ACTIVE module that is not in FAULT is pending; one for another pocket has
no effect. The press the scanner serves next is the first one pending from the pocket after the last one served, and it
serves none while none is pending.

R39, R40, R41: the scanner's check of the next pending press, pocket p. No longer latched: the mark is dropped, nothing else.
Latched: the press is consumed, p is the last pocket served, and by the pocket: an EMPTY one opens for stock; a STOCKED
one with a READY tool, a RESERVED one, and any held one with the key off are left as they are; a CHECKING one without a
read requested has one requested.

R41, R42, R34: a press, or the key with it, that asks for a release as AWAY: the departure granted, the pocket is STOCKED with
an open release of 120 s and latch OPEN; at the outside limit nothing but the notice LIMIT follows.

R39, R27: a check that gets no answer drops the mark, and the module falls SILENT.

The model's choices: a dropped press leaves the last pocket served as it was (log entry 21), PRESS_SERVED with no press pending
leaves the state as it was (log entry 3), and on a module without door sensors the timer that an unlatch starts runs on (log
entry 11). -/
def Obligations.PressesAreServed : Prop :=
  (∀ (p : PocketNo) (s : State),
     (s.running = true → s.present p = true → s.moduleActive p = true → (s.pocket p).state ≠ .fault →
       exec (.pressReported p) s = .next (modPocket p (fun k => { k with press := true }) s)) ∧
     ((s.present p = false ∨ (s.pocket p).state = .fault) → exec (.pressReported p) s = .next s) ∧
     (s.pkc.walk = none → s.nextPress = some p →
       (s.pocket p).press = true ∧ p < 48 ∧
       ∀ i, i < (p + 48 - (s.pkc.lastServed + 1) % 48) % 48 → (s.pocket ((s.pkc.lastServed + 1 + i) % 48)).press = false) ∧
     (s.nextPress = none → ∀ a key, exec (.pressServed a key) s = .next s)) ∧
  (∀ (p : PocketNo) (key : Bool) (s : State), s.running = true → s.nextPress = some p → s.pkc.pockets.length = 48 →
     s.readerElsewhere p →
     (∃ t : State, exec (.pressServed .notLatched key) s = .next t ∧
       { t.pocket p with press := true, indicator := (s.pocket p).indicator } = s.pocket p ∧ (t.pocket p).press = false ∧
       (∀ q, q ≠ p → t.pocket q = s.pocket q) ∧ t.pkc.lastServed = s.pkc.lastServed ∧
       t = { s with pkc := { s.pkc with pockets := t.pkc.pockets, walk := t.pkc.walk } } ∧
       exec (.pressServed .noAnswer key) s = exec (.moduleSilent (p / 8)) t) ∧
     (∃ t : State, exec (.pressServed .latched key) s = .next t ∧ t.pkc.lastServed = p ∧ (t.pocket p).press = false ∧
       (∀ q, q ≠ p → t.pocket q = s.pocket q) ∧ t.trg = s.trg ∧ t.pru = s.pru ∧ t.hli = s.hli ∧ t.cck = s.cck ∧
       t.stc = s.stc ∧
       ((s.pocket p).state = .empty → ((s.pocket p).hold = false ∨ key = true) → (s.pocket p).latch = .locked →
         (t.pocket p).state = .openForStock ∧ (t.pocket p).latch = .opened ∧ (t.pocket p).timer = some 120 ∧
         (t.pocket p).timerRunning = true ∧
         (t.pocket p).verified = (if s.hasDoor p then (s.pocket p).verified else false)) ∧
       (((s.pocket p).hold = true ∧ key = false) ∨ (s.pocket p).state = .reserved ∨
         ((s.pocket p).state = .stocked ∧ (s.pocket p).openRelease = false ∧ key = false ∧
           ∃ u e, (s.pocket p).contents = some u ∧ s.entry? u = some e ∧ e.condition = .ready) →
         { t.pocket p with press := true, indicator := (s.pocket p).indicator } = s.pocket p ∧ t.rds = s.rds ∧
         t.slk = s.slk ∧ t.cue = s.cue) ∧
       ((s.pocket p).state = .checking → (s.pocket p).readRequested = false →
         ((s.pocket p).hold = false ∨ key = true) →
         (t.pocket p).state = .checking ∧ (t.pocket p).readRequested = true ∧ p ∈ t.rds.queue))) ∧
  (∀ (p : PocketNo) (key : Bool) (u : ToolId) (e : Entry) (s : State), s.running = true → s.nextPress = some p →
     s.pkc.pockets.length = 48 → s.readerElsewhere p →
     (s.pocket p).state = .stocked → (s.pocket p).openRelease = false → (s.pocket p).latch = .locked →
     (s.pocket p).contents = some u → s.entry? u = some e → e.tool = u →
     (key = true ∨ ((s.pocket p).hold = false ∧ s.isCrib p = true ∧ e.condition ≠ .ready)) →
     ∃ t : State, exec (.pressServed .latched key) s = .next t ∧
       (s.departureRoom = true →
         (t.pocket p).state = .stocked ∧ (t.pocket p).openRelease = true ∧ (t.pocket p).latch = .opened ∧
         (t.pocket p).timer = some 120 ∧ (t.pocket p).timerRunning = true ∧ (t.pocket p).contents = some u) ∧
       (s.departureRoom = false →
         { t.pocket p with press := true, indicator := (s.pocket p).indicator } = s.pocket p ∧
         (s.masked .limit = false → s.slk.notices.length < 16 →
           t.slk.notices = s.slk.notices ++ [⟨.limit, some p, some u, none, none, []⟩])) ∧
       (∀ q, q ≠ p → t.pocket q = s.pocket q) ∧ t.trg = s.trg ∧ t.pru = s.pru ∧ t.hli = s.hli ∧ t.cck = s.cck ∧
       t.stc = s.stc)

/-- R43: the expiry of a pocket timer with the door CLOSED ends OPEN_FOR_STOCK in EMPTY and an open release in STOCKED, the latch
LOCKED and the verified flag as it was; on a module without door sensors it stands for the closing, CHECKING with INSERT
or REMOVE and a read requested. That POCKET_TIMER_EXPIRY of a timer not due leaves the state as it was is the model's choice
(log entry 3). -/
def Obligations.PocketTimerExpires : Prop :=
  ∀ (p : PocketNo) (s : State), s.pkc.pockets.length = 48 →
    ((s.pocket p).timerDue = false → exec (.pocketTimerExpiry p) s = .next s) ∧
    (s.running = true → (s.pocket p).timerDue = true → s.readerElsewhere p →
      ∃ t : State, exec (.pocketTimerExpiry p) s = .next t ∧ (t.pocket p).verified = (s.pocket p).verified ∧
        (s.hasDoor p = true → (s.pocket p).door = .closed →
          t.rds = s.rds ∧ (t.pocket p).latch = .locked ∧ (t.pocket p).timer = none ∧
          ((s.pocket p).state = .openForStock → (t.pocket p).state = .empty) ∧
          ((s.pocket p).state = .stocked → (t.pocket p).state = .stocked ∧ (t.pocket p).openRelease = false ∧
            (t.pocket p).contents = (s.pocket p).contents)) ∧
        (s.hasDoor p = false →
          (t.pocket p).state = .checking ∧ (t.pocket p).readRequested = true ∧ p ∈ t.rds.queue ∧
          (t.pocket p).latch = (s.pocket p).latch ∧
          ((s.pocket p).state = .openForStock → (t.pocket p).check = some .insert) ∧
          ((s.pocket p).state = .stocked → (t.pocket p).check = some .remove)) ∧
        (∀ q, q ≠ p → t.pocket q = s.pocket q) ∧
        t = { s with pkc := { s.pkc with pockets := t.pkc.pockets }, rds := { s.rds with queue := t.rds.queue } })

/-! ### Read attempts, arrivals, the sweep -/

/-- R50: a FAIL attempt, or a tag that reports tool ID 0 or all-ones, that is the first or second of its read counts, and the
read makes another attempt; nothing else changes. That READ_ATTEMPT_END with no read in flight leaves the state as it was is the
model's choice (log entry 3).

R52, R53: the read that a CHECKING pocket with check INSERT asked for, the queue otherwise empty and no sweep or presence check
with it. NO_TAG leaves the pocket EMPTY, latched and verified; a third FAIL leaves it CHECKING, unverified, with no read
requested; nothing else changes but that the reader is free.

R148, R23: with a vacated mark on the pocket. NO_TAG leaves it EMPTY and verified, the mark dropped. The marked tool's own tag,
the first time: its entry, in its new place, becomes QUARANTINE/DUPLICATE with the conflict flag, its version advanced by one
and a RECORD queued; later: the entry stays. Either way the pocket stays CHECKING, unverified, with no read requested, the mark
kept. That R2 does not act on a tag of another kind read there is the model's reading (log entry 15), as is the mark kept when
no entry of the tool is here any more (log entry 24). -/
def Obligations.InsertReadEnds : Prop :=
  (∀ (a : AttemptResult) (s : State),
     (s.rds.inFlight = none → exec (.readAttemptEnd a) s = .next s) ∧
     (∀ r, s.running = true → s.rds.inFlight = some r → r.fails < 2 →
       (a = .fail ∨ ∃ u k, a = .tag u k ∧ toolIdValid u = false) →
       exec (.readAttemptEnd a) s =
         .next { s with rds := { s.rds with inFlight := some { r with fails := r.fails + 1 } } })) ∧
  (∀ (r : Read) (s : State), s.running = true → s.rds.inFlight = some r → s.rds.queue = [] → s.rds.sweep = .idle →
     s.rds.awaiting = false → s.trg.checks = [] → s.pkc.pockets.length = 48 →
     (s.pocket r.pocket).state = .checking → (s.pocket r.pocket).check = some .insert →
     (s.pocket r.pocket).readRequested = true → (s.pocket r.pocket).vacated = none →
     (∃ t : State, exec (.readAttemptEnd .noTag) s = .next t ∧
       (t.pocket r.pocket).state = .empty ∧ (t.pocket r.pocket).latch = .locked ∧
       (t.pocket r.pocket).verified = true ∧ (t.pocket r.pocket).contents = none ∧
       (t.pocket r.pocket).readRequested = false ∧ (t.pocket r.pocket).mark = (s.pocket r.pocket).mark ∧
       (t.pocket r.pocket).hold = (s.pocket r.pocket).hold ∧
       (∀ q, q ≠ r.pocket → t.pocket q = s.pocket q) ∧
       t = { s with pkc := { s.pkc with pockets := t.pkc.pockets }, rds := { s.rds with inFlight := none } }) ∧
     (r.fails = 2 → ∃ t : State, exec (.readAttemptEnd .fail) s = .next t ∧
       (t.pocket r.pocket).state = .checking ∧ (t.pocket r.pocket).check = some .insert ∧
       (t.pocket r.pocket).latch = (s.pocket r.pocket).latch ∧ (t.pocket r.pocket).verified = false ∧
       (t.pocket r.pocket).readRequested = false ∧
       (∀ q, q ≠ r.pocket → t.pocket q = s.pocket q) ∧
       t = { s with pkc := { s.pkc with pockets := t.pkc.pockets }, rds := { s.rds with inFlight := none } })) ∧
  (∀ (r : Read) (v : Vacated) (kind : Nat) (s : State), s.SoleRead r → (s.pocket r.pocket).state = .checking →
     (s.pocket r.pocket).check = some .insert → (s.pocket r.pocket).contents = none →
     (s.pocket r.pocket).readRequested = true → (s.pocket r.pocket).vacated = some v →
     (∃ t : State, exec (.readAttemptEnd .noTag) s = .next t ∧
       (t.pocket r.pocket).state = .empty ∧ (t.pocket r.pocket).latch = .locked ∧
       (t.pocket r.pocket).verified = true ∧ (t.pocket r.pocket).vacated = none ∧
       (∀ q, q ≠ r.pocket → t.pocket q = s.pocket q) ∧
       t = { s with pkc := { s.pkc with pockets := t.pkc.pockets }, rds := { s.rds with inFlight := none } }) ∧
     (v.found = true → toolIdValid v.tool = true →
       ∃ t : State, exec (.readAttemptEnd (.tag v.tool kind)) s = .next t ∧
         (t.pocket r.pocket).state = .checking ∧ (t.pocket r.pocket).check = some .insert ∧
         (t.pocket r.pocket).vacated = some v ∧ (t.pocket r.pocket).verified = false ∧
         (t.pocket r.pocket).readRequested = false ∧ (t.pocket r.pocket).latch = (s.pocket r.pocket).latch ∧
         (∀ q, q ≠ r.pocket → t.pocket q = s.pocket q) ∧
         t = { s with pkc := { s.pkc with pockets := t.pkc.pockets }, rds := { s.rds with inFlight := none } }) ∧
     (∀ e, v.found = false → toolIdValid v.tool = true → s.entry? v.tool = some e → e.custody ≠ .foreign →
       e.pocket ≠ some r.pocket → e.condition ≠ .quarantine .duplicate → s.giverOf? v.tool = none →
       s.adoptionOpen v.tool = false →
       ∃ (t : State) (e' : Entry), exec (.readAttemptEnd (.tag v.tool kind)) s = .next t ∧ t.entry? v.tool = some e' ∧
         e' = { e with condition := .quarantine .duplicate, conflict := true, version := e.version + 1 } ∧
         (∀ u, u ≠ v.tool → t.entry? u = s.entry? u) ∧
         (t.pocket r.pocket).state = .checking ∧ (t.pocket r.pocket).check = some .insert ∧
         (t.pocket r.pocket).vacated = some { v with found := true } ∧ (t.pocket r.pocket).verified = false ∧
         (t.pocket r.pocket).readRequested = false ∧ (t.pocket r.pocket).latch = (s.pocket r.pocket).latch ∧
         v.tool ∉ t.pru.queue ∧ t.rds = { s.rds with inFlight := none } ∧
         (s.stc.node ≠ .idConflict → t.hli = { s.hli with routine := placeRecord e'.record s.hli.routine }) ∧
         t.cue = s.cue ∧ t.cck = s.cck ∧ t.stc = s.stc))

/-- R54: a tag read at a pocket with check INSERT whose tool this node holds AWAY or LOST: the tool is STOCKED in the pocket,
the pocket STOCKED with it, latched and verified; the version advances by one and one RECORD of the entry is queued; the
condition, the preset and the life stay.

R56: the read of a target pocket, AWAITING or WRONG_TOOL. The tag of another tool than the expected one makes it WRONG_TOOL with
TOOL_REFUSED, the tool's entry as it was; NO_TAG makes it AWAITING; after the third FAIL it stays as it was, verified flag
included.

R54: the same of a tool in TRANSIT, whose giver transfer closes with LAPSE(WITHDRAWN); of a tool on the gauge, whose burst is
aborted and whose time there ends; of a tool STOCKED in another pocket, which is then CHECKING with check INSERT, latched and
unverified, its read under way, or in FAULT has the saved state EMPTY.

R121, R55, R44: the tag of the expected tool, read in the target or in another magazine pocket without a lock with check INSERT.
The former target is then EMPTY again, latched; in WRONG_TOOL it is CHECKING with check INSERT, latched, its read under way. Of
the offer's record and a cached entry the newer one gives the values, within this node's limits; the entry is STOCKED here at
that version plus one, without a heard rank; the pocket STOCKED, latched and verified; RECEIVED handed to the giver, a RECORD
and TOOL_READY queued, and the transfer closed. That a clamped life keeps its seconds remainder is the model's reading (log
entry 17). -/
def Obligations.ReturnIsStocked : Prop :=
  (∀ (r : Read) (u : ToolId) (e : Entry) (s : State), s.running = true → s.stc.node ≠ .idConflict → s.Bounded →
    s.rds.inFlight = some r → s.rds.queue = [] → s.rds.sweep = .idle → s.rds.awaiting = false → s.trg.checks = [] →
    (s.pocket r.pocket).state = .checking → (s.pocket r.pocket).check = some .insert →
    (s.pocket r.pocket).readRequested = true → (s.pocket r.pocket).vacated = none →
    toolIdValid u = true → s.entry? u = some e → (e.custody = .away ∨ e.custody = .lost) → e.pocket = none → e.heard = none →
    e.condition = .ready → s.pru.queue.contains u = false → s.windowOpen u = false → s.takerFor? r.pocket u = none →
    ∃ t : State, exec (.readAttemptEnd (.tag u e.kind)) s = .next t ∧
      t.entry? u = some { e with custody := .stocked, pocket := some r.pocket, destination := none, awayTimer := none,
                                 version := e.version + 1 } ∧
      (∀ v, v ≠ u → t.entry? v = s.entry? v) ∧
      (t.pocket r.pocket).state = .stocked ∧ (t.pocket r.pocket).contents = some u ∧
      (t.pocket r.pocket).latch = .locked ∧ (t.pocket r.pocket).verified = true ∧
      (∀ q, q ≠ r.pocket → t.pocket q = s.pocket q) ∧
      t.hli.routine = placeRecord { e.record with heard := .stocked, destination := none, version := e.version + 1 } s.hli.routine ∧
      t.rds.inFlight = none ∧ t.cue = s.cue ∧ t.pru = s.pru ∧ t.slk = s.slk ∧ t.cck = s.cck ∧ t.stc = s.stc) ∧
  (∀ (r : Read) (x : Taker) (o : Offer) (k : Pocket) (s : State), s.SoleRead r → s.pocket r.pocket = k →
     (k.state = .awaiting ∨ k.state = .wrongTool) → k.readRequested = true → k.contents = none →
     s.takerAt? r.pocket = some x → x.current = some o →
     (∀ u kind, toolIdValid u = true → u ≠ o.record.tool →
       ∃ t : State, exec (.readAttemptEnd (.tag u kind)) s = .next t ∧
         (t.pocket r.pocket).state = .wrongTool ∧ (t.pocket r.pocket).indicator = .flicker ∧
         (t.pocket r.pocket).latch = k.latch ∧ (t.pocket r.pocket).target = k.target ∧
         (t.pocket r.pocket).contents = none ∧ (∀ q, q ≠ r.pocket → t.pocket q = s.pocket q) ∧
         (s.masked .toolRefused = false → s.slk.notices.length < 16 → t.slk.notices = s.slk.notices ++
           [⟨.toolRefused, some r.pocket, some u, some x.seek, none, []⟩]) ∧
         t.rds = { s.rds with inFlight := none } ∧
         t.trg = s.trg ∧ t.cue = s.cue ∧ t.pru = s.pru ∧ t.hli = s.hli ∧ t.cck = s.cck ∧ t.stc = s.stc) ∧
     (∀ a, (a = .noTag ∨ (a = .fail ∧ r.fails = 2)) →
       ∃ t : State, exec (.readAttemptEnd a) s = .next t ∧
         (a = .noTag → (t.pocket r.pocket).state = .awaiting ∧ (t.pocket r.pocket).indicator = .blink) ∧
         (a = .fail → (t.pocket r.pocket).state = k.state ∧ (t.pocket r.pocket).verified = k.verified) ∧
         (t.pocket r.pocket).latch = k.latch ∧ (t.pocket r.pocket).target = k.target ∧
         (∀ q, q ≠ r.pocket → t.pocket q = s.pocket q) ∧
         t = { s with pkc := { s.pkc with pockets := t.pkc.pockets }, rds := { s.rds with inFlight := none } })) ∧
  (∀ (r : Read) (x : Taker) (o : Offer) (k : Pocket) (src : Record) (e' : Entry) (s : State), s.SoleRead r →
     s.pocket r.pocket = k → k.readRequested = true → k.contents = none → x.current = some o → x.state ≠ .seeking →
     (((k.state = .awaiting ∨ k.state = .wrongTool) ∧ x.pocket = r.pocket ∧ s.takerAt? r.pocket = some x) ∨
       (k.state = .checking ∧ k.check = some .insert ∧ k.vacated = none ∧ s.cue.takers = [x] ∧ x.pocket ≠ r.pocket ∧
         s.isMagazine r.pocket = true ∧ s.hasLock r.pocket = false)) →
     toolIdValid o.record.tool = true →
     ((s.entry? o.record.tool = none ∧ s.trg.entries.length < 256 ∧ src = o.record) ∨
       ∃ c, s.entry? o.record.tool = some c ∧ c.custody = .foreign ∧
         ((versionNewer o.record.version c.version = true ∧ src = o.record) ∨
           (versionNewer c.version o.record.version = true ∧ src = c.record))) →
     s.windowOpen o.record.tool = false → s.hli.urgent.length < 8 → s.stc.node ≠ .idConflict →
     s.masked .toolReady = false → s.slk.notices.length < 16 →
     e' = { tool := o.record.tool, kind := src.kind, version := src.version + 1, custodian := s.ownId,
            custody := .stocked, heard := none, destination := none, pocket := some r.pocket,
            condition := adjustCondition src.condition src.preset.isSome (min src.life (s.fullLife src.kind)),
            preset := src.preset, life := min src.life (s.fullLife src.kind), remainder := src.remainder,
            used := src.used, conflict := src.conflict, awayTimer := none } →
     ∃ t : State, exec (.readAttemptEnd (.tag o.record.tool src.kind)) s = .next t ∧
       t.entry? o.record.tool = some e' ∧ (∀ v, v ≠ o.record.tool → t.entry? v = s.entry? v) ∧
       o.record.tool ∉ t.trg.heard ∧
       (t.pocket r.pocket).state = .stocked ∧ (t.pocket r.pocket).contents = some o.record.tool ∧
       (t.pocket r.pocket).latch = .locked ∧ (t.pocket r.pocket).verified = true ∧ (t.pocket r.pocket).target = none ∧
       (x.pocket ≠ r.pocket → x.pocket < 48 → (s.pocket x.pocket).state = .awaiting →
         (s.pocket x.pocket).readRequested = false →
         (t.pocket x.pocket).state = .empty ∧ (t.pocket x.pocket).latch = .locked ∧ (t.pocket x.pocket).target = none) ∧
       (x.pocket ≠ r.pocket → (s.pocket x.pocket).state = .wrongTool →
         (t.pocket x.pocket).state = .checking ∧ (t.pocket x.pocket).check = some .insert ∧
         (t.pocket x.pocket).latch = .locked ∧ (t.pocket x.pocket).target = none ∧
         (t.pocket x.pocket).readRequested = true) ∧
       t.hli = { s.hli with
         urgent := s.hli.urgent ++ [⟨.received o.station x.seek o.record.tool e'.version, .taker x.seek⟩],
         routine := placeRecord e'.record s.hli.routine } ∧
       t.slk.notices = s.slk.notices ++
         [⟨.toolReady, some r.pocket, some o.record.tool, some x.seek, none, []⟩] ∧
       t.cue = { s.cue with takers := s.cue.takers.filter (fun y => y.seek != x.seek) } ∧
       t.rds = { s.rds with inFlight :=
         if x.pocket ≠ r.pocket ∧ (s.pocket x.pocket).state = .wrongTool then some ⟨x.pocket, 0⟩ else none } ∧
       t.cck = s.cck ∧ t.stc = s.stc) ∧
  (∀ (r : Read) (u : ToolId) (e e' : Entry) (s : State), s.SoleRead r → s.stc.node ≠ .idConflict →
     (s.pocket r.pocket).state = .checking → (s.pocket r.pocket).check = some .insert →
     (s.pocket r.pocket).readRequested = true → (s.pocket r.pocket).vacated = none → toolIdValid u = true →
     s.entry? u = some e → e.heard = none → e.condition = .ready → s.pru.queue.contains u = false →
     s.windowOpen u = false → s.cue.waiting = [] → s.takerFor? r.pocket u = none →
     e' = { e with custody := .stocked, pocket := some r.pocket, destination := none, awayTimer := none,
                   version := e.version + 1 } →
     (∀ g, e.custody = .transit → e.pocket = none → s.giverOf? u = some g → g.state = .transit →
       s.hli.urgent.length < 8 →
       ∃ t : State, exec (.readAttemptEnd (.tag u e.kind)) s = .next t ∧ t.entry? u = some e' ∧
         (∀ v, v ≠ u → t.entry? v = s.entry? v) ∧
         (t.pocket r.pocket).state = .stocked ∧ (t.pocket r.pocket).contents = some u ∧
         (t.pocket r.pocket).latch = .locked ∧ (t.pocket r.pocket).verified = true ∧
         (∀ q, q ≠ r.pocket → t.pocket q = s.pocket q) ∧
         t.hli = { s.hli with
           urgent := s.hli.urgent ++ [⟨.lapse g.seeker g.seek .withdrawn, .giver g.seeker g.seek⟩],
           routine := placeRecord e'.record s.hli.routine } ∧
         t.cue = { s.cue with
           givers := s.cue.givers.filter (fun x => !(x.seeker == g.seeker && x.seek == g.seek)),
           lapsed := addLapsed (g.seeker, g.seek) s.cue.lapsed } ∧
         t.rds = { s.rds with inFlight := none } ∧
         t.pru = s.pru ∧ t.slk = s.slk ∧ t.cck = s.cck ∧ t.stc = s.stc) ∧
     (∀ kind, e.custody = .atGauge → e.pocket = none → s.pru.gauge = some ⟨u, kind⟩ → s.pru.tx = none →
       ∃ t : State, exec (.readAttemptEnd (.tag u e.kind)) s = .next t ∧ t.entry? u = some e' ∧
         (∀ v, v ≠ u → t.entry? v = s.entry? v) ∧
         (t.pocket r.pocket).state = .stocked ∧ (t.pocket r.pocket).contents = some u ∧
         (t.pocket r.pocket).latch = .locked ∧ (t.pocket r.pocket).verified = true ∧
         (∀ q, q ≠ r.pocket → t.pocket q = s.pocket q) ∧
         t.pru = { s.pru with gauge := none, burst := none, first := none,
                              tx := if s.pru.burst.isSome then some ⟨.aborted, 0, 0, 0⟩ else none } ∧
         t.hli = { s.hli with routine := placeRecord e'.record s.hli.routine } ∧
         t.rds = { s.rds with inFlight := none } ∧ t.cue = s.cue ∧ t.slk = s.slk ∧ t.cck = s.cck ∧ t.stc = s.stc) ∧
     (∀ p, e.custody = .stocked → e.pocket = some p → p ≠ r.pocket → p < 48 → s.giverOf? u = none →
       ((s.pocket p).state = .stocked ∨ (s.pocket p).state = .fault) →
       ∃ t : State, exec (.readAttemptEnd (.tag u e.kind)) s = .next t ∧ t.entry? u = some e' ∧
         (∀ v, v ≠ u → t.entry? v = s.entry? v) ∧
         (t.pocket r.pocket).state = .stocked ∧ (t.pocket r.pocket).contents = some u ∧
         (t.pocket r.pocket).latch = .locked ∧ (t.pocket r.pocket).verified = true ∧
         (t.pocket p).contents = none ∧ (t.pocket p).mark = none ∧ (t.pocket p).openRelease = false ∧
         (t.pocket p).verified = false ∧
         ((s.pocket p).state = .stocked →
           (t.pocket p).state = .checking ∧ (t.pocket p).check = some .insert ∧ (t.pocket p).latch = .locked ∧
           (t.pocket p).readRequested = true ∧ (t.pocket p).vacated = some ⟨u, false⟩ ∧
           t.rds = { s.rds with inFlight := some ⟨p, 0⟩ }) ∧
         ((s.pocket p).state = .fault →
           (t.pocket p).state = .fault ∧ (t.pocket p).saved = some .empty ∧
           t.rds = { s.rds with inFlight := none }) ∧
         (∀ q, q ≠ r.pocket → q ≠ p → t.pocket q = s.pocket q) ∧
         ((s.pocket p).mark = none → t.slk = s.slk) ∧
         ((s.pocket p).mark ≠ none → s.masked .recordChanged = false → s.slk.notices.length < 16 →
           t.slk.notices = s.slk.notices ++ [⟨.recordChanged, some p, some u, none, none, []⟩]) ∧
         t.hli = { s.hli with routine := placeRecord e'.record s.hli.routine } ∧
         t.pru = s.pru ∧ t.cue = s.cue ∧ t.cck = s.cck ∧ t.stc = s.stc))

/-- R42, R53: the read that settles a release as AWAY, check REMOVE of tool u. NO_TAG makes the entry AWAY with timer 3600 s, its
version advanced by one, and the pocket EMPTY, latched and verified; the tag of u leaves the pocket STOCKED with the release
ended and the entry as it was.

R35, R2: the read of a CHECKING pocket with check RECHECK. The tool's own tag leaves it STOCKED and verified, its mark kept; one
of another kind changes the entry's kind as a versioned change, without its preset and with its life clamped. NO_TAG makes the
entry AWAY and the pocket EMPTY; at the outside limit the entry is deleted with LIMIT. Another tool's tag does that first, and
the arrival after it. After the third FAIL the pocket stays CHECKING, unverified. A RESERVED pocket stays so on the tag; on
NO_TAG its giver transfer closes first, with LAPSE(WITHDRAWN).

R129, R130, R131: the read of a RELEASING pocket. NO_TAG: the entry TRANSIT toward the seeker with timer 900 s, RELEASED
handed over, the transfer in TRANSIT; for a withdrawn transfer AWAY and closed, without a frame. The tool's own tag: it stays
RELEASING; with the release timer expired it is STOCKED again with LAPSE(TIMEOUT) and the transfer closed, and for a withdrawn
one the same without a frame. The third FAIL as the tag, unverified. Another tool's tag: as NO_TAG, then its arrival.

The model's readings: the change of kind comes after the outcome's effects on the pocket (log entry 15), and a clamped life keeps
its seconds remainder (log entry 17). -/
def Obligations.RemovalSettles : Prop :=
  (∀ (r : Read) (u : ToolId) (e : Entry) (s : State), s.running = true → s.Bounded →
    s.rds.inFlight = some r → s.rds.queue = [] → s.rds.sweep = .idle → s.rds.awaiting = false → s.trg.checks = [] →
    (s.pocket r.pocket).state = .checking → (s.pocket r.pocket).check = some .remove →
    (s.pocket r.pocket).readRequested = true → (s.pocket r.pocket).contents = some u → (s.pocket r.pocket).mark = none →
    toolIdValid u = true → s.entry? u = some e → e.tool = u → e.pocket = some r.pocket → e.custody = .stocked →
    s.windowOpen u = false →
    (∃ t : State, exec (.readAttemptEnd .noTag) s = .next t ∧
      t.entry? u = some { e with custody := .away, pocket := none, destination := none, awayTimer := some 3600,
                                 version := e.version + 1 } ∧
      (∀ v, v ≠ u → t.entry? v = s.entry? v) ∧
      (t.pocket r.pocket).state = .empty ∧ (t.pocket r.pocket).contents = none ∧
      (t.pocket r.pocket).latch = .locked ∧ (t.pocket r.pocket).openRelease = false ∧
      (t.pocket r.pocket).verified = true ∧ (∀ q, q ≠ r.pocket → t.pocket q = s.pocket q) ∧
      t.cue = s.cue ∧ t.pru = s.pru ∧ t.slk = s.slk ∧ t.cck = s.cck ∧ t.stc = s.stc) ∧
    (∃ t : State, exec (.readAttemptEnd (.tag u e.kind)) s = .next t ∧
      (t.pocket r.pocket).state = .stocked ∧ (t.pocket r.pocket).contents = some u ∧
      (t.pocket r.pocket).latch = .locked ∧ (t.pocket r.pocket).openRelease = false ∧
      (t.pocket r.pocket).verified = true ∧ (∀ q, q ≠ r.pocket → t.pocket q = s.pocket q) ∧
      t = { s with pkc := { s.pkc with pockets := t.pkc.pockets }, rds := { s.rds with inFlight := none } })) ∧
  (∀ (r : Read) (u : ToolId) (e : Entry) (k : Pocket) (s : State), s.SoleRead r → s.pocket r.pocket = k →
     k.contents = some u → k.readRequested = true → toolIdValid u = true → s.entry? u = some e →
     e.pocket = some r.pocket → s.windowOpen u = false →
     (k.state = .checking → k.check = some .recheck → e.custody = .stocked → s.giverOf? u = none →
       (∃ t : State, exec (.readAttemptEnd (.tag u e.kind)) s = .next t ∧
         (t.pocket r.pocket).state = .stocked ∧ (t.pocket r.pocket).contents = some u ∧
         (t.pocket r.pocket).latch = .locked ∧ (t.pocket r.pocket).verified = true ∧
         (t.pocket r.pocket).mark = k.mark ∧ (∀ q, q ≠ r.pocket → t.pocket q = s.pocket q) ∧
         t = { s with pkc := { s.pkc with pockets := t.pkc.pockets }, rds := { s.rds with inFlight := none } }) ∧
       (∀ kind, kind ≠ e.kind →
         ∃ (t : State) (e' : Entry), exec (.readAttemptEnd (.tag u kind)) s = .next t ∧ t.entry? u = some e' ∧
           e' = { e with
             kind := kind, preset := none, life := min e.life (s.fullLife kind),
             condition := (if e.condition = .quarantine .duplicate ∨ e.condition = .quarantine .operator then e.condition
                           else .needsPreset),
             version := e.version + 1 } ∧
           (∀ v, v ≠ u → t.entry? v = s.entry? v) ∧
           (t.pocket r.pocket).state = .stocked ∧ (t.pocket r.pocket).contents = some u ∧
           (t.pocket r.pocket).verified = true ∧ (t.pocket r.pocket).mark = none ∧
           (s.stc.node ≠ .idConflict → t.hli = { s.hli with routine := placeRecord e'.record s.hli.routine }) ∧
           t.cue = s.cue ∧ t.rds = { s.rds with inFlight := none } ∧ t.cck = s.cck ∧ t.stc = s.stc) ∧
       (∃ t : State, exec (.readAttemptEnd .noTag) s = .next t ∧
         (s.departureRoom = true → t.entry? u = some
           { e with custody := .away, pocket := none, destination := none, awayTimer := some 3600,
                    version := e.version + 1 }) ∧
         (s.departureRoom = false → t.entry? u = none ∧ u ∉ t.pru.queue ∧
           (s.masked .limit = false → ⟨.limit, some r.pocket, some u, none, none, []⟩ ∈ t.slk.notices)) ∧
         (∀ v, v ≠ u → t.entry? v = s.entry? v) ∧
         (t.pocket r.pocket).state = .empty ∧ (t.pocket r.pocket).contents = none ∧
         (t.pocket r.pocket).latch = .locked ∧ (t.pocket r.pocket).verified = true ∧ (t.pocket r.pocket).mark = none ∧
         t.rds = { s.rds with inFlight := none } ∧ t.cck = s.cck ∧ t.stc = s.stc) ∧
       (∀ v f, toolIdValid v = true → v ≠ u → s.entry? v = some f → f.custody = .away → f.pocket = none →
         s.takerFor? r.pocket v = none → s.cue.windows = [] → s.departureRoom = true →
         ∃ t : State, exec (.readAttemptEnd (.tag v f.kind)) s = .next t ∧
           t.entry? u = some { e with custody := .away, pocket := none, destination := none, awayTimer := some 3600,
                                      version := e.version + 1 } ∧
           t.entry? v = some { f with custody := .stocked, pocket := some r.pocket, destination := none,
                                      awayTimer := none, version := f.version + 1 } ∧
           (∀ w, w ≠ u → w ≠ v → t.entry? w = s.entry? w) ∧
           (t.pocket r.pocket).state = .stocked ∧ (t.pocket r.pocket).contents = some v ∧
           (t.pocket r.pocket).latch = .locked ∧ (t.pocket r.pocket).verified = true ∧ t.cue = s.cue) ∧
       (r.fails = 2 → ∃ t : State, exec (.readAttemptEnd .fail) s = .next t ∧
         (t.pocket r.pocket).state = .checking ∧ (t.pocket r.pocket).check = some .recheck ∧
         (t.pocket r.pocket).contents = some u ∧ (t.pocket r.pocket).verified = false ∧
         (t.pocket r.pocket).readRequested = false ∧ (∀ q, q ≠ r.pocket → t.pocket q = s.pocket q) ∧
         t = { s with pkc := { s.pkc with pockets := t.pkc.pockets }, rds := { s.rds with inFlight := none } })) ∧
     (∀ g, k.state = .reserved → e.custody = .reserved → s.giverOf? u = some g → g.state = .offered →
       g.pocket = some r.pocket →
       (∃ t : State, exec (.readAttemptEnd (.tag u e.kind)) s = .next t ∧
         (t.pocket r.pocket).state = .reserved ∧ (t.pocket r.pocket).verified = true ∧
         (t.pocket r.pocket).contents = some u ∧ (∀ q, q ≠ r.pocket → t.pocket q = s.pocket q) ∧
         t = { s with pkc := { s.pkc with pockets := t.pkc.pockets }, rds := { s.rds with inFlight := none } }) ∧
       (s.departureRoom = true → s.hli.urgent.length < 8 → s.stc.node ≠ .idConflict →
         ∃ t : State, exec (.readAttemptEnd .noTag) s = .next t ∧
           t.entry? u = some { e with custody := .away, pocket := none, destination := none, awayTimer := some 3600,
                                      version := e.version + 1 } ∧
           (∀ v, v ≠ u → t.entry? v = s.entry? v) ∧
           (t.pocket r.pocket).state = .empty ∧ (t.pocket r.pocket).contents = none ∧
           (t.pocket r.pocket).latch = .locked ∧ (t.pocket r.pocket).verified = true ∧
           t.giver? g.seeker g.seek = none ∧ t.cue.lapsed.getLast? = some (g.seeker, g.seek) ∧
           t.hli.urgent = s.hli.urgent ++ [⟨.lapse g.seeker g.seek .withdrawn, .giver g.seeker g.seek⟩] ∧
           t.pru = s.pru ∧ t.rds = { s.rds with inFlight := none } ∧ t.cck = s.cck ∧ t.stc = s.stc))) ∧
  (∀ (r : Read) (g : Giver) (e gone : Entry) (k : Pocket) (s : State), s.SoleRead r → s.pocket r.pocket = k →
     k.state = .releasing → k.contents = some g.tool → k.readRequested = true → k.mark = none →
     toolIdValid g.tool = true → g.state = .releasing → g.pocket = some r.pocket → s.giverAt? r.pocket = some g →
     s.giver? g.seeker g.seek = some g → s.entry? g.tool = some e → e.custody = .releasing →
     e.pocket = some r.pocket → s.windowOpen g.tool = false → s.hli.urgent.length < 8 → s.stc.node ≠ .idConflict →
     gone = (if g.withdrawing
       then { e with custody := .away, pocket := none, destination := none, awayTimer := some 3600,
                     version := e.version + 1 }
       else { e with custody := .transit, pocket := none, destination := some g.seeker, awayTimer := some 900,
                     version := e.version + 1 }) →
     (∃ t : State, exec (.readAttemptEnd .noTag) s = .next t ∧ t.entry? g.tool = some gone ∧
       (∀ v, v ≠ g.tool → t.entry? v = s.entry? v) ∧
       (t.pocket r.pocket).state = .empty ∧ (t.pocket r.pocket).contents = none ∧
       (t.pocket r.pocket).latch = .locked ∧ (t.pocket r.pocket).verified = true ∧
       (∀ q, q ≠ r.pocket → t.pocket q = s.pocket q) ∧ t.hli.routine = placeRecord gone.record s.hli.routine ∧
       (g.withdrawing = false →
         t.giver? g.seeker g.seek = some { g with
           state := .transit, pocket := none, timer := none, expired := false,
           lastFrame := .released g.seeker g.seek gone.record } ∧
         t.hli.urgent = s.hli.urgent ++ [⟨.released g.seeker g.seek gone.record, .giver g.seeker g.seek⟩] ∧
         t.cue.lapsed = s.cue.lapsed) ∧
       (g.withdrawing = true → t.giver? g.seeker g.seek = none ∧ t.hli.urgent = s.hli.urgent ∧
         t.cue.lapsed.getLast? = some (g.seeker, g.seek)) ∧
       t.cue.takers = s.cue.takers ∧ t.rds = { s.rds with inFlight := none } ∧ t.pru = s.pru ∧ t.slk = s.slk ∧
       t.cck = s.cck ∧ t.stc = s.stc) ∧
     (g.withdrawing = false → g.expired = false →
       ∀ a, (a = .tag g.tool e.kind ∨ (a = .fail ∧ r.fails = 2)) →
         ∃ t : State, exec (.readAttemptEnd a) s = .next t ∧
           (t.pocket r.pocket).state = .releasing ∧ (t.pocket r.pocket).latch = k.latch ∧
           (t.pocket r.pocket).contents = some g.tool ∧ (t.pocket r.pocket).readRequested = false ∧
           (t.pocket r.pocket).verified = decide (a ≠ .fail) ∧ (∀ q, q ≠ r.pocket → t.pocket q = s.pocket q) ∧
           t = { s with pkc := { s.pkc with pockets := t.pkc.pockets }, rds := { s.rds with inFlight := none } }) ∧
     ((g.withdrawing = true ∨ g.expired = true) →
       ∀ a, (a = .tag g.tool e.kind ∨ (a = .fail ∧ r.fails = 2)) →
         ∃ t : State, exec (.readAttemptEnd a) s = .next t ∧
           (t.pocket r.pocket).state = .stocked ∧ (t.pocket r.pocket).latch = .locked ∧
           (t.pocket r.pocket).contents = some g.tool ∧ (t.pocket r.pocket).verified = decide (a ≠ .fail) ∧
           (∀ q, q ≠ r.pocket → t.pocket q = s.pocket q) ∧
           t.entry? g.tool = some { e with custody := .stocked } ∧ (∀ v, v ≠ g.tool → t.entry? v = s.entry? v) ∧
           t.giver? g.seeker g.seek = none ∧ t.cue.lapsed.getLast? = some (g.seeker, g.seek) ∧
           t.cue.takers = s.cue.takers ∧
           t.hli = { s.hli with urgent := s.hli.urgent ++
             (if g.withdrawing then [] else [⟨.lapse g.seeker g.seek .timeout, .giver g.seeker g.seek⟩]) } ∧
           t.rds = { s.rds with inFlight := none } ∧ t.pru = s.pru ∧ t.slk = s.slk ∧ t.cck = s.cck ∧ t.stc = s.stc) ∧
     (∀ v f, toolIdValid v = true → v ≠ g.tool → s.entry? v = some f → f.custody = .away → f.pocket = none →
       s.takerFor? r.pocket v = none → s.cue.windows = [] →
       ∃ t : State, exec (.readAttemptEnd (.tag v f.kind)) s = .next t ∧ t.entry? g.tool = some gone ∧
         t.entry? v = some { f with custody := .stocked, pocket := some r.pocket, destination := none, awayTimer := none,
                                    version := f.version + 1 } ∧
         (∀ w, w ≠ g.tool → w ≠ v → t.entry? w = s.entry? w) ∧
         (t.pocket r.pocket).state = .stocked ∧ (t.pocket r.pocket).contents = some v ∧
         (t.pocket r.pocket).latch = .locked ∧ (t.pocket r.pocket).verified = true))

/-- R139, R140: a tag read at a pocket with check INSERT whose tool has no entry here, a claim window free and room in the
register: the tool is adopted at version 0, NEEDS_PRESET, STOCKED in the pocket; the pocket is STOCKED with it; a window of
3 s opens for it, WHEREIS is handed over, and the Preset Queue takes it. -/
def Obligations.AdoptionOpens : Prop :=
  ∀ (r : Read) (u kind : Nat) (s : State), s.running = true → s.stc.node ≠ .idConflict → s.Bounded →
    s.rds.inFlight = some r → s.rds.queue = [] → s.rds.sweep = .idle → s.rds.awaiting = false → s.trg.checks = [] →
    (s.pocket r.pocket).state = .checking → (s.pocket r.pocket).check = some .insert →
    (s.pocket r.pocket).readRequested = true → (s.pocket r.pocket).vacated = none →
    toolIdValid u = true → s.entry? u = none → s.trg.entries.length < 256 →
    s.takerFor? r.pocket u = none →
    s.cue.windows.length < 4 → s.cue.waiting = [] → s.hli.urgent.length < 8 → s.pru.queue.length < 32 →
    s.pru.queue.contains u = false →
    ∃ t : State, exec (.readAttemptEnd (.tag u kind)) s = .next t ∧
      t.entry? u = some
        { tool := u, kind := kind, version := 0, custodian := s.ownId, custody := .stocked, heard := none,
          destination := none, pocket := some r.pocket, condition := .needsPreset, preset := none, life := 0,
          remainder := 0, used := 0, conflict := false, awayTimer := none } ∧
      (∀ v, v ≠ u → t.entry? v = s.entry? v) ∧
      (t.pocket r.pocket).state = .stocked ∧ (t.pocket r.pocket).contents = some u ∧
      (t.pocket r.pocket).verified = true ∧ (t.pocket r.pocket).latch = .locked ∧
      t.cue = { s.cue with windows := s.cue.windows ++ [⟨u, .adoption (.pocket r.pocket) none none, 3⟩] } ∧
      t.hli = { s.hli with urgent := s.hli.urgent ++ [⟨.whereis u, .window u⟩] } ∧
      t.pru = { s.pru with queue := s.pru.queue ++ [u] } ∧ t.slk = s.slk ∧ t.cck = s.cck ∧ t.stc = s.stc

/-- R59, R60, R64: SWEEP while a sweep runs is answered BUSY. While the node is not quiet it starts SUSPENDED with every status
NONE. While it is quiet it starts ACTIVE, and at once a read is queued for a pocket 0 that it can visit. With every pocket
ABSENT it runs to its end at once: 48 statuses ABSENT, the sweep IDLE at cursor 0, and SWEEP_DONE with the seven numbers.
SWEEPSTAT returns the sweep state, the cursor and the 48 statuses and changes nothing.

R61 to R64: the end of the read of the cursor pocket, while the sweep is SUSPENDED and the reader has nothing else, for a pocket
that asked for no read. The status recorded: OK for an EMPTY pocket without a tag and a STOCKED or RESERVED one with its own
tool's; READ_FAIL after the third FAIL; SKIPPED for a pocket that has become open; each changes nothing but the verified flag.
UNEXPECTED for a tag at an EMPTY pocket: the tool, AWAY, is STOCKED there. MISSING for a STOCKED pocket without its tag: the
tool is AWAY with timer 3600 s, the pocket EMPTY. MISMATCH for another tool's tag: both at once. The returned tool is reported
to the Preset Queue (R85, R86), and every other pocket stays as it was but for its indicator, which follows the head of that
queue. The cursor advances; past 47 the sweep is IDLE at cursor 0 with its table kept, and SWEEP_DONE carries the seven numbers.
-/
def Obligations.SweepRuns : Prop :=
  (∀ s : State, s.takesCommands →
    (s.rds.sweep ≠ .idle → exec .sweep s = .next (s.replied 0x1A .busy .none)) ∧
    (s.rds.sweep = .idle → s.quiet = false → s.rds.inFlight.isSome = true →
      exec .sweep s = .next (State.replied { s with rds := { s.rds with
        sweep := .suspended, cursor := 0, awaiting := false, table := List.replicate 48 .none } } 0x1A .ok .none)) ∧
    (s.rds.sweep = .idle → s.rds.inFlight = none → s.rds.queue = [] → s.pkc.pockets = List.replicate 48 Pocket.vacant →
      exec .sweep s = .next (State.replied
        (pushNotice ⟨.sweepDone, none, none, none, none, [0, 0, 0, 0, 0, 0, 48]⟩
          { s with rds := { s.rds with sweep := .idle, cursor := 0, awaiting := false,
                                       table := List.replicate 48 .absent } }) 0x1A .ok .none)) ∧
    (s.quiet = true → s.readerElsewhere 0 → 0 ∉ s.rds.queue → (s.pocket 0).readRequested = false →
      ((s.pocket 0).state = .empty ∨ ((s.pocket 0).state = .stocked ∧ (s.pocket 0).openRelease = false) ∨
        (s.pocket 0).state = .reserved ∨ (s.pocket 0).state = .fault) →
      exec .sweep s = .next (State.replied { s with rds := { s.rds with
        sweep := .active, cursor := 0, awaiting := true, table := List.replicate 48 .none,
        queue := s.rds.queue ++ [0] } } 0x1A .ok .none)) ∧
    exec .sweepstat s = .next (s.replied 0x1B .ok (.sweepStat s.rds.sweep s.rds.cursor s.rds.table))) ∧
  (∀ (r : Read) (k : Pocket) (s : State), s.running = true → s.rds.inFlight = some r → s.rds.queue = [] →
     s.rds.sweep = .suspended → s.rds.awaiting = true → s.rds.cursor = r.pocket → r.pocket < 48 → s.trg.checks = [] →
     s.pkc.pockets.length = 48 → s.pocket r.pocket = k → k.readRequested = false →
     (∀ (a : AttemptResult) (x : SweepStatus) (flag : Bool),
       ((a = .noTag ∧ k.state = .empty ∧ x = .ok ∧ flag = true) ∨
         (∃ u e, a = .tag u e.kind ∧ toolIdValid u = true ∧ k.contents = some u ∧ s.entry? u = some e ∧
           ((k.state = .stocked ∧ k.openRelease = false) ∨ k.state = .reserved) ∧ x = .ok ∧ flag = true) ∨
         (a = .fail ∧ r.fails = 2 ∧
           (k.state = .empty ∨ (k.state = .stocked ∧ k.openRelease = false) ∨ k.state = .reserved) ∧ x = .readFail ∧
           flag = k.verified) ∨
         (a = .noTag ∧ (k.state = .openForStock ∨ k.state = .awaiting ∨ k.state = .wrongTool ∨ k.state = .releasing ∨
           (k.state = .stocked ∧ k.openRelease = true)) ∧ x = .skipped ∧ flag = k.verified)) →
       ∃ t : State, exec (.readAttemptEnd a) s = .next t ∧ t.rds = s.rds.swept r.pocket x ∧
         { t.pocket r.pocket with verified := k.verified, indicator := k.indicator } = k ∧
         (t.pocket r.pocket).verified = flag ∧ (∀ q, q ≠ r.pocket → t.pocket q = s.pocket q) ∧
         (r.pocket < 47 → t.slk = s.slk) ∧
         (r.pocket = 47 → s.masked .sweepDone = false → s.slk.notices.length < 16 → t.slk.notices = s.slk.notices ++
           [⟨.sweepDone, none, none, none, none, sweepCounts (s.rds.table.set 47 x)⟩]) ∧
         t.trg = s.trg ∧ t.pru = s.pru ∧ t.cue = s.cue ∧ t.hli = s.hli ∧ t.cck = s.cck ∧ t.stc = s.stc) ∧
     (∀ v f, s.Bounded → toolIdValid v = true → s.entry? v = some f → f.custody = .away → f.pocket = none →
       s.takerFor? r.pocket v = none → s.cue.windows = [] →
       (k.state = .empty → ∃ t : State, exec (.readAttemptEnd (.tag v f.kind)) s = .next t ∧
         t.rds = s.rds.swept r.pocket .unexpected ∧
         t.entry? v = some { f with custody := .stocked, pocket := some r.pocket, destination := none, awayTimer := none,
                                    version := f.version + 1 } ∧
         (∀ w, w ≠ v → t.entry? w = s.entry? w) ∧
         (t.pocket r.pocket).state = .stocked ∧ (t.pocket r.pocket).contents = some v ∧
         (t.pocket r.pocket).latch = .locked ∧ (t.pocket r.pocket).verified = true ∧
         t.pru = { s.pru with queue :=
           if f.condition = .needsPreset ∨ f.condition = .expired ∨ f.condition = .quarantine .runout ∨
               f.condition = .quarantine .outOfTol then
             if v ∈ s.pru.queue then s.pru.queue
             else if s.pru.queue.length < 32 then s.pru.queue ++ [v] else s.pru.queue
           else s.pru.queue.filter (· != v) } ∧
         (∀ q, q ≠ r.pocket → { t.pocket q with indicator := (s.pocket q).indicator } = s.pocket q) ∧
         t.cue = s.cue ∧ t.cck = s.cck ∧ t.stc = s.stc) ∧
       (∀ u e, k.state = .stocked → k.openRelease = false → k.contents = some u → u ≠ v → s.entry? u = some e →
         e.custody = .stocked → e.pocket = some r.pocket → s.giverOf? u = none → s.departureRoom = true →
         ∃ t : State, exec (.readAttemptEnd (.tag v f.kind)) s = .next t ∧ t.rds = s.rds.swept r.pocket .mismatch ∧
           t.entry? u = some { e with custody := .away, pocket := none, destination := none, awayTimer := some 3600,
                                      version := e.version + 1 } ∧
           t.entry? v = some { f with custody := .stocked, pocket := some r.pocket, destination := none,
                                      awayTimer := none, version := f.version + 1 } ∧
           (∀ w, w ≠ u → w ≠ v → t.entry? w = s.entry? w) ∧
           (t.pocket r.pocket).state = .stocked ∧ (t.pocket r.pocket).contents = some v ∧
           (t.pocket r.pocket).verified = true ∧
           t.pru = { s.pru with queue :=
             if f.condition = .needsPreset ∨ f.condition = .expired ∨ f.condition = .quarantine .runout ∨
                 f.condition = .quarantine .outOfTol then
               if v ∈ s.pru.queue then s.pru.queue
               else if s.pru.queue.length < 32 then s.pru.queue ++ [v] else s.pru.queue
             else s.pru.queue.filter (· != v) } ∧
           (∀ q, q ≠ r.pocket → { t.pocket q with indicator := (s.pocket q).indicator } = s.pocket q) ∧
           t.cue = s.cue ∧ t.cck = s.cck ∧ t.stc = s.stc)) ∧
     (∀ u e, s.Bounded → k.state = .stocked → k.openRelease = false → k.contents = some u → s.entry? u = some e →
       e.custody = .stocked → e.pocket = some r.pocket → s.giverOf? u = none → s.departureRoom = true → s.cue.windows = [] →
       ∃ t : State, exec (.readAttemptEnd .noTag) s = .next t ∧ t.rds = s.rds.swept r.pocket .missing ∧
         t.entry? u = some { e with custody := .away, pocket := none, destination := none, awayTimer := some 3600,
                                    version := e.version + 1 } ∧
         (∀ w, w ≠ u → t.entry? w = s.entry? w) ∧
         (t.pocket r.pocket).state = .empty ∧ (t.pocket r.pocket).contents = none ∧ (t.pocket r.pocket).latch = .locked ∧
         (t.pocket r.pocket).verified = true ∧ (t.pocket r.pocket).mark = none ∧
         (∀ q, q ≠ r.pocket → t.pocket q = s.pocket q) ∧ t.cue = s.cue ∧ t.cck = s.cck ∧ t.stc = s.stc))

/-! ### The presetter head -/

/-- R65, R91, R153: a discarded head message, a discarded frame and a command frame that fails its check change nothing; and while
the port is not read (no head fitted, before the end of RESTORING, in CONFIG_FAULT) no head message has any effect. -/
def Obligations.DiscardedIsNothing : Prop :=
  (∀ (b : List Byte) (s : State), exec (.headMessageDiscarded b) s = .next s ∧ exec (.frameDiscarded b) s = .next s ∧
    exec .commandCheckFail s = .next s) ∧
  ∀ s : State, s.headReads = false →
    (∀ u k, exec (.headTag u k) s = .next s) ∧ exec .headTagGone s = .next s ∧
    (∀ n e t, exec (.burstStart n e t) s = .next s) ∧ (∀ i z x v, exec (.sample i z x v) s = .next s) ∧
    exec .burstEnd s = .next s

/-- R65, R68: a TAG with an ID or kind out of range is discarded. While the gauge tool is none, a TAG of a tool this node holds
AWAY or LOST, under the kind of its entry, makes it the gauge tool; with no other entry AT_GAUGE the entry becomes AT_GAUGE, its
away timer dropped, its version advanced by one, one RECORD of it queued, and nothing else changes.

R68, R4, R13: a TAG of a tool STOCKED in a pocket here. Under the outside limit it becomes AT_GAUGE, and its pocket is CHECKING
with check INSERT, latched and unverified, a read requested for it with a vacated mark. At the limit its entry is deleted: the
pocket is EMPTY, latched and unverified, no read asked for and no vacated mark set, LIMIT is queued, naming the gauge (the
model's choice, log entry 57), and the tool is the gauge tool without an entry.

R70, R66: TAG_GONE with the gauge tool none has no effect. Otherwise the gauge tool becomes none, a burst in progress is aborted
with RESULT ABORTED, a pending first burst is discarded, and the settled AT_GAUGE entry becomes AWAY with timer 3600 s, its
version advanced by one, one RECORD of it queued. -/
def Obligations.GaugeFollowsTag : Prop :=
  (∀ (u : ToolId) (kind : Nat) (s : State),
     ((toolIdValid u = false ∨ 64 ≤ kind) → exec (.headTag u kind) s = .next s) ∧
     (∀ e, s.headReads = true → toolIdValid u = true → e.kind < 64 → s.pru.gauge = none →
       s.readerBusy → s.trg.entries.all (fun x => !decide (x.custody = .atGauge)) = true →
       s.entry? u = some e → (e.custody = .away ∨ e.custody = .lost) → e.pocket = none → s.adoptionOpen u = false →
       exec (.headTag u e.kind) s = .next
         (handRecord u (putEntry { e with custody := .atGauge, destination := none, awayTimer := none,
                                          version := e.version + 1 }
           { s with pru := { s.pru with gauge := some ⟨u, e.kind⟩ } })))) ∧
  (∀ (u : ToolId) (e : Entry) (p : PocketNo) (s : State), s.headReads = true → toolIdValid u = true → e.kind < 64 →
     s.pru.gauge = none → s.readerElsewhere p → s.Bounded → s.entry? u = some e → e.custody = .stocked →
     e.pocket = some p → p < 48 → (s.pocket p).state = .stocked → (s.pocket p).openRelease = false →
     s.giverOf? u = none → s.windowOpen u = false → s.cue.waiting = [] →
     (∀ e', s.departureRoom = true → s.trg.entries.all (fun x => !decide (x.custody = .atGauge)) = true →
       e' = { e with custody := .atGauge, pocket := none, destination := none, awayTimer := none,
                     version := e.version + 1 } →
       ∃ t : State, exec (.headTag u e.kind) s = .next t ∧ t.entry? u = some e' ∧
         (∀ v, v ≠ u → t.entry? v = s.entry? v) ∧
         (t.pocket p).state = .checking ∧ (t.pocket p).check = some .insert ∧ (t.pocket p).contents = none ∧
         (t.pocket p).latch = .locked ∧ (t.pocket p).verified = false ∧ (t.pocket p).mark = none ∧
         (t.pocket p).readRequested = true ∧ (t.pocket p).vacated = some ⟨u, false⟩ ∧ p ∈ t.rds.queue ∧
         (∀ q, q ≠ p → t.pocket q = s.pocket q) ∧
         t.pru = { s.pru with gauge := some ⟨u, e.kind⟩ } ∧
         (s.stc.node ≠ .idConflict → t.hli = { s.hli with routine := placeRecord e'.record s.hli.routine }) ∧
         t.cue = s.cue ∧ t.cck = s.cck ∧ t.stc = s.stc) ∧
     (s.departureRoom = false → u ∉ s.pru.queue →
       ∃ t : State, exec (.headTag u e.kind) s = .next t ∧ t.entry? u = none ∧
         (∀ v, v ≠ u → t.entry? v = s.entry? v) ∧
         (t.pocket p).state = .empty ∧ (t.pocket p).contents = none ∧ (t.pocket p).latch = .locked ∧
         (t.pocket p).verified = false ∧ (t.pocket p).mark = none ∧
         (t.pocket p).readRequested = (s.pocket p).readRequested ∧ (t.pocket p).vacated = (s.pocket p).vacated ∧
         (∀ q, q ≠ p → t.pocket q = s.pocket q) ∧
         ((s.pocket p).mark = none → s.masked .limit = false → s.slk.notices.length < 16 →
           t.slk.notices = s.slk.notices ++ [⟨.limit, some 48, some u, none, none, []⟩]) ∧
         t.pru = { s.pru with gauge := some ⟨u, e.kind⟩ } ∧
         t.hli = { s.hli with routine := s.hli.routine.filter (fun f => !f.isRecordOf u) } ∧
         t.rds = s.rds ∧ t.cue = s.cue ∧ t.cck = s.cck ∧ t.stc = s.stc)) ∧
  (∀ s : State, s.headReads = true →
     (s.pru.gauge = none → exec .headTagGone s = .next s) ∧
     (∀ g e, s.pru.gauge = some g → s.entry? g.tool = some e → e.custody = .atGauge → e.pocket = none →
       s.windowOpen g.tool = false → s.Bounded → s.cue.waiting = [] → s.pru.tx = none →
       ∃ t : State, exec .headTagGone s = .next t ∧
         t.pru = { s.pru with gauge := none, burst := none, first := none,
                              tx := if s.pru.burst.isSome then some ⟨.aborted, 0, 0, 0⟩ else none } ∧
         t.entry? g.tool = some { e with custody := .away, destination := none, awayTimer := some 3600,
                                         version := e.version + 1 } ∧
         (∀ v, v ≠ g.tool → t.entry? v = s.entry? v) ∧
         (∀ e', t.entry? g.tool = some e' → s.stc.node ≠ .idConflict →
           t.hli = { s.hli with routine := placeRecord e'.record s.hli.routine }) ∧
         (s.stc.node = .idConflict → t.hli = s.hli) ∧
         t.pkc = s.pkc ∧ t.rds = s.rds ∧ t.cue = s.cue ∧ t.slk = s.slk ∧ t.cck = s.cck ∧ t.stc = s.stc))

/-- R73, R66: a BURST_START opens a burst of the gauge tool with the count clamped to 4..32, the temperature clamped to
-1000..6000 and provisional when it was clamped or none, and 32 empty slots. A burst in progress is aborted first, with
RESULT ABORTED sent, or waiting behind the one being sent; the pending first burst is kept. RESULT_SENT frees the transmitter
for the RESULT waiting. -/
def Obligations.BurstOpens : Prop :=
  ∀ (n : Nat) (edge : Bool) (temp : Option Int) (s : State), s.headReads = true →
    ∃ t : State, exec (.burstStart n edge temp) s = .next t ∧
      t = { s with pru := t.pru } ∧ t.pru.gauge = s.pru.gauge ∧ t.pru.first = s.pru.first ∧ t.pru.queue = s.pru.queue ∧
      (∃ b, t.pru.burst = some b ∧ b.tool = s.pru.gauge.map (·.tool) ∧
        b.n = (if n < 4 then 4 else if 32 < n then 32 else n) ∧ b.edge = edge ∧ b.slots = List.replicate 32 none ∧
        (temp = none → b.temperature = 2000 ∧ b.provisional = true) ∧
        (∀ x, temp = some x →
          (x < -1000 → b.temperature = -1000 ∧ b.provisional = true) ∧
          (6000 < x → b.temperature = 6000 ∧ b.provisional = true) ∧
          (-1000 ≤ x → x ≤ 6000 → b.temperature = x ∧ b.provisional = false))) ∧
      (s.pru.burst = none → t.pru.tx = s.pru.tx ∧ t.pru.txWait = s.pru.txWait) ∧
      (s.pru.burst.isSome = true → s.pru.tx = none →
        t.pru.tx = some ⟨.aborted, 0, 0, 0⟩ ∧ t.pru.txWait = s.pru.txWait) ∧
      (s.pru.burst.isSome = true → s.pru.tx.isSome = true →
        t.pru.tx = s.pru.tx ∧ t.pru.txWait = some ⟨.aborted, 0, 0, 0⟩) ∧
      exec .resultSent s = .next { s with pru := { s.pru with tx := s.pru.txWait, txWait := none } }

/-- R74: a SAMPLE accepted while a burst is in progress is stored as sent in the slot of its index when that is below n, in
place of one already there; one with index n or above, and one without a burst, is ignored. -/
def Obligations.SampleStored : Prop :=
  ∀ (i : Nat) (z x : Int) (v : Bool) (s : State), s.headReads = true →
    (∀ b, s.pru.burst = some b → i < b.n →
      exec (.sample i z x v) s =
        .next { s with pru := { s.pru with burst := some { b with slots := b.slots.set i (some ⟨z, x, v⟩) } } }) ∧
    (∀ b, s.pru.burst = some b → b.n ≤ i → exec (.sample i z x v) s = .next s) ∧
    (s.pru.burst = none → exec (.sample i z x v) s = .next s)

/-- R75 to R78, R81 to R83: a burst of four or more valid samples of a one-burst kind: the values are the corrected largest Z and X
and the spread of X; the checks decide, a value equal to its limit passing; the entry takes the values with preset age 0,
used 0, the class by the temperature, and, with the edge renewed, the kind's full life; READY after a PASS with life above
0, DUPLICATE and OPERATOR kept; its version advances by one. -/
def Obligations.BurstConcludes : Prop :=
  ∀ (b : Burst) (g : GaugeTool) (k : KindEntry) (e : Entry) (s : State), s.headReads = true → s.Bounded →
    s.pru.burst = some b → b.tool.isSome = true → s.pru.gauge = some g → s.pru.tx = none →
    s.entry? g.tool = some e → e.custody = .atGauge → e.pocket = none → s.windowOpen g.tool = false →
    s.kind? g.kind = some k → k.bursts = 1 → 4 ≤ b.valid.length →
    ∃ (cl cr runout : Nat) (o : BurstOutcome) (t : State), exec .burstEnd s = .next t ∧
      (∃ z ∈ b.valid, (∀ y ∈ b.valid, y.1 ≤ z.1) ∧ cl = corrected 6000000 z.1 k.alpha (b.temperature - 2000)) ∧
      (∃ x ∈ b.valid, (∀ y ∈ b.valid, y.2 ≤ x.2) ∧ cr = corrected 1250000 x.2 k.alpha (b.temperature - 2000) ∧
        ∃ m ∈ b.valid, (∀ y ∈ b.valid, m.2 ≤ y.2) ∧ runout + m.2 = x.2) ∧
      (o = .failRunout ↔ k.runoutLimit < runout) ∧
      (o = .failTol ↔ runout ≤ k.runoutLimit ∧
        (k.tolLength < (Int.natAbs ((cl : Int) - k.nominalLength)) ∨
          k.tolRadius < (Int.natAbs ((cr : Int) - k.nominalRadius)))) ∧
      (o = .pass ∨ o = .failRunout ∨ o = .failTol) ∧
      t.pru.tx = some ⟨o, cl, cr, runout⟩ ∧ t.pru.burst = none ∧ t.pru.first = none ∧ t.pru.gauge = s.pru.gauge ∧
      t.entry? g.tool = some
        { e with
          preset := some { cls := if b.provisional then .provisional else .full, cl := cl, cr := cr, runout := runout,
                           station := s.ownId, age := 0 },
          used := 0, life := if b.edge then k.fullLife else e.life, remainder := if b.edge then 0 else e.remainder,
          condition :=
            (if e.condition = .quarantine .duplicate ∨ e.condition = .quarantine .operator then e.condition
             else if o = .failRunout then .quarantine .runout
             else if o = .failTol then .quarantine .outOfTol
             else if (if b.edge then k.fullLife else e.life) = 0 then .expired else .ready),
          version := e.version + 1 } ∧
      (∀ v, v ≠ g.tool → t.entry? v = s.entry? v) ∧
      t.rds = s.rds ∧ t.cue = s.cue ∧ t.slk = s.slk ∧ t.cck = s.cck ∧ t.stc = s.stc

/-- R75, R66: a BURST_END without a burst is ignored. With one, and the RESULT transmitter empty, the first case of the table that
applies concludes it: NO_CUSTODY when the burst's tool is none or the gauge tool's entry is not settled here, KIND_UNKNOWN,
each with the pending first burst discarded, SHORT_BURST with it kept; nothing but the Preset Reduction Unit changes. The
RESULT goes out, and RESULT_SENT frees the transmitter for the one waiting.

R79, R80, R76 to R78: a two-burst kind. The values of a burst are the corrected largest Z and X and the spread of X. The first
burst waits with RESULT AGAIN; a second outside the repeat band discards both with REPEAT_FAIL; one within it is combined with
the first: means rounded half up, the larger runout, the edge renewed or provisional if either is. R81 to R83: the combined
values are checked, and the entry takes them with preset age 0 and used 0 as after a single burst; without them it stays as it
was. R78: the correction's two worked examples and its upper clamp. -/
def Obligations.BurstEndsOtherwise : Prop :=
  (∀ s : State, s.headReads = true →
     (s.pru.burst = none → exec .burstEnd s = .next s) ∧
     (∀ b, s.pru.burst = some b → s.pru.tx = none →
       ((b.tool = none ∨ s.pru.gauge = none ∨ ∃ g, s.pru.gauge = some g ∧ s.gaugeSettled g.tool = false) →
         exec .burstEnd s = .next
           { s with pru := { s.pru with burst := none, first := none, tx := some ⟨.noCustody, 0, 0, 0⟩ } }) ∧
       (∀ g, b.tool.isSome = true → s.pru.gauge = some g → s.gaugeSettled g.tool = true →
         (s.kind? g.kind = none →
           exec .burstEnd s = .next
             { s with pru := { s.pru with burst := none, first := none, tx := some ⟨.kindUnknown, 0, 0, 0⟩ } }) ∧
         (∀ k, s.kind? g.kind = some k → b.valid.length < 4 →
           exec .burstEnd s = .next { s with pru := { s.pru with burst := none, tx := some ⟨.shortBurst, 0, 0, 0⟩ } }))) ∧
     exec .resultSent s = .next { s with pru := { s.pru with tx := s.pru.txWait, txWait := none } }) ∧
  ((∀ (b : Burst) (g : GaugeTool) (k : KindEntry) (v : FirstBurst) (s : State), s.headReads = true →
     s.pru.burst = some b → b.tool.isSome = true → s.pru.gauge = some g → s.pru.tx = none →
     s.gaugeSettled g.tool = true → s.kind? g.kind = some k → k.bursts = 2 → 4 ≤ b.valid.length →
     v = b.reduce g.tool k.alpha b.valid →
     (v.tool = g.tool ∧ v.edge = b.edge ∧ v.provisional = b.provisional ∧
       (∃ z ∈ b.valid, (∀ y ∈ b.valid, y.1 ≤ z.1) ∧ v.cl = corrected 6000000 z.1 k.alpha (b.temperature - 2000)) ∧
       (∃ x ∈ b.valid, (∀ y ∈ b.valid, y.2 ≤ x.2) ∧ v.cr = corrected 1250000 x.2 k.alpha (b.temperature - 2000) ∧
         ∃ m ∈ b.valid, (∀ y ∈ b.valid, m.2 ≤ y.2) ∧ v.runout + m.2 = x.2)) ∧
     (s.pru.first = none → exec .burstEnd s = .next
       { s with pru := { s.pru with burst := none, first := some v, tx := some ⟨.again, v.cl, v.cr, v.runout⟩ } }) ∧
     (∀ a, s.pru.first = some a → (k.band < absDiff a.cl v.cl ∨ k.band < absDiff a.cr v.cr) →
       exec .burstEnd s = .next
         { s with pru := { s.pru with burst := none, first := none, tx := some ⟨.repeatFail, v.cl, v.cr, v.runout⟩ } }) ∧
     (∀ (a w : FirstBurst) (e : Entry), s.pru.first = some a → absDiff a.cl v.cl ≤ k.band → absDiff a.cr v.cr ≤ k.band → s.Bounded →
       s.entry? g.tool = some e → e.pocket = none →
       w = { tool := v.tool, cl := (a.cl + v.cl + 1) / 2, cr := (a.cr + v.cr + 1) / 2, runout := max a.runout v.runout,
             edge := a.edge || v.edge, provisional := a.provisional || v.provisional } →
       ∃ (o : BurstOutcome) (t : State), exec .burstEnd s = .next t ∧
         (o = .failRunout ↔ k.runoutLimit < w.runout) ∧
         (o = .failTol ↔ w.runout ≤ k.runoutLimit ∧
           (k.tolLength < (Int.natAbs ((w.cl : Int) - k.nominalLength)) ∨
             k.tolRadius < (Int.natAbs ((w.cr : Int) - k.nominalRadius)))) ∧
         (o = .pass ∨ o = .failRunout ∨ o = .failTol) ∧
         t.pru.tx = some ⟨o, w.cl, w.cr, w.runout⟩ ∧ t.pru.txWait = s.pru.txWait ∧ t.pru.first = none ∧
         t.pru.burst = none ∧ t.pru.gauge = s.pru.gauge ∧
         t.entry? g.tool = some
           { e with
             preset := some { cls := if w.provisional then .provisional else .full, cl := w.cl, cr := w.cr,
                              runout := w.runout, station := s.ownId, age := 0 },
             used := 0, life := if w.edge then k.fullLife else e.life, remainder := if w.edge then 0 else e.remainder,
             condition :=
               (if e.condition = .quarantine .duplicate ∨ e.condition = .quarantine .operator then e.condition
                else if o = .failRunout then .quarantine .runout
                else if o = .failTol then .quarantine .outOfTol
                else if (if w.edge then k.fullLife else e.life) = 0 then .expired else .ready),
             version := e.version + 1 } ∧
         (∀ u, u ≠ g.tool → t.entry? u = s.entry? u) ∧
         t.rds = s.rds ∧ t.cue = s.cue ∧ t.slk = s.slk ∧ t.cck = s.cck ∧ t.stc = s.stc)) ∧
   corrected 6000000 1000000 1250 100 = 999987 ∧ corrected 6000000 1000000 1250 (-100) = 1000013 ∧
   corrected 6000000 6000000 3000 (-3000) = 6000000)

/-! ### The hall line -/

/-- R96, R97, R105: SEND_ATTEMPT with no send in flight begins one: in RUN the head of the urgent queue, or of the routine queue
when that is empty; in JOINING the ANNOUNCE alone, with node state JOINING; in ID_CONFLICT none. A send that waits for quiet
drives its next attempt. ATTEMPT_SENT finishes the send without a report.

R99, R100: after attempt k of 1..7 ends COLLIDED the node waits ((own ID + 7k) mod 16) + 1 slot times, and then for a quiet
line; attempt 8 drops the frame: a SEEK fails its taker with NEED_FAILED(LINE), an OFFER closes its giver with the pocket and
the entry STOCKED again, a TAKE passes its taker in TAKING to the next offer, or closes it with NEED_FAILED(LAPSED) when there is
none, and one to a station that is no longer the counterpart has no effect (R119, R137); the frame of no owner is lost; the
table's rows for 0, 5, 12 and 14 follow.

The model's choices: a send begins, and its frame leaves the queue, at SEND_ATTEMPT (log entry 7); the ends of attempts and of
back-offs are events of the table (log entry 25). -/
def Obligations.FramesAreSent : Prop :=
  (∀ s : State, s.running = true →
     (s.hli.send = none → s.stc.node = .run →
       (∀ u q, s.hli.urgent = u :: q → exec .sendAttempt s = .next { s with hli := { s.hli with
         urgent := q, send := some ⟨u.frame.atAttempt .run, u.owner, 1, .driving⟩ } }) ∧
       (∀ f q, s.hli.urgent = [] → s.hli.routine = f :: q → exec .sendAttempt s = .next { s with hli := { s.hli with
         routine := q, send := some ⟨f.atAttempt .run, .unowned, 1, .driving⟩ } })) ∧
     (s.hli.send = none → s.stc.node = .joining →
       (∀ a q, s.hli.routine = .announce a :: q → exec .sendAttempt s = .next { s with hli := { s.hli with
         routine := q, send := some ⟨.announce { a with nodeState := 4 }, .unowned, 1, .driving⟩ } }) ∧
       (s.hli.routine.all (fun f => !f.isAnnounce) = true → exec .sendAttempt s = .next s)) ∧
     (s.hli.send = none → s.stc.node = .idConflict → exec .sendAttempt s = .next s) ∧
     (∀ f o n, s.hli.send = some ⟨f, o, n, .quietWait⟩ → exec .sendAttempt s = .next { s with hli := { s.hli with
       send := some ⟨f.atAttempt s.stc.node, o, n + 1, .driving⟩ } }) ∧
     (∀ f o n, s.hli.send = some ⟨f, o, n, .driving⟩ →
       exec .attemptSent s = .next { s with hli := { s.hli with send := none } })) ∧
  ((∀ (f : Frame) (o : FrameOwner) (k : Nat) (s : State), s.running = true →
     (s.hli.send = some ⟨f, o, k, .driving⟩ → k < 8 → s.readerBusy →
       exec .attemptCollided s = .next { s with hli := { s.hli with
         send := some ⟨f, o, k, .backoff ((s.ownId + 7 * k) % 16 + 1)⟩ } }) ∧
     (∀ n, s.hli.send = some ⟨f, o, k, .backoff n⟩ →
       exec .backoffExpiry s = .next { s with hli := { s.hli with send := some ⟨f, o, k, .quietWait⟩ } }) ∧
     (s.hli.send = some ⟨f, o, 8, .driving⟩ → s.readerBusy →
       (o = .unowned → exec .attemptCollided s = .next { s with hli := { s.hli with send := none } }) ∧
       (∀ m w md l x, f = .seek m w md l → o = .taker m → s.taker? m = some x → x.state = .seeking →
         exec .attemptCollided s = .next (noticeNeedFailed x .line
           { s with hli := { s.hli with send := none },
                    cue := { s.cue with takers := s.cue.takers.filter (fun y => y.seek != x.seek) } })) ∧
       (∀ d m x c, f = .take d m → o = .taker m → s.taker? m = some x → x.state = .taking → x.current = some c →
         (c.station ≠ d → exec .attemptCollided s = .next { s with hli := { s.hli with send := none } }) ∧
         (∀ y rest, c.station = d → x.offers = y :: rest → (s.pocket x.pocket).state ≠ .wrongTool →
           s.hli.urgent.length < 8 → s.stc.node ≠ .idConflict →
           exec .attemptCollided s = .next
             { s with
               cue := { s.cue with takers := s.cue.takers.map (fun z =>
                 if z.seek = x.seek then { x with current := some y, offers := rest, lastFrame := .take y.station x.seek }
                 else z) },
               hli := { s.hli with urgent := s.hli.urgent ++ [⟨.take y.station x.seek, .taker x.seek⟩], send := none } }) ∧
         (c.station = d → x.offers = [] → (s.pocket x.pocket).state ≠ .wrongTool → s.Bounded →
           ∃ t : State, exec .attemptCollided s = .next t ∧ t.hli = { s.hli with send := none } ∧
             t.cue = { s.cue with takers := s.cue.takers.filter (fun y => y.seek != x.seek) } ∧ s.Untargeted t x ∧
             (s.masked .needFailed = false → s.slk.notices.length < 16 → t.slk.notices = s.slk.notices ++
               [⟨.needFailed, some x.pocket, none, some x.seek, some .lapsed, []⟩]) ∧
             t.trg = s.trg ∧ t.pru = s.pru ∧ t.cck = s.cck ∧ t.stc = s.stc)) ∧
       (∀ d m r g q e, f = .offer d m r → o = .giver d m → s.giver? d m = some g → g.state = .offered → g.pocket = some q →
         q < 48 → s.Bounded → (s.pocket q).state = .reserved → s.entry? g.tool = some e → e.custody = .reserved →
         ∃ t : State, exec .attemptCollided s = .next t ∧ t.hli = { s.hli with send := none } ∧
           (t.pocket q).state = .stocked ∧ (t.pocket q).latch = .locked ∧ (t.pocket q).contents = (s.pocket q).contents ∧
           (∀ p, p ≠ q → t.pocket p = s.pocket p) ∧
           t.entry? g.tool = some { e with custody := .stocked } ∧ (∀ v, v ≠ g.tool → t.entry? v = s.entry? v) ∧
           t.giver? d m = none ∧ t.cue.lapsed.getLast? = some (d, m) ∧ t.cue.takers = s.cue.takers ∧
           t.rds = s.rds ∧ t.pru = s.pru ∧ t.slk = s.slk ∧ t.cck = s.cck ∧ t.stc = s.stc))) ∧
   (List.range 7).map (fun k => backoffSlots 16 (k + 1)) = [8, 15, 6, 13, 4, 11, 2] ∧
   (List.range 7).map (fun k => backoffSlots 5 (k + 1)) = [13, 4, 11, 2, 9, 16, 7] ∧
   (List.range 7).map (fun k => backoffSlots 12 (k + 1)) = [4, 11, 2, 9, 16, 7, 14] ∧
   (List.range 7).map (fun k => backoffSlots 14 (k + 1)) = [6, 13, 4, 11, 2, 9, 16])

/-- R101, R102, R103: a frame under the node's own ID, heard in RUN with no transfer open, puts the node into ID_CONFLICT with
both queues emptied and the send in flight ended; the register, the pockets and the notices stay. Heard in JOINING it does the
same, and the sweep of R59 starts, SUSPENDED while the node is not quiet; one that runs goes on (log entry 46). In ID_CONFLICT
already, it does nothing more.

R102, R131: entered from RUN, it leaves no taker transfer, and of the giver transfers those in RELEASING alone, each withdrawing;
no frame is queued. One open giver transfer ends as on LAPSE(WITHDRAWN) in its state; one open taker transfer closes with its
target untargeted and NEED_FAILED(LINE). With several open, their order is the model's choice (log entry 47). -/
def Obligations.ConflictEnters : Prop :=
  ∀ s : State, s.running = true →
    (s.stc.node = .run → s.readerBusy → s.cue.givers = [] → s.cue.takers = [] →
      exec .idConflict s = .next { s with stc := { s.stc with node := .idConflict },
                                          hli := { s.hli with urgent := [], routine := [], send := none } }) ∧
    (s.stc.node = .joining → s.rds.inFlight.isSome = true → s.cue.givers = [] → s.cue.takers = [] →
      (s.rds.sweep = .idle → s.quiet = false →
        exec .idConflict s = .next { s with stc := { s.stc with node := .idConflict },
                                            hli := { s.hli with urgent := [], routine := [], send := none },
                                            rds := { s.rds with sweep := .suspended, cursor := 0, awaiting := false,
                                                                table := List.replicate 48 .none } }) ∧
      ((s.rds.sweep = .suspended ∨ (s.rds.sweep = .active ∧ s.rds.awaiting = true)) →
        exec .idConflict s = .next { s with stc := { s.stc with node := .idConflict },
                                            hli := { s.hli with urgent := [], routine := [], send := none } })) ∧
    (s.stc.node = .idConflict → exec .idConflict s = .next s) ∧
    (∃ t : State, exec .idConflict s = .next t ∧ t.stc = { s.stc with node := .idConflict } ∧ t.cck = s.cck) ∧
    (s.stc.node = .run → s.readerBusy → s.Bounded →
      ∃ t : State, exec .idConflict s = .next t ∧ t.hli = { s.hli with urgent := [], routine := [], send := none } ∧
        t.cue.takers = [] ∧ (∀ g ∈ t.cue.givers, g.state = .releasing ∧ g.withdrawing = true) ∧
        (∀ g, s.cue.givers = [g] → s.cue.takers = [] → s.GiverEnded t g) ∧
        (∀ k, s.cue.givers = [] → s.cue.takers = [k] →
          (k.state = .seeking → t.pkc = s.pkc) ∧ (k.state ≠ .seeking → s.Untargeted t k) ∧
          (s.masked .needFailed = false → s.slk.notices.length < 16 →
            t.slk.notices = s.slk.notices ++ [⟨.needFailed, some k.pocket, none, some k.seek, some .line, []⟩])))

/-- R107, R109: an ANNOUNCE of more than 48 pockets, of another node state, or with a destination is discarded. With the
RAM-valid flag clear and no transfer with its station, every cached entry of that station is deleted and every other entry
stays. R108, R131: the one transfer with its station fails without a frame: a giver as on LAPSE(WITHDRAWN) in its state, with a
RECORD queued from TRANSIT; a taker past SEEKING with its target untargeted and NEED_FAILED(COUNTERPART_RESET). R110: with the
flag set, the last frame of the one transfer with its station is handed over once more, unless it is queued or in flight. With
several transfers, their order is the model's choice (log entry 47). -/
def Obligations.AnnounceActs : Prop :=
  ∀ (dst src : StationId) (a : Announce) (s : State), s.Bounded →
    ((48 < a.crib + a.magazine ∨ (a.nodeState ≠ 4 ∧ a.nodeState ≠ 5) ∨ dst ≠ 0) →
      exec (.announceReceived dst src a) s = .next s) ∧
    (s.hallTaken src = true → dst = 0 → a.crib + a.magazine ≤ 48 → (a.nodeState = 4 ∨ a.nodeState = 5) →
      s.readerBusy →
      (a.ramValid = false → s.giversOf src = [] → s.takersOf src = [] →
        ∃ t : State, exec (.announceReceived dst src a) s = .next t ∧
          t.trg.entries = s.trg.entries.filter (fun e => !(!e.here && decide (e.custodian = src))) ∧
          t.cue.givers = s.cue.givers ∧
          t.cue.takers = s.cue.takers.map (fun k =>
            if k.state = .seeking then { k with offers := k.offers.filter (fun o => o.station != src) } else k) ∧
          t.pkc = s.pkc ∧ t.rds = s.rds ∧ t.pru = s.pru ∧ t.hli = s.hli ∧ t.slk = s.slk ∧ t.cck = s.cck ∧
          t.stc = s.stc) ∧
      (a.ramValid = false → (∀ e ∈ s.trg.entries, e.custody = .foreign → e.custodian ≠ src) →
        (∀ g, s.cue.givers = [g] → g.seeker = src → s.cue.takers = [] →
          ∃ t : State, exec (.announceReceived dst src a) s = .next t ∧ s.GiverEnded t g ∧ t.cue.takers = [] ∧
            (g.state ≠ .transit → t.hli = s.hli) ∧
            (∀ e, g.state = .transit → t.entry? g.tool = some e → e.custody ≠ .foreign → s.cue.windows = [] →
              s.cue.waiting = [] → s.stc.node ≠ .idConflict →
              t.hli = { s.hli with routine := placeRecord e.record s.hli.routine })) ∧
        (∀ k, s.cue.givers = [] → s.cue.takers = [k] → k.state ≠ .seeking → k.counterpart = some src →
          ∃ t : State, exec (.announceReceived dst src a) s = .next t ∧ t.cue.givers = [] ∧ t.cue.takers = [] ∧
            s.Untargeted t k ∧ t.trg = s.trg ∧ t.hli = s.hli ∧
            (s.masked .needFailed = false → s.slk.notices.length < 16 → t.slk.notices = s.slk.notices ++
              [⟨.needFailed, some k.pocket, none, some k.seek, some .counterpartReset, []⟩]))) ∧
      (∀ k, a.ramValid = true → s.giversOf src = [] → s.takersOf src = [k] →
        (s.frameQueued k.lastFrame = true → exec (.announceReceived dst src a) s = .next s) ∧
        (s.frameQueued k.lastFrame = false → s.hli.urgent.length < 8 → s.stc.node ≠ .idConflict →
          exec (.announceReceived dst src a) s = .next { s with hli := { s.hli with
            urgent := s.hli.urgent ++ [⟨k.lastFrame, .unowned⟩] } })) ∧
      (∀ g, a.ramValid = true → s.giversOf src = [g] → s.takersOf src = [] →
        (s.frameQueued g.lastFrame = true → exec (.announceReceived dst src a) s = .next s) ∧
        (s.frameQueued g.lastFrame = false → s.hli.urgent.length < 8 → s.stc.node ≠ .idConflict →
          exec (.announceReceived dst src a) s = .next { s with hli := { s.hli with
            urgent := s.hli.urgent ++ [⟨g.lastFrame, .unowned⟩] } })))

/-- R16, R17: a malformed record is dropped. A record of a tool with no entry here and no claim window, in a register with room,
creates a cached entry of the record within this node's limits, with the newest heard rank; no frame and no notice follow, and
nothing else changes. R21: with the conflict flag a record drops a presence check of its tool, whatever has become of the entry.
That a record without the flag is merged at once, and a check left pending on a tool without a custody entry here keeps the
record it holds, is the model's choice (log entry 41).

R18, R19, R94: a record that supersedes a cached entry replaces it whole with the newest heard rank. A record without the
conflict flag that does not supersede the custody entry here is answered: a RECORD of the entry as it stands is queued, in place
of one of the tool already queued or behind the others, and the entry does not change.

R10, R20 to R23: a record that supersedes the custody entry here. Held on positive evidence: a physical claim makes it
QUARANTINE/DUPLICATE with the conflict flag, its version advanced by one; another record is answered by a reassertion, the
record's version plus one. Not held: the entry yields and takes the record whole, its pocket EMPTY. In a pocket without a door
sensor: a presence check begins with a read of the pocket; the check settles on that read, and a record that comes during it
replaces the one it holds if it supersedes it. A record with the conflict flag makes a tool physically here QUARANTINE/DUPLICATE
at its version, without a RECORD, and drops the check; on an AWAY or LOST entry it is merged as another. -/
def Obligations.RecordsMerge : Prop :=
  (∀ (src : StationId) (t : Tdr) (s : State),
     (recordOfTdr src t = none → exec (.recordReceived src t) s = .next s) ∧
     (∀ r, s.hallTaken src = true → s.takeTdr src t = some r → s.adoptionOpen r.tool = false →
       s.entry? r.tool = none → s.trg.entries.length < 256 → s.readerBusy →
       exec (.recordReceived src t) s = .next { s with trg := { s.trg with
         entries := insertEntry
           { tool := r.tool, kind := r.kind, version := r.version, custodian := r.custodian, custody := .foreign,
             heard := some r.heard, destination := r.destination, pocket := none, condition := r.condition,
             preset := r.preset, life := r.life, remainder := r.remainder, used := r.used, conflict := r.conflict,
             awayTimer := none } s.trg.entries,
         heard := r.tool :: s.trg.heard.filter (· != r.tool),
         checks := s.trg.checks.filter (fun c => !r.conflict || c.tool != r.tool) } })) ∧
  (∀ (src : StationId) (t : Tdr) (r : Record) (e : Entry) (s : State), s.hallTaken src = true →
     s.takeTdr src t = some r → s.entry? r.tool = some e → s.adoptionOpen r.tool = false → s.readerBusy →
     (e.custody = .foreign →
       (versionNewer r.version e.version = true ∨ (r.version - e.version).toNat = 32768 ∨
         (r.version = e.version ∧ r.custodian < e.custodian)) →
       exec (.recordReceived src t) s = .next { s with trg := { s.trg with
         entries := insertEntry r.cached s.trg.entries,
         heard := r.tool :: s.trg.heard.filter (· != r.tool),
         checks := s.trg.checks.filter (fun c => !r.conflict || c.tool != r.tool) } }) ∧
     (e.custody ≠ .foreign → s.transitChecking r.tool = false → r.conflict = false → s.checkPending r.tool = false →
       versionNewer r.version e.version = false → (r.version - e.version).toNat ≠ 32768 →
       ¬(r.version = e.version ∧ r.custodian < e.custodian) → s.stc.node ≠ .idConflict →
       ∃ x : State, exec (.recordReceived src t) s = .next x ∧ x = { s with hli := { s.hli with routine := x.hli.routine } } ∧
         (s.hli.routine.any (Frame.isRecordOf r.tool) = true →
           x.hli.routine = s.hli.routine.map (fun f => if f.isRecordOf r.tool then .record e.record else f)) ∧
         (s.hli.routine.any (Frame.isRecordOf r.tool) = false → s.hli.routine.length < 16 →
           x.hli.routine = s.hli.routine ++ [.record e.record]))) ∧
  (∀ (src : StationId) (t : Tdr) (r : Record) (e : Entry) (s : State), s.hallTaken src = true →
     s.takeTdr src t = some r → s.entry? r.tool = some e → e.custody ≠ .foreign → s.adoptionOpen r.tool = false →
     s.transitChecking r.tool = false → s.Bounded →
     (s.readerBusy → r.conflict = false → s.checkPending r.tool = false → r.Supersedes e → s.HeldHere e →
       ((r.heard = .stocked ∨ r.heard = .atGauge) → e.condition ≠ .quarantine .duplicate → s.giverOf? r.tool = none →
         ∃ x e', exec (.recordReceived src t) s = .next x ∧ x.entry? r.tool = some e' ∧
           e' = { e with condition := .quarantine .duplicate, conflict := true, version := e.version + 1 } ∧
           (∀ v, v ≠ r.tool → x.entry? v = s.entry? v) ∧ r.tool ∉ x.pru.queue ∧
           (s.stc.node ≠ .idConflict → x.hli = { s.hli with routine := placeRecord e'.record s.hli.routine })) ∧
       (r.heard ≠ .stocked → r.heard ≠ .atGauge →
         ∃ x e', exec (.recordReceived src t) s = .next x ∧ x.entry? r.tool = some e' ∧
           e' = { e with version := r.version + 1 } ∧ (∀ v, v ≠ r.tool → x.entry? v = s.entry? v) ∧ x.pru = s.pru ∧
           (s.stc.node ≠ .idConflict → x.hli = { s.hli with routine := placeRecord e'.record s.hli.routine }))) ∧
     (s.readerBusy → r.Supersedes e → s.giverOf? r.tool = none → s.cue.windows = [] → s.cue.waiting = [] →
       ((r.conflict = false ∧ s.checkPending r.tool = false) ∨
         (r.conflict = true ∧ (e.custody = .away ∨ e.custody = .lost))) →
       (((e.custody = .away ∨ e.custody = .lost) ∧ e.pocket = none) ∨
         ((e.custody = .stocked ∨ e.custody = .reserved) ∧ ∃ p, e.pocket = some p ∧ p < 48 ∧ s.hasDoor p = true ∧
           (s.pocket p).verified = false ∧ ((s.pocket p).state = .stocked ∨ (s.pocket p).state = .reserved))) →
       ∃ x, exec (.recordReceived src t) s = .next x ∧ x.entry? r.tool = some r.cached ∧
         (∀ v, v ≠ r.tool → x.entry? v = s.entry? v) ∧ x.trg.heard = r.tool :: s.trg.heard.filter (· != r.tool) ∧
         x.trg.checks = s.trg.checks.filter (fun c => c.tool != r.tool) ∧ r.tool ∉ x.pru.queue ∧
         x.hli = { s.hli with routine := s.hli.routine.filter (fun f => !f.isRecordOf r.tool) } ∧
         ∀ p, e.pocket = some p → (x.pocket p).state = .empty ∧ (x.pocket p).contents = none ∧
           (x.pocket p).latch = .locked ∧ (x.pocket p).verified = false) ∧
     (∀ p, r.conflict = false → s.checkPending r.tool = false → r.Supersedes e →
       (e.custody = .stocked ∨ e.custody = .reserved) → e.pocket = some p → s.present p = true → s.hasDoor p = false →
       (s.pocket p).state ≠ .fault → s.readerElsewhere p → p ∉ s.rds.queue →
       exec (.recordReceived src t) s = .next
         { s with trg := { s.trg with checks := s.trg.checks ++ [⟨r.tool, p, r⟩] },
                  rds := { s.rds with queue := s.rds.queue ++ [p] } }) ∧
     (s.readerBusy → r.conflict = false → s.checkPending r.tool = true →
       exec (.recordReceived src t) s = .next { s with trg := { s.trg with checks := s.trg.checks.map (fun c =>
         if c.tool = r.tool ∧ (versionNewer r.version c.record.version = true ∨
             (r.version - c.record.version).toNat = 32768 ∨
             (r.version = c.record.version ∧ r.custodian < c.record.custodian))
         then { c with record := r } else c) } }) ∧
     (s.readerBusy → r.conflict = true →
       (e.custody = .stocked ∨ e.custody = .reserved ∨ e.custody = .releasing ∨ e.custody = .atGauge) →
       s.giverOf? r.tool = none →
       ∃ x, exec (.recordReceived src t) s = .next x ∧ x.hli = s.hli ∧
         x.trg.checks = s.trg.checks.filter (fun c => c.tool != r.tool) ∧ (∀ v, v ≠ r.tool → x.entry? v = s.entry? v) ∧
         (e.condition ≠ .quarantine .duplicate → r.tool ∉ x.pru.queue ∧
           x.entry? r.tool = some { e with condition := .quarantine .duplicate, conflict := true }) ∧
         (e.condition = .quarantine .duplicate → x.entry? r.tool = some e))) ∧
  (∀ (d : Read) (c : PresenceCheck) (e : Entry) (s : State), s.running = true → s.Bounded → s.rds.inFlight = some d →
     s.rds.queue = [] → s.rds.sweep = .idle → s.rds.awaiting = false → s.trg.checks = [c] → c.pocket = d.pocket →
     c.record.tool = c.tool → d.pocket < 48 → (s.pocket d.pocket).state = .stocked →
     (s.pocket d.pocket).openRelease = false → (s.pocket d.pocket).readRequested = false →
     (s.pocket d.pocket).contents = some c.tool → toolIdValid c.tool = true → s.entry? c.tool = some e →
     e.custody = .stocked → e.pocket = some d.pocket → s.giverOf? c.tool = none → s.cue.windows = [] →
     s.cue.waiting = [] →
     (∃ x e', exec (.readAttemptEnd (.tag c.tool e.kind)) s = .next x ∧ x.entry? c.tool = some e' ∧ x.trg.checks = [] ∧
       ((c.record.heard = .stocked ∨ c.record.heard = .atGauge) → e.condition ≠ .quarantine .duplicate →
         e' = { e with condition := .quarantine .duplicate, conflict := true, version := e.version + 1 }) ∧
       (c.record.heard ≠ .stocked → c.record.heard ≠ .atGauge → e' = { e with version := c.record.version + 1 })) ∧
     (∃ x, exec (.readAttemptEnd .noTag) s = .next x ∧ x.entry? c.tool = some c.record.cached ∧ x.trg.checks = [] ∧
       (x.pocket d.pocket).state = .empty ∧ (x.pocket d.pocket).contents = none ∧
       (x.pocket d.pocket).latch = .locked ∧ (x.pocket d.pocket).verified = false))

/-- R136, R94, R95: a WHEREIS of a tool this node holds as a custody entry, in any custody state and under no adoption window,
queues one RECORD of the entry as it stands, in place of one of the tool already queued, or behind the others, the RECORD
nearest the head discarded when the queue is full. For a cached entry, for no entry, under an adoption window (R141) and in
ID_CONFLICT (R101) nothing is sent and nothing changes. -/
def Obligations.WhereisAnswered : Prop :=
  ∀ (src : StationId) (u : ToolId) (s : State), s.hallTaken src = true →
    (s.entry? u = none → exec (.whereisReceived src u) s = .next s) ∧
    (∀ e, s.entry? u = some e → e.custody = .foreign → exec (.whereisReceived src u) s = .next s) ∧
    (∀ e, s.entry? u = some e → e.custody ≠ .foreign → s.adoptionOpen u = false → s.stc.node ≠ .idConflict →
      ∃ t : State, exec (.whereisReceived src u) s = .next t ∧ t = { s with hli := { s.hli with routine := t.hli.routine } } ∧
        (s.hli.routine.any (Frame.isRecordOf u) = true →
          t.hli.routine = s.hli.routine.map (fun f => if f.isRecordOf u then .record e.record else f)) ∧
        (s.hli.routine.any (Frame.isRecordOf u) = false → s.hli.routine.length < 16 →
          t.hli.routine = s.hli.routine ++ [.record e.record]) ∧
        (s.hli.routine.any (Frame.isRecordOf u) = false → 16 ≤ s.hli.routine.length →
          s.hli.routine.any Frame.isRecord = true →
          t.hli.routine = s.hli.routine.eraseP Frame.isRecord ++ [.record e.record]) ∧
        (s.RoutineRoom → ∃ f ∈ t.hli.routine, f = .record e.record) ∧ t.entry? u = some e) ∧
    ((s.adoptionOpen u = true ∨ s.stc.node = .idConflict) → exec (.whereisReceived src u) s = .next s)

/-! ### Custody transfers and claim windows -/

/-- R113, R115, R124, R127: a SEEK that finds no candidate for a tool ID, that names a kind not defined here, or that repeats an open
transfer's seek has no effect. With candidates, room and a departure, the first candidate's pocket is reserved, its entry
RESERVED at its version, a giver transfer OFFERED with a hold of 6 s, and the OFFER of the entry handed to the urgent queue;
nothing else changes.

R124 to R127: which tools are candidates, and their order: FULL before PROVISIONAL, then more life, then the higher remainder,
then the lower preset age, then the lower pocket. R44: when a reservation is granted.

R87, R127: a kind seek without candidates moves one STOCKED tool of the kind that waits for a preset, or is READY past its age
limit, to the head of the Preset Queue: the one nearest the head, or failing that the one in the lowest pocket. Its tail makes
room. A READY one becomes NEEDS_PRESET first. With no such tool nothing changes. That every node promotes, crib pockets or not,
is the model's choice (log entry 29). -/
def Obligations.SeekIsOffered : Prop :=
  (∀ (src n mode minLife : Nat) (w : Want) (s : State),
    ((s.giver? src n).isSome = true ∨ (∃ k, w = .kind k ∧ s.kind? k = none) ∨ modeOfCode mode = none →
      exec (.seekReceived src n w mode minLife) s = .next s) ∧
    (∀ m u, modeOfCode mode = some m → w = .tool u → s.candidates w m minLife = [] →
      exec (.seekReceived src n w mode minLife) s = .next s) ∧
    (∀ m e q rest, s.hallTaken src = true → s.giver? src n = none → s.knowsWant w = true → modeOfCode mode = some m →
      s.candidates w m minLife = e :: rest → s.openTransfers < 8 → s.departureRoom = true → s.hli.urgent.length < 8 →
      s.stc.node ≠ .idConflict → s.entry? e.tool = some e → e.pocket = some q → s.reservable q = true →
      exec (.seekReceived src n w mode minLife) s = .next
        (modPocket q (fun k => { k with state := .reserved })
          { s with
            trg := { s.trg with entries := insertEntry { e with custody := .reserved } s.trg.entries },
            cue := { s.cue with givers := s.cue.givers ++
              [{ state := .offered, seeker := src, seek := n, want := w, mode := m, minLife := minLife, tool := e.tool,
                 pocket := some q, timer := some 6, expired := false, withdrawing := false,
                 lastFrame := .offer src n e.record }] },
            hli := { s.hli with urgent := s.hli.urgent ++ [⟨.offer src n e.record, .giver src n⟩] } }))) ∧
  (∀ (w : Want) (m : SeekMode) (minLife : Nat) (e : Entry) (s : State),
     (e ∈ s.candidates w m minLife ↔
       e ∈ s.trg.entries ∧ e.custody = .stocked ∧ e.condition = .ready ∧ (w = .kind e.kind ∨ w = .tool e.tool) ∧
       minLife ≤ e.life ∧ s.checkPending e.tool = false ∧ s.windowOpen e.tool = false ∧
       ∃ q p k, e.pocket = some q ∧ e.preset = some p ∧ s.kind? e.kind = some k ∧ p.age ≤ k.ageLimit ∧
         s.isCrib q = true ∧ s.moduleActive q = true ∧ (s.pocket q).state = .stocked ∧ (s.pocket q).latch = .locked ∧
         (s.pocket q).openRelease = false ∧ (s.pocket q).verified = true ∧ (s.pocket q).hold = false ∧
         (m = .unattended → p.cls = .full ∧ k.reserve ≤ e.life ∧ k.unattended = true ∧ s.cck.trust = true ∧
           s.cck.low = false ∧ s.stc.node ≠ .configFault)) ∧
     (s.candidates w m minLife).Pairwise (fun a b => b.rank.better a.rank = false) ∧
     (∀ q p, e.pocket = some q → e.preset = some p → e.heard = none →
       e.rank = ⟨decide (p.cls = .full), e.life, e.remainder, p.age, q⟩) ∧
     (∀ q, s.reservable q = true ↔ (s.pocket q).state = .stocked ∧ (s.pocket q).latch = .locked ∧
       (s.pocket q).openRelease = false ∧ (s.pocket q).verified = true ∧ (s.pocket q).hold = false ∧
       s.moduleActive q = true)) ∧
  (∀ (src n mode minLife k : Nat) (m : SeekMode) (d : KindEntry) (s : State), s.hallTaken src = true →
     s.giver? src n = none → modeOfCode mode = some m → s.kind? k = some d → s.candidates (.kind k) m minLife = [] →
     ((∀ e, ¬s.PromotionCandidate k d.ageLimit e) → exec (.seekReceived src n (.kind k) mode minLife) s = .next s) ∧
     (∀ e, s.Bounded → s.PromotionCandidate k d.ageLimit e →
       ((∃ pre post, s.pru.queue = pre ++ e.tool :: post ∧
           ∀ f, s.PromotionCandidate k d.ageLimit f → f.tool ∉ pre) ∨
         ∃ p, e.pocket = some p ∧ ∀ f, s.PromotionCandidate k d.ageLimit f →
           f.tool ∉ s.pru.queue ∧ (f = e ∨ ∃ q, f.pocket = some q ∧ p < q)) →
       ∃ t : State, exec (.seekReceived src n (.kind k) mode minLife) s = .next t ∧
         t.pru = { s.pru with queue := e.tool :: (s.pru.queue.filter (fun u => u != e.tool)).take 31 } ∧
         (∀ q, (t.pocket q).state = (s.pocket q).state ∧ (t.pocket q).contents = (s.pocket q).contents ∧
           (t.pocket q).latch = (s.pocket q).latch) ∧
         (e.condition ≠ .ready → t.trg = s.trg ∧ t.hli = s.hli ∧ t.slk = s.slk) ∧
         (e.condition = .ready → s.adoptionOpen e.tool = false →
           t.entry? e.tool = some { e with condition := .needsPreset, version := e.version + 1 } ∧
           (∀ v, v ≠ e.tool → t.entry? v = s.entry? v) ∧
           (s.stc.node ≠ .idConflict → t.hli.urgent = s.hli.urgent ∧ t.hli.send = s.hli.send ∧
             t.hli.joinTimer = s.hli.joinTimer ∧ t.hli.routine = placeRecord
               { e.record with condition := .needsPreset, version := e.version + 1 } s.hli.routine)) ∧
         t.rds = s.rds ∧ t.cue = s.cue ∧ t.cck = s.cck ∧ t.stc = s.stc))

/-- R116, R117: an OFFER for no taker transfer of this node, one whose TDR fails R16, and one the transfer's test refuses are
ignored. One that passes takes its place in the list of a transfer in SEEKING; the register is not touched. The list holds four
offers at most, one from each giver: the new one replaces the sender's older one, the others stay while there is room, and the
order is kept, no offer standing behind one it is better than; of five, the one dropped is better than none of the four kept.
An offer is better with class FULL against PROVISIONAL, then with more life, then with the higher remainder, then with the
lower preset age, then from the lower station ID. The offer is kept as sent, without R16's adjustments: the model's choice (log
entry 22).

R117: in TAKING an OFFER of the counterpart has the TAKE handed over once more, unless it is queued or in flight; one of
another station, and one in AWAITING_ARRIVAL, is ignored. -/
def Obligations.OfferIsRanked : Prop :=
  (∀ (src n : Nat) (t : Tdr) (s : State), s.hallTaken src = true →
    (s.taker? n = none → exec (.offerReceived src n t) s = .next s) ∧
    (∀ k, s.taker? n = some k → k.state = .seeking →
      (recordOfTdr src t = none → exec (.offerReceived src n t) s = .next s) ∧
      (∀ r, recordOfTdr src t = some r →
        ((r.heard ≠ .stocked ∨ r.condition ≠ .ready ∨ r.preset = none ∨ wantAccepts k.want r.tool r.kind = false ∨
            r.life < k.minLife ∨ (k.mode = .unattended ∧ r.preset.map (·.cls) ≠ some .full)) →
          exec (.offerReceived src n t) s = .next s) ∧
        (r.heard = .stocked → r.condition = .ready → wantAccepts k.want r.tool r.kind = true → k.minLife ≤ r.life →
          (∃ p, r.preset = some p ∧ (k.mode = .attended ∨ p.cls = .full)) →
          exec (.offerReceived src n t) s = .next { s with cue := { s.cue with
            takers := s.cue.takers.map (fun x =>
              if x.seek = k.seek then { k with offers := placeOffer ⟨src, r⟩ k.offers } else x) } }))) ∧
    (∀ k, s.taker? n = some k → k.state = .taking →
      (k.counterpart ≠ some src → exec (.offerReceived src n t) s = .next s) ∧
      (k.counterpart = some src →
        (s.frameQueued k.lastFrame = true → exec (.offerReceived src n t) s = .next s) ∧
        (s.frameQueued k.lastFrame = false → s.hli.urgent.length < 8 → s.stc.node ≠ .idConflict →
          exec (.offerReceived src n t) s = .next { s with hli := { s.hli with
            urgent := s.hli.urgent ++ [⟨k.lastFrame, .unowned⟩] } }))) ∧
    (∀ k, s.taker? n = some k → k.state = .awaitingArrival → exec (.offerReceived src n t) s = .next s)) ∧
  (∀ (o : Offer) (l : List Offer),
    (placeOffer o l).length ≤ 4 ∧ (∀ x ∈ placeOffer o l, x = o ∨ (x ∈ l ∧ x.station ≠ o.station)) ∧
    (l.length < 4 → o ∈ placeOffer o l ∧ ∀ x ∈ l, x.station ≠ o.station → x ∈ placeOffer o l) ∧
    (l.Pairwise (fun x y => y.rank.better x.rank = false) →
      (placeOffer o l).Pairwise (fun x y => y.rank.better x.rank = false) ∧
      ∀ x, (x = o ∨ (x ∈ l ∧ x.station ≠ o.station)) → x ∉ placeOffer o l →
        (placeOffer o l).length = 4 ∧ ∀ y ∈ placeOffer o l, x.rank.better y.rank = false)) ∧
  (∀ (o : Offer) (p : Preset), o.record.preset = some p →
    o.rank = ⟨decide (p.cls = .full), o.record.life, o.record.remainder, p.age, o.station⟩) ∧
  (∀ a b : Rank, a.better b = true ↔
    (a.full = true ∧ b.full = false) ∨
    (a.full = b.full ∧ (b.life < a.life ∨
      (a.life = b.life ∧ (b.remainder < a.remainder ∨
        (a.remainder = b.remainder ∧ (a.age < b.age ∨ (a.age = b.age ∧ a.last < b.last))))))))

/-- R44, R128: a TAKE for a giver transfer in OFFERED releases its pocket: RELEASING with latch OPEN, the entry RELEASING at its
version, the release timer 300 s; in RELEASING it is ignored. A TAKE of no open transfer is answered LAPSE(TOO_LATE) when the
pair is in the lapsed list and LAPSE(NOT_YOURS) when it is not. -/
def Obligations.TakeReleases : Prop :=
  ∀ (src n : Nat) (s : State), s.hallTaken src = true → s.readerBusy →
    (∀ g q e, s.giver? src n = some g → g.state = .offered → g.pocket = some q → s.readerElsewhere q →
      s.entry? g.tool = some e → s.Bounded → q < 48 → (s.pocket q).latch = .locked →
      ∃ t : State, exec (.takeReceived src n) s = .next t ∧
        (t.pocket q).state = .releasing ∧ (t.pocket q).latch = .opened ∧
        (t.pocket q).contents = (s.pocket q).contents ∧
        (∀ p, p ≠ q → t.pocket p = s.pocket p) ∧
        t.entry? g.tool = some { e with custody := .releasing } ∧ (∀ v, v ≠ g.tool → t.entry? v = s.entry? v) ∧
        t.giver? src n = some { g with state := .releasing, timer := some 300 } ∧
        t.cue.takers = s.cue.takers ∧ t.hli = s.hli ∧ t.pru = s.pru ∧ t.cck = s.cck ∧ t.stc = s.stc) ∧
    (∀ g, s.giver? src n = some g → g.state = .releasing → exec (.takeReceived src n) s = .next s) ∧
    (s.giver? src n = none → s.hli.urgent.length < 8 → s.stc.node ≠ .idConflict →
      exec (.takeReceived src n) s = .next { s with hli := { s.hli with urgent := s.hli.urgent ++
        [⟨.lapse src n (if s.cue.lapsed.contains (src, n) then .tooLate else .notYours), .unowned⟩] } })

/-- R119, R131: a LAPSE of the seeker for a giver transfer in OFFERED: the pocket RESERVED is STOCKED again, the entry STOCKED at its
version, the transfer closed with its pair at the tail of the lapsed list. A LAPSE for a taker in SEEKING removes the sender's
offer from its list. A LAPSE for no transfer is ignored. No frame is sent in any of these cases.

R119: in TAKING a LAPSE of another station removes its offer; one of the counterpart makes the next offer the current one, its
TAKE handed over, the deadline running on, and a wrong tool in the target is read again. With no offer left, and in
AWAITING_ARRIVAL, it closes the transfer with NEED_FAILED(LAPSED) and its target untargeted; in AWAITING_ARRIVAL one of another
station is ignored. That a LAPSE acts so whatever its reason is the model's reading (log entry 28). -/
def Obligations.LapseEnds : Prop :=
  ∀ (src n : Nat) (reason : LapseReason) (s : State), s.hallTaken src = true → s.readerBusy →
    (s.giver? src n = none → s.taker? n = none → exec (.lapseReceived src n reason) s = .next s) ∧
    (∀ k, s.giver? src n = none → s.taker? n = some k → k.state = .seeking →
      exec (.lapseReceived src n reason) s = .next { s with cue := { s.cue with takers := s.cue.takers.map (fun x =>
        if x.seek = k.seek then { k with offers := k.offers.filter (fun o => o.station != src) } else x) } }) ∧
    (∀ g q e, s.giver? src n = some g → s.taker? n = none → g.state = .offered → g.pocket = some q → q < 48 →
      s.Bounded → (s.pocket q).state = .reserved → s.entry? g.tool = some e → e.custody = .reserved →
      ∃ t : State, exec (.lapseReceived src n reason) s = .next t ∧
        (t.pocket q).state = .stocked ∧ (t.pocket q).latch = .locked ∧
        (t.pocket q).contents = (s.pocket q).contents ∧ (∀ p, p ≠ q → t.pocket p = s.pocket p) ∧
        t.entry? g.tool = some { e with custody := .stocked } ∧ (∀ v, v ≠ g.tool → t.entry? v = s.entry? v) ∧
        t.giver? src n = none ∧ t.cue.lapsed.getLast? = some (src, n) ∧ t.cue.takers = s.cue.takers ∧
        t.hli = s.hli ∧ t.rds = s.rds ∧ t.pru = s.pru ∧ t.slk = s.slk ∧ t.cck = s.cck ∧ t.stc = s.stc) ∧
    (∀ k o, s.giver? src n = none → s.taker? n = some k → k.current = some o →
      (k.state = .taking → src ≠ o.station →
        exec (.lapseReceived src n reason) s = .next { s with cue := { s.cue with takers := s.cue.takers.map (fun x =>
          if x.seek = k.seek then { k with offers := k.offers.filter (fun o => o.station != src) } else x) } }) ∧
      (k.state = .awaitingArrival → src ≠ o.station → exec (.lapseReceived src n reason) s = .next s) ∧
      (∀ x rest, k.state = .taking → src = o.station → k.offers = x :: rest → s.hli.urgent.length < 8 →
        s.stc.node ≠ .idConflict →
        ∃ t : State, exec (.lapseReceived src n reason) s = .next t ∧
          t.cue = { s.cue with takers := s.cue.takers.map (fun y =>
            if y.seek = k.seek then { k with current := some x, offers := rest, lastFrame := .take x.station k.seek }
            else y) } ∧
          t.hli = { s.hli with urgent := s.hli.urgent ++ [⟨.take x.station k.seek, .taker k.seek⟩] } ∧
          ((s.pocket k.pocket).state ≠ .wrongTool → t.pkc = s.pkc ∧ t.rds = s.rds) ∧
          ((s.pocket k.pocket).state = .wrongTool → s.Bounded → k.pocket < 48 → s.readerElsewhere k.pocket →
            (t.pocket k.pocket).state = .wrongTool ∧ (t.pocket k.pocket).readRequested = true ∧
            k.pocket ∈ t.rds.queue ∧ ∀ p, p ≠ k.pocket → t.pocket p = s.pocket p) ∧
          t.trg = s.trg ∧ t.pru = s.pru ∧ t.slk = s.slk ∧ t.cck = s.cck ∧ t.stc = s.stc) ∧
      (src = o.station → ((k.state = .taking ∧ k.offers = [] ∧ (s.pocket k.pocket).state ≠ .wrongTool) ∨
          k.state = .awaitingArrival) → s.Bounded →
        ∃ t : State, exec (.lapseReceived src n reason) s = .next t ∧
          t.cue = { s.cue with takers := s.cue.takers.filter (fun x => x.seek != k.seek) } ∧ s.Untargeted t k ∧
          (s.masked .needFailed = false → s.slk.notices.length < 16 →
            t.slk.notices = s.slk.notices ++ [⟨.needFailed, some k.pocket, none, some k.seek, some .lapsed, []⟩]) ∧
          t.trg = s.trg ∧ t.hli = s.hli ∧ t.pru = s.pru ∧ t.cck = s.cck ∧ t.stc = s.stc))

/-- R120: a RELEASED whose TDR fails R16 is dropped. One of the expected tool from the counterpart of a taker in TAKING creates
the cached entry, as a RECORD does (R21 for the conflict flag), and brings the transfer to AWAITING_ARRIVAL with a deadline of
900 s; one for no such transfer leaves the cached entry alone. That one without the flag leaves a presence check still pending
on the tool as it was is the model's choice (log entry 41).

R133: a RECEIVED that matches a giver transfer in TRANSIT: the entry becomes cached at the sender with the version received and
heard custody STOCKED, its other TDR fields kept, with the newest heard rank; a queued RECORD of the tool is withdrawn and the
transfer closes. In RELEASING the same, and the pocket is EMPTY, latched and unverified. With no transfer the entry becomes
cached so when it is LOST; a RECEIVED for another entry, or for no entry, is ignored. -/
def Obligations.ReleasedAndReceived : Prop :=
  (∀ (src n : Nat) (t : Tdr) (s : State), s.hallTaken src = true →
     (recordOfTdr src t = none → exec (.releasedReceived src n t) s = .next s) ∧
     (∀ r, s.takeTdr src t = some r → s.adoptionOpen r.tool = false → s.entry? r.tool = none →
       s.trg.entries.length < 256 → s.readerBusy →
       (s.taker? n = none →
         exec (.releasedReceived src n t) s = .next { s with trg := { s.trg with
           entries := insertEntry r.cached s.trg.entries, heard := r.tool :: s.trg.heard.filter (· != r.tool),
           checks := s.trg.checks.filter (fun c => !r.conflict || c.tool != r.tool) } }) ∧
       (∀ k, s.taker? n = some k → k.state = .taking → k.counterpart = some src → k.expected = some r.tool →
         exec (.releasedReceived src n t) s = .next
           { s with
             trg := { s.trg with entries := insertEntry r.cached s.trg.entries,
                                 heard := r.tool :: s.trg.heard.filter (· != r.tool),
                                 checks := s.trg.checks.filter (fun c => !r.conflict || c.tool != r.tool) },
             cue := { s.cue with takers := s.cue.takers.map (fun x =>
               if x.seek = k.seek then { k with state := .awaitingArrival, timer := 900 } else x) } }))) ∧
  (∀ (src n : Nat) (u : ToolId) (v : Version) (s : State), s.hallTaken src = true →
     (s.giver? src n = none → (s.entry? u = none ∨ ∃ e, s.entry? u = some e ∧ e.custody ≠ .lost) →
       exec (.receivedFrame src n u v) s = .next s) ∧
     (∀ g e, s.giver? src n = some g → g.tool = u → g.state = .transit → s.entry? u = some e → s.Bounded →
       s.window? u = none → s.cue.waiting = [] → s.pru.queue.contains u = false → s.readerBusy →
       exec (.receivedFrame src n u v) s = .next
         { s with
           trg := { s.trg with
             entries := insertEntry { e with custodian := src, version := v, custody := .foreign, heard := some .stocked,
                                             destination := none, pocket := none, awayTimer := none } s.trg.entries,
             heard := u :: s.trg.heard.filter (· != u) },
           cue := { s.cue with
             givers := s.cue.givers.filter (fun x => !(x.seeker == g.seeker && x.seek == g.seek)),
             lapsed := addLapsed (g.seeker, g.seek) s.cue.lapsed },
           hli := { s.hli with routine := s.hli.routine.filter (fun f => !f.isRecordOf u) } }) ∧
     (∀ g e q, s.giver? src n = some g → g.tool = u → g.state = .releasing → g.pocket = some q → s.entry? u = some e →
       s.Bounded → q < 48 → (s.pocket q).state = .releasing → (s.pocket q).readRequested = false → s.window? u = none →
       s.cue.waiting = [] → s.pru.queue.contains u = false → s.readerBusy →
       ∃ t : State, exec (.receivedFrame src n u v) s = .next t ∧
         (t.pocket q).state = .empty ∧ (t.pocket q).contents = none ∧ (t.pocket q).latch = .locked ∧
         (t.pocket q).verified = false ∧ (∀ p, p ≠ q → t.pocket p = s.pocket p) ∧
         t = { s with
           trg := { s.trg with
             entries := insertEntry { e with custodian := src, version := v, custody := .foreign, heard := some .stocked,
                                             destination := none, pocket := none, awayTimer := none } s.trg.entries,
             heard := u :: s.trg.heard.filter (· != u) },
           cue := { s.cue with
             givers := s.cue.givers.filter (fun x => !(x.seeker == g.seeker && x.seek == g.seek)),
             lapsed := addLapsed (g.seeker, g.seek) s.cue.lapsed },
           hli := { s.hli with routine := s.hli.routine.filter (fun f => !f.isRecordOf u) },
           pkc := { s.pkc with pockets := t.pkc.pockets } }) ∧
     (∀ e, s.giver? src n = none → s.entry? u = some e → e.custody = .lost → s.pru.queue.contains u = false →
       exec (.receivedFrame src n u v) s = .next
         { s with
           trg := { s.trg with
             entries := insertEntry { e with custodian := src, version := v, custody := .foreign, heard := some .stocked,
                                             destination := none, pocket := none, awayTimer := none } s.trg.entries,
             heard := u :: s.trg.heard.filter (· != u) },
           hli := { s.hli with routine := s.hli.routine.filter (fun f => !f.isRecordOf u) } }))

/-- R118, R122, R44: the window of a taker in SEEKING closes: with no offer the transfer fails with NO_OFFER; with a pocket that may
be targeted it takes the best offer: TAKING with deadline 320 s, the pocket AWAITING with latch OPEN and the seek number, TAKE
handed to the offer's giver. The deadline's expiry closes a transfer past SEEKING with TIMEOUT and its pocket EMPTY and
latched; no frame is sent. R44: a pocket may be targeted when it is a magazine pocket of an ACTIVE module, EMPTY and not held;
the window of a taker whose pocket is none fails with POCKET. -/
def Obligations.TakerTimersExpire : Prop :=
  ∀ (k : Taker) (s : State), s.running = true → s.taker? k.seek = some k → s.Bounded → s.readerElsewhere k.pocket →
    (k.state = .seeking → k.timer = 0 → k.offers = [] →
      exec (.windowTimerExpiry k.seek) s = .next (noticeNeedFailed k .noOffer { s with cue := { s.cue with
        takers := s.cue.takers.filter (fun x => x.seek != k.seek) } })) ∧
    (s.targetable k.pocket = true ↔ k.pocket < 48 ∧ s.isMagazine k.pocket = true ∧ s.moduleActive k.pocket = true ∧
      (s.pocket k.pocket).state = .empty ∧ (s.pocket k.pocket).hold = false) ∧
    (k.state = .seeking → k.timer = 0 → k.offers ≠ [] → s.targetable k.pocket = false →
      exec (.windowTimerExpiry k.seek) s = .next (noticeNeedFailed k .pocket { s with cue := { s.cue with
        takers := s.cue.takers.filter (fun x => x.seek != k.seek) } })) ∧
    (∀ o rest, k.state = .seeking → k.timer = 0 → k.offers = o :: rest → s.targetable k.pocket = true →
      (s.pocket k.pocket).latch = .locked → s.hli.urgent.length < 8 → s.stc.node ≠ .idConflict →
      ∃ t : State, exec (.windowTimerExpiry k.seek) s = .next t ∧
        t.taker? k.seek = some { k with state := .taking, timer := 320, current := some o, offers := rest,
                                        lastFrame := .take o.station k.seek } ∧
        (t.pocket k.pocket).state = .awaiting ∧ (t.pocket k.pocket).latch = .opened ∧
        (t.pocket k.pocket).target = some k.seek ∧ (∀ p, p ≠ k.pocket → t.pocket p = s.pocket p) ∧
        t.hli = { s.hli with urgent := s.hli.urgent ++ [⟨.take o.station k.seek, .taker k.seek⟩] } ∧
        t.trg = s.trg ∧ t.pru = s.pru ∧ t.cck = s.cck ∧ t.stc = s.stc ∧ t.cue.givers = s.cue.givers) ∧
    (k.state ≠ .seeking → k.timer = 0 → k.pocket < 48 → (s.pocket k.pocket).state = .awaiting →
      (s.pocket k.pocket).readRequested = false →
      ∃ t : State, exec (.deadlineExpiry k.seek) s = .next t ∧
        t.cue = { s.cue with takers := s.cue.takers.filter (fun x => x.seek != k.seek) } ∧
        (t.pocket k.pocket).state = .empty ∧ (t.pocket k.pocket).latch = .locked ∧
        (t.pocket k.pocket).target = none ∧ (∀ p, p ≠ k.pocket → t.pocket p = s.pocket p) ∧
        (s.masked .needFailed = false → s.slk.notices.length < 16 →
          t.slk.notices = s.slk.notices ++ [⟨.needFailed, some k.pocket, none, some k.seek, some .timeout, []⟩]) ∧
        t.trg = s.trg ∧ t.rds = s.rds ∧ t.pru = s.pru ∧ t.hli = s.hli ∧ t.cck = s.cck ∧ t.stc = s.stc)

/-- R128, R130: the hold of a giver in OFFERED expires: the pocket STOCKED, the entry STOCKED at its version, the transfer closed
without a frame. The release timer of a giver in RELEASING expires: the expired flag is set, and with the door CLOSED and no
read requested a read of the pocket is; with the door OPEN the read waits. -/
def Obligations.GiverTimersExpire : Prop :=
  ∀ (g : Giver) (q : PocketNo) (s : State), s.running = true → s.giver? g.seeker g.seek = some g → g.pocket = some q →
    q < 48 → s.Bounded →
    (∀ e, g.state = .offered → g.timer = some 0 → (s.pocket q).state = .reserved → s.entry? g.tool = some e →
      e.custody = .reserved →
      ∃ t : State, exec (.holdTimerExpiry g.seeker g.seek) s = .next t ∧
        (t.pocket q).state = .stocked ∧ (t.pocket q).contents = (s.pocket q).contents ∧
        (∀ p, p ≠ q → t.pocket p = s.pocket p) ∧ t.entry? g.tool = some { e with custody := .stocked } ∧
        (∀ v, v ≠ g.tool → t.entry? v = s.entry? v) ∧ t.giver? g.seeker g.seek = none ∧
        t.cue.lapsed.getLast? = some (g.seeker, g.seek) ∧ t.cue.takers = s.cue.takers ∧
        t.rds = s.rds ∧ t.pru = s.pru ∧ t.hli = s.hli ∧ t.slk = s.slk ∧ t.cck = s.cck ∧ t.stc = s.stc) ∧
    (g.state = .releasing → g.timer = some 0 → g.expired = false → s.readerElsewhere q → s.present q = true →
      ∃ t : State, exec (.releaseTimerExpiry g.seeker g.seek) s = .next t ∧
        t.giver? g.seeker g.seek = some { g with expired := true } ∧
        ((s.pocket q).door = .closed → (s.pocket q).readRequested = false →
          (t.pocket q).readRequested = true ∧ q ∈ t.rds.queue) ∧
        ((s.pocket q).door = .opened → t.pkc = s.pkc ∧ t.rds = s.rds) ∧
        (t.pocket q).state = (s.pocket q).state ∧ (∀ p, p ≠ q → t.pocket p = s.pocket p) ∧
        t.trg = s.trg ∧ t.pru = s.pru ∧ t.hli = s.hli ∧ t.slk = s.slk ∧ t.cck = s.cck ∧ t.stc = s.stc)

/-- R134, R135, R151: the away timer of an AWAY entry at 0 makes it LOST, its version advanced by one and one RECORD queued. That of
a TRANSIT entry at 0 begins a transit check: a window of 3 s and a WHEREIS, the entry as it was. The window's expiry makes the
entry LOST as well, closes the giver transfer and the window. -/
def Obligations.AwayTimersExpire : Prop :=
  ∀ (u : ToolId) (e : Entry) (s : State), s.running = true → s.Bounded → s.entry? u = some e → e.pocket = none →
    (e.custody = .away → e.awayTimer = some 0 → s.adoptionOpen u = false →
      exec (.awayTimerExpiry u) s = .next (handRecord u (putEntry
        { e with custody := .lost, destination := none, awayTimer := none, version := e.version + 1 } s))) ∧
    (e.custody = .transit → s.transitsDue = [u] → s.cue.windows.length < 4 → s.hli.urgent.length < 8 →
      s.stc.node ≠ .idConflict →
      exec (.transitTimerExpiry u) s = .next
        { s with cue := { s.cue with windows := s.cue.windows ++ [⟨u, .transitCheck, 3⟩] },
                 hli := { s.hli with urgent := s.hli.urgent ++ [⟨.whereis u, .window u⟩] } }) ∧
    (s.window? u = some ⟨u, .transitCheck, 0⟩ → s.cue.waiting = [] → s.readerBusy →
      ∃ t : State, exec (.transitCheckExpiry u) s = .next t ∧
        t.entry? u = some { e with custody := .lost, destination := none, awayTimer := none, version := e.version + 1 } ∧
        (∀ v, v ≠ u → t.entry? v = s.entry? v) ∧ t.window? u = none ∧
        (∀ g, s.giverOf? u = some g → t.giver? g.seeker g.seek = none) ∧ t.cue.takers = s.cue.takers ∧
        t.pkc = s.pkc ∧ t.rds = s.rds ∧ t.pru = s.pru ∧ t.slk = s.slk ∧ t.cck = s.cck ∧ t.stc = s.stc)

/-- R143, R144: an adoption window expires. With nothing heard and no fallback the entry keeps its starting values at version 1; from
a fallback it takes the preset, the life, the used minutes and the condition, at the fallback's version plus one; a heard
record that is a physical claim or carries the conflict flag makes it QUARANTINE/DUPLICATE with the conflict flag, at the heard
version plus one, with its preset, life and used minutes; another heard record gives its values as a fallback does. Data of another kind than the tag's give no preset,
and a condition other than DUPLICATE and OPERATOR becomes NEEDS_PRESET. The window closes and one RECORD of the entry is handed
over. That the life is clamped and the condition adjusted by the kind of the entry, when the data are taken, is the model's
choice (log entry 16), and that a clamped life keeps its seconds remainder its reading (log entry 17). -/
def Obligations.AdoptionSettles : Prop :=
  ∀ (u : ToolId) (x : Place) (fb h : Option Record) (e : Entry) (s : State), s.running = true → s.Bounded →
    s.window? u = some ⟨u, .adoption x fb h, 0⟩ → s.cue.waiting = [] → s.readerBusy → s.entry? u = some e →
    ∃ (t : State) (e' : Entry), exec (.claimWindowExpiry u) s = .next t ∧ t.entry? u = some e' ∧
      (∀ v, v ≠ u → t.entry? v = s.entry? v) ∧ t.window? u = none ∧
      (e'.tool = e.tool ∧ e'.kind = e.kind ∧ e'.custodian = e.custodian ∧ e'.custody = e.custody ∧ e'.pocket = e.pocket) ∧
      (fb = none → h = none → e' = { e with version := 1 }) ∧
      (∀ f, fb = some f → h = none → f.kind = e.kind →
        e'.version = f.version + 1 ∧ e'.preset = f.preset ∧ e'.life = min f.life (s.fullLife e.kind) ∧
        e'.remainder = f.remainder ∧ e'.used = f.used ∧ e'.condition = adjustCondition f.condition f.preset.isSome (min f.life (s.fullLife e.kind)) ∧
        e'.conflict = decide (e'.condition = .quarantine .duplicate)) ∧
      (∀ r, h = some r → (r.heard = .stocked ∨ r.heard = .atGauge ∨ r.conflict = true) →
        e'.version = r.version + 1 ∧ e'.condition = .quarantine .duplicate ∧ e'.conflict = true ∧
        e'.preset = (if r.kind = e.kind then r.preset else none) ∧ e'.life = min r.life (s.fullLife e.kind) ∧
        e'.remainder = r.remainder ∧ e'.used = r.used) ∧
      (∀ r, h = some r → r.heard ≠ .stocked → r.heard ≠ .atGauge → r.conflict = false → r.kind = e.kind →
        e'.version = r.version + 1 ∧ e'.preset = r.preset ∧ e'.life = min r.life (s.fullLife e.kind) ∧
        e'.remainder = r.remainder ∧ e'.used = r.used ∧
        e'.condition = adjustCondition r.condition r.preset.isSome (min r.life (s.fullLife e.kind)) ∧
        e'.conflict = decide (e'.condition = .quarantine .duplicate)) ∧
      (∀ d, ((fb = some d ∧ h = none) ∨ (h = some d ∧ d.heard ≠ .stocked ∧ d.heard ≠ .atGauge ∧ d.conflict = false)) →
        d.kind ≠ e.kind →
        e'.version = d.version + 1 ∧ e'.preset = none ∧ e'.life = min d.life (s.fullLife e.kind) ∧ e'.used = d.used ∧
        e'.condition = (if d.condition = .quarantine .duplicate ∨ d.condition = .quarantine .operator then d.condition
                        else .needsPreset) ∧
        e'.conflict = decide (e'.condition = .quarantine .duplicate)) ∧
      (e.custody ≠ .foreign → s.stc.node ≠ .idConflict → s.hli.routine.length < 16 →
        s.hli.routine.any (Frame.isRecordOf u) = false → t.hli.routine = s.hli.routine ++ [.record e'.record]) ∧
      t.rds = s.rds ∧ t.slk = s.slk ∧ t.cck = s.cck ∧ t.stc = s.stc

/-! ### The station link -/

/-- R153, R154: a station-link command other than STATUS. With the receiver off (LOADING, no main power) it is lost; while the
receiver is busy it is discarded with OVERRUN set; in HUNTING and RESTORING it is answered BUSY and in CONFIG_FAULT REFUSED,
with no other effect.

R153, R154, R155, R156: STATUS is answered in every state in which the receiver is on, with nothing else changed. A frame that
ends while the receiver is busy sets OVERRUN only; the end of the reply frees the receiver. An unknown code is answered
REFUSED, a known code with another payload length RANGE; that the node state's BUSY or REFUSED comes before these two answers is
the model's choice (log entry 32). In CONFIG_FAULT the status word shows no clock, conflict, sweep or
count. -/
def Obligations.ReceiverActs : Prop :=
  (∀ (c : Instr) (code : Nat) (s : State), linkCode c = some code →
     ((s.stc.powered = false ∨ s.stc.node = .loading) → exec c s = .next s) ∧
     (s.stc.powered = true → s.stc.node ≠ .loading → s.slk.reply.isSome = true →
       exec c s = .next { s with slk := { s.slk with sticky := { s.slk.sticky with overrun := true } } }) ∧
     (s.stc.powered = true → (s.stc.node = .hunting ∨ s.stc.node = .restoring) → s.slk.reply = none →
       exec c s = .next (s.replied code .busy .none)) ∧
     (s.stc.powered = true → s.stc.node = .configFault → s.slk.reply = none →
       exec c s = .next (s.replied code .refused .none))) ∧
  (∀ s : State, s.stc.powered = true → s.stc.node ≠ .loading →
     (s.slk.reply = none → exec .status s = .next (s.replied 0x10 .ok .none)) ∧
     (s.slk.reply.isSome = true →
       exec .status s = .next { s with slk := { s.slk with sticky := { s.slk.sticky with overrun := true } } } ∧
       exec .commandOverrun s = .next { s with slk := { s.slk with sticky := { s.slk.sticky with overrun := true } } }) ∧
     exec .replySent s = .next { s with slk := { s.slk with reply := none } } ∧
     (∀ code payload, s.takesCommands →
       (commandLength code = none → exec (.unknownCommand code payload) s = .next (s.replied code .refused .none)) ∧
       ((commandLength code).isSome = true → exec (.unknownCommand code payload) s = .next (s.replied code .range .none))) ∧
     (s.stc.node = .configFault → ∃ b : Byte, s.statusWord =
       [byteOfBits [s.slk.sticky.seqError, s.slk.sticky.overrun, s.slk.sticky.noticeOverflow, s.slk.sticky.clamped],
        b, 7, 0, 0] ∧ b.getLsbD 0 = s.cck.low ∧ b.getLsbD 1 = false ∧ b.getLsbD 2 = false ∧ b.getLsbD 3 = true ∧
        b.getLsbD 5 = false))

/-- R157: CLEAR clears the four sticky bits and replies OK with the status word formed after the clearing; nothing else changes.
In HUNTING and RESTORING it is answered BUSY and in CONFIG_FAULT REFUSED, and the sticky bits stay. -/
def Obligations.ClearClears : Prop :=
  ∀ s : State, s.stc.powered = true → s.slk.reply = none →
    (s.running = true → exec .clear s = .next
      (State.replied { s with slk := { s.slk with sticky := ⟨false, false, false, false⟩ } } 0x11 .ok .none)) ∧
    ((s.stc.node = .hunting ∨ s.stc.node = .restoring) → exec .clear s = .next (s.replied 0x11 .busy .none)) ∧
    (s.stc.node = .configFault → exec .clear s = .next (s.replied 0x11 .refused .none))

/-- R171: NOTICES removes up to four notices from the head of the queue and returns them in order, with the reply OK, formed
after the removal: its notices-waiting field counts those left. On an empty queue it returns none and is answered OK. -/
def Obligations.QueuesAreRead : Prop :=
  ∀ s : State, s.takesCommands →
    exec .notices s = .next (State.replied { s with slk := { s.slk with notices := s.slk.notices.drop 4 } } 0x18 .ok
      (.notices (s.slk.notices.take 4))) ∧
    (∀ t : State, exec .notices s = .next t → ∃ r, t.slk.reply = some r ∧ r.result = .ok ∧
      r.status.getLast? = some (BitVec.ofNat 8 (s.slk.notices.length - 4)) ∧
      ∃ l, r.payload = .notices l ∧ l.length ≤ 4 ∧ l ++ t.slk.notices = s.slk.notices) ∧
    (s.slk.notices = [] → exec .notices s = .next (s.replied 0x18 .ok (.notices [])))

/-- R172: the end of a pulse of the attention output lowers the owed count by one and begins the release; the release's end gives
the next pulse owed, or idles. A queued notice raises the owed count by one in PULSE mode, 16 at most, and starts the output
when it is idle; in LEVEL mode it owes nothing. In LEVEL mode the output is asserted exactly while a notice waits, in PULSE mode
exactly during a pulse; it is released in LOADING and CONFIG_FAULT, where no configuration stands.

The model's choices: the ends of the pulse and of the release are events of the table (log entry 25), the owed count falls at
the end of the pulse (log entry 48), and the output is released without main power (log entry 27). -/
def Obligations.AttentionFollows : Prop :=
  (∀ s : State,
    (s.stc.powered = true → s.stc.node ≠ .loading → s.slk.pulse = .asserted →
      exec .attentionPulseEnd s = .next { s with slk := { s.slk with owed := s.slk.owed - 1, pulse := .released } }) ∧
    (s.stc.powered = true → s.stc.node ≠ .loading → s.slk.pulse = .released →
      exec .attentionReleaseIntervalEnd s =
        .next { s with slk := { s.slk with pulse := if 0 < s.slk.owed then .asserted else .idle } }) ∧
    (∀ c, s.stc.powered = true → s.stc.config = some c → c.attention = .level →
      (s.attention = true ↔ s.slk.notices ≠ [])) ∧
    (∀ c, s.stc.powered = true → s.stc.config = some c → c.attention = .pulse →
      (s.attention = true ↔ s.slk.pulse = .asserted)) ∧
    ((s.stc.powered = false ∨ s.stc.config = none) → s.attention = false)) ∧
  (∀ (n : Notice) (c : NodeConfig) (s : State), s.stc.config = some c → s.masked n.kind = false →
    n ∈ (pushNotice n s).slk.notices ∧
    (c.attention = .pulse → (pushNotice n s).slk.owed = min 16 (s.slk.owed + 1) ∧
      (s.slk.pulse = .idle → (pushNotice n s).slk.pulse = .asserted) ∧
      (s.slk.pulse ≠ .idle → (pushNotice n s).slk.pulse = s.slk.pulse)) ∧
    (c.attention = .level → (pushNotice n s).slk.owed = s.slk.owed ∧ (pushNotice n s).slk.pulse = s.slk.pulse))

/-- R113, R115, R44: the checks of NEED in their order, the pocket one of an ACTIVE magazine module, EMPTY, not held and named by no
open taker transfer; when every check passes a taker transfer opens in SEEKING with a window of 2 s and
the next seek number, its SEEK is handed to the urgent queue, and the reply is OK with the number; the pocket stays as it was.
The number is the first after the last one used, modulo 256, that no open taker transfer holds.

R123: CANCEL of a pocket that no open taker transfer names is answered BAD_POCKET. In SEEKING the transfer closes without a
frame; past it LAPSE(WITHDRAWN) goes to the counterpart and the AWAITING pocket is EMPTY and latched again. No notice is
queued. -/
def Obligations.NeedAndCancel : Prop :=
  (∀ (p wantType want mode minLife : Nat) (s : State), s.takesCommands →
     ((wantOfCodes wantType want = none ∨ modeOfCode mode = none) →
       exec (.need p wantType want mode minLife) s = .next (s.replied 0x12 .range .none)) ∧
     (s.needable p = true ↔ p < 48 ∧ s.isMagazine p = true ∧ s.moduleActive p = true ∧ (s.pocket p).state = .empty ∧
       (s.pocket p).hold = false ∧ ∀ k ∈ s.cue.takers, k.pocket ≠ p) ∧
     (∀ w m, wantOfCodes wantType want = some w → modeOfCode mode = some m →
       (s.needable p = false → exec (.need p wantType want mode minLife) s = .next (s.replied 0x12 .badPocket .none)) ∧
       (s.needable p = true → (8 ≤ s.openTransfers ∨ 8 ≤ s.hli.urgent.length) →
         exec (.need p wantType want mode minLife) s = .next (s.replied 0x12 .busy .none)) ∧
       (s.needable p = true → s.openTransfers < 8 → s.hli.urgent.length < 8 → s.stc.node ≠ .idConflict →
         ∃ n, n = s.seekNext ∧ n < 256 ∧ (∀ k ∈ s.cue.takers, k.seek ≠ n) ∧
           (∀ i, i < (n + 256 - (s.cue.seekCounter + 1) % 256) % 256 →
             ∃ k ∈ s.cue.takers, k.seek = (s.cue.seekCounter + 1 + i) % 256) ∧
           exec (.need p wantType want mode minLife) s = .next
             (State.replied
               { s with
                 cue := { s.cue with
                   seekCounter := n,
                   takers := s.cue.takers ++ [{ state := .seeking, seek := n, pocket := p, want := w, mode := m,
                                                minLife := minLife, timer := 2, offers := [], current := none,
                                                lastFrame := .seek n w m minLife }] },
                 hli := { s.hli with urgent := s.hli.urgent ++ [⟨.seek n w m minLife, .taker n⟩] } }
               0x12 .ok (.seek n))))) ∧
  (∀ (p : PocketNo) (s : State), s.takesCommands →
     (s.takerAt? p = none → exec (.cancel p) s = .next (s.replied 0x13 .badPocket .none)) ∧
     (∀ k, s.takerAt? p = some k → s.readerBusy →
       (k.state = .seeking → exec (.cancel p) s = .next (State.replied { s with cue := { s.cue with
         takers := s.cue.takers.filter (fun x => x.seek != k.seek) } } 0x13 .ok .none)) ∧
       (∀ o, k.state ≠ .seeking → k.current = some o → (s.pocket p).state = .awaiting → p < 48 →
         (s.pocket p).readRequested = false → s.hli.urgent.length < 8 → s.stc.node ≠ .idConflict → s.Bounded →
         ∃ t : State, exec (.cancel p) s = .next (t.replied 0x13 .ok .none) ∧
           t.cue = { s.cue with takers := s.cue.takers.filter (fun x => x.seek != k.seek) } ∧
           t.hli = { s.hli with urgent := s.hli.urgent ++ [⟨.lapse o.station k.seek .withdrawn, .taker k.seek⟩] } ∧
           (t.pocket p).state = .empty ∧ (t.pocket p).latch = .locked ∧ (t.pocket p).target = none ∧
           (∀ q, q ≠ p → t.pocket q = s.pocket q) ∧
           t.trg = s.trg ∧ t.rds = s.rds ∧ t.pru = s.pru ∧ t.slk = s.slk ∧ t.cck = s.cck ∧ t.stc = s.stc)))

/-- R158, R159, R160: the checks of STAGE in their order: SEQ_ERROR, the pocket, its tool STOCKED and verified, its entry
settled in the pocket with no presence check and no claim window, a delivery; when every check passes the stage takes the
entry's version, the length CL less the wear, the radius CR and the next token of 1..255, and the reply carries them; a refused
STAGE leaves the slot as it was.

R161, R162: COMMIT while SEQ_ERROR stands is answered SEQ and changes nothing; one that the stage does not match sets SEQ_ERROR
and empties the slot; a stale one, by the disturbed flag, the pocket, the entry or the length it delivers now, is answered
STALE and empties the slot; otherwise the pocket takes the LOADED mark of the stage and the slot is emptied. -/
def Obligations.StageAndCommit : Prop :=
  (∀ (p : PocketNo) (s : State), s.takesCommands →
     (s.slk.sticky.seqError = true → exec (.stage p) s = .next (s.replied 0x14 .seq .none)) ∧
     (s.slk.sticky.seqError = false → (s.present p = false ∨ s.isMagazine p = false) →
       exec (.stage p) s = .next (s.replied 0x14 .badPocket .none)) ∧
     (s.slk.sticky.seqError = false → s.present p = true → s.isMagazine p = true →
       ((s.pocket p).state ≠ .stocked ∨ (s.pocket p).openRelease = true ∨ (s.pocket p).verified = false) →
       exec (.stage p) s = .next (s.replied 0x14 .noTool .none)) ∧
     (s.slk.sticky.seqError = false → s.present p = true → s.isMagazine p = true →
       ((s.pocket p).contents = none ∨
         ∃ u, (s.pocket p).contents = some u ∧ (s.entry? u = none ∨
           ∃ e, s.entry? u = some e ∧ e.tool = u ∧ (e.custody ≠ .stocked ∨ e.pocket ≠ some p ∨ s.checkPending u = true ∨
             s.windowOpen u = true))) →
       exec (.stage p) s = .next (s.replied 0x14 .noTool .none)) ∧
     (∀ u e pr k, s.slk.sticky.seqError = false → s.present p = true → s.isMagazine p = true →
       (s.pocket p).state = .stocked → (s.pocket p).openRelease = false → (s.pocket p).verified = true →
       (s.pocket p).contents = some u → s.entry? u = some e → e.custody = .stocked → e.pocket = some p →
       s.checkPending u = false → s.windowOpen u = false →
       ((e.condition ≠ .ready ∨ e.life = 0 ∨ e.preset = none ∨ s.kind? e.kind = none) →
         exec (.stage p) s = .next (s.replied 0x14 .noTool .none)) ∧
       (e.condition = .ready → 0 < e.life → e.preset = some pr → s.kind? e.kind = some k →
         ∃ wear token, wear = (if k.wearLimit < k.wearRate * e.used / 100 then k.wearLimit
                               else k.wearRate * e.used / 100) ∧
           token = (if s.slk.token < 255 then s.slk.token + 1 else 1) ∧
           exec (.stage p) s = .next (State.replied
             { s with slk := { s.slk with
               stage := some { pocket := p, tool := u, version := e.version, length := pr.cl - wear, radius := pr.cr,
                               token := token, disturbed := false },
               token := token } }
             0x14 .ok (.staged (pr.cl - wear) pr.cr wear token))))) ∧
  (∀ (p : PocketNo) (token : Nat) (s : State), s.takesCommands →
     (s.slk.sticky.seqError = true → exec (.commit p token) s = .next (s.replied 0x15 .seq .none)) ∧
     (s.slk.sticky.seqError = false →
       (s.slk.stage = none ∨ ∃ g, s.slk.stage = some g ∧ (g.pocket ≠ p ∨ g.token ≠ token)) →
       exec (.commit p token) s = .next (State.replied
         { s with slk := { s.slk with stage := none, sticky := { s.slk.sticky with seqError := true } } }
         0x15 .seq .none)) ∧
     (∀ g, s.slk.sticky.seqError = false → s.slk.stage = some g → g.pocket = p → g.token = token →
       ((g.disturbed = true ∨ (s.pocket p).state ≠ .stocked ∨ (s.pocket p).openRelease = true ∨
           (s.pocket p).verified = false ∨ s.entry? g.tool = none ∨
           ∃ e, s.entry? g.tool = some e ∧ (e.custody ≠ .stocked ∨ e.pocket ≠ some p ∨ e.version ≠ g.version ∨
             e.condition ≠ .ready ∨ e.preset = none ∨ e.life = 0 ∨ s.kind? e.kind = none)) →
         exec (.commit p token) s = .next (State.replied { s with slk := { s.slk with stage := none } }
           0x15 .stale .none)) ∧
       (∀ e pr k, s.entry? g.tool = some e → e.preset = some pr → s.kind? e.kind = some k →
         pr.cl - min (k.wearRate * e.used / 100) k.wearLimit ≠ g.length →
         exec (.commit p token) s = .next (State.replied { s with slk := { s.slk with stage := none } }
           0x15 .stale .none)) ∧
       (∀ e pr k, g.disturbed = false → (s.pocket p).state = .stocked → (s.pocket p).openRelease = false →
         (s.pocket p).verified = true → s.entry? g.tool = some e → e.custody = .stocked → e.pocket = some p →
         e.version = g.version → e.condition = .ready → e.preset = some pr → 0 < e.life → s.kind? e.kind = some k →
         pr.cl - min (k.wearRate * e.used / 100) k.wearLimit = g.length →
         exec (.commit p token) s = .next (State.replied
           (modPocket p (fun x => { x with mark := some ⟨g.version, g.length, g.radius, false⟩ })
             { s with slk := { s.slk with stage := none } })
           0x15 .ok (.committed g.length g.radius)))))

/-- R165, R166: the steps of USE in their order: BAD_POCKET, OK without effect for 0 seconds (with no payload, the model's choice,
log entry 31), NO_TOOL without a LOADED mark. Counted seconds lower the life and raise the used minutes by the whole minutes of
remainder plus seconds, each saturating; above 3600 they count as 3600 with CLAMPED set. A USE that crosses neither the reserve
nor 0 and finds no drift changes nothing else.

R167: a USE that brings the life to 0: the condition EXPIRED as a versioned change, the LOADED mark cleared, the notice LIFE_OUT
queued (after LIFE_LOW when the reserve is crossed too), and one RECORD of the entry after all the changes. One that crosses the
reserve alone: LIFE_LOW, and one RECORD at the unchanged version.

R168: a USE that leaves the mark and finds the committed length 10 lu or more above the one delivered now: OFFSET_DRIFT, after
the notice of a crossing, once for a mark: the mark's drift flag is set, and the mark stands. -/
def Obligations.UseActs : Prop :=
  (∀ (p sec : Nat) (s : State), s.takesCommands →
     ((s.present p = false ∨ s.isMagazine p = false) → exec (.use p sec) s = .next (s.replied 0x16 .badPocket .none)) ∧
     (s.present p = true → s.isMagazine p = true →
       (sec = 0 → exec (.use p sec) s = .next (s.replied 0x16 .ok .none)) ∧
       (0 < sec → (s.pocket p).mark = none → exec (.use p sec) s = .next (s.replied 0x16 .noTool .none)) ∧
       (∀ m u e pr k n, 0 < sec → (s.pocket p).mark = some m → (s.pocket p).contents = some u → s.entry? u = some e →
         s.Bounded → e.preset = some pr → s.kind? e.kind = some k → e.condition = .ready →
         n = (e.remainder + min sec 3600) / 60 →
         ¬(k.reserve ≤ e.life ∧ e.life - n < k.reserve) → n < e.life →
         (m.drift = true ∨ m.length < pr.cl - min (k.wearRate * min 65535 (e.used + n) / 100) k.wearLimit + 10) →
         exec (.use p sec) s = .next (State.replied
           { s with
             trg := { s.trg with
               entries := insertEntry { e with life := e.life - n, used := min 65535 (e.used + n),
                                               remainder := (e.remainder + min sec 3600) % 60 } s.trg.entries },
             slk := { s.slk with
               sticky := { s.slk.sticky with clamped := s.slk.sticky.clamped || decide (3600 < sec) } } }
           0x16 .ok (.used (e.life - n) ((e.remainder + min sec 3600) % 60) (min 65535 (e.used + n))))))) ∧
  (∀ (p sec : Nat) (m : Mark) (u : ToolId) (e : Entry) (k : KindEntry) (s : State), s.takesCommands → s.Bounded →
     s.present p = true → s.isMagazine p = true → 0 < sec → sec ≤ 3600 → (s.pocket p).mark = some m →
     (s.pocket p).contents = some u → s.entry? u = some e → e.custody = .stocked → s.kind? e.kind = some k →
     e.condition = .ready → 0 < e.life → e.life ≤ (e.remainder + sec) / 60 → s.windowOpen u = false →
     s.stc.node ≠ .idConflict → s.slk.notices.length < 15 → s.masked .lifeLow = false → s.masked .lifeOut = false →
     ∃ (t : State) (reply : Reply), exec (.use p sec) s = .next t ∧ t.slk.reply = some reply ∧ reply.result = .ok ∧
       (∃ e', t.entry? u = some e' ∧ e' =
         { e with life := 0, used := min 65535 (e.used + (e.remainder + sec) / 60), remainder := (e.remainder + sec) % 60,
                  condition := .expired, version := e.version + 1 } ∧
         (s.RoutineRoom → ∃ f ∈ t.hli.routine, f = .record e'.record)) ∧
       (∀ v, v ≠ u → t.entry? v = s.entry? v) ∧ (t.pocket p).mark = none ∧
       t.slk.notices = s.slk.notices ++
         (if k.reserve ≤ e.life ∧ 0 < k.reserve then [⟨.lifeLow, some p, some u, none, none, []⟩] else []) ++
         [⟨.lifeOut, some p, some u, none, none, []⟩] ∧
       (s.pru.queue.length < 32 → u ∈ t.pru.queue) ∧
       t.rds = s.rds ∧ t.cue = s.cue ∧ t.cck = s.cck ∧ t.stc = s.stc) ∧
  (∀ (p sec : Nat) (m : Mark) (u : ToolId) (e e' : Entry) (pr : Preset) (k : KindEntry) (n : Nat) (s : State),
     s.takesCommands → s.Bounded → s.present p = true → s.isMagazine p = true → 0 < sec → (s.pocket p).mark = some m →
     (s.pocket p).contents = some u → s.entry? u = some e → e.preset = some pr → s.kind? e.kind = some k →
     e.condition = .ready → n = (e.remainder + min sec 3600) / 60 → n < e.life →
     e' = { e with life := e.life - n, used := min 65535 (e.used + n), remainder := (e.remainder + min sec 3600) % 60 } →
     (k.reserve ≤ e.life → e.life - n < k.reserve →
       (m.drift = true ∨ m.length < pr.cl - min (k.wearRate * e'.used / 100) k.wearLimit + 10) →
       exec (.use p sec) s = .next (State.replied
         (handRecord u (pushNotice ⟨.lifeLow, some p, some u, none, none, []⟩
           { s with
             trg := { s.trg with entries := insertEntry e' s.trg.entries },
             slk := { s.slk with
               sticky := { s.slk.sticky with clamped := s.slk.sticky.clamped || decide (3600 < sec) } } }))
         0x16 .ok (.used e'.life e'.remainder e'.used))) ∧
     (k.reserve ≤ e.life → e.life - n < k.reserve → m.drift = false →
       pr.cl - min (k.wearRate * e'.used / 100) k.wearLimit + 10 ≤ m.length →
       exec (.use p sec) s = .next (State.replied
         (pushNotice ⟨.offsetDrift, some p, some u, none, none, []⟩
           (modPocket p (fun x => { x with mark := some { m with drift := true } })
             (handRecord u (pushNotice ⟨.lifeLow, some p, some u, none, none, []⟩
               { s with
                 trg := { s.trg with entries := insertEntry e' s.trg.entries },
                 slk := { s.slk with
                   sticky := { s.slk.sticky with clamped := s.slk.sticky.clamped || decide (3600 < sec) } } }))))
         0x16 .ok (.used e'.life e'.remainder e'.used))) ∧
     (¬(k.reserve ≤ e.life ∧ e.life - n < k.reserve) → m.drift = false →
       pr.cl - min (k.wearRate * e'.used / 100) k.wearLimit + 10 ≤ m.length →
       exec (.use p sec) s = .next (State.replied
         (pushNotice ⟨.offsetDrift, some p, some u, none, none, []⟩
           (modPocket p (fun x => { x with mark := some { m with drift := true } })
             { s with
               trg := { s.trg with entries := insertEntry e' s.trg.entries },
               slk := { s.slk with
                 sticky := { s.slk.sticky with clamped := s.slk.sticky.clamped || decide (3600 < sec) } } }))
         0x16 .ok (.used e'.life e'.remainder e'.used))))

/-- R149, R150: the checks of FREE in their order, LIMIT queued with BUSY at the outside limit. When they pass, a tool READY with
life at or above its reserve keeps its condition and its entry; one with life below it becomes NEEDS_PRESET as a versioned
change, with one RECORD, and joins the Preset Queue. The pocket's mark is cleared without a notice, and the release as AWAY
stands open for 120 s with latch OPEN.

R4: a departure is granted while the entries AT_GAUGE, TRANSIT, AWAY and LOST, the giver transfers in OFFERED and RELEASING and
the pockets with an open release are together fewer than 64. -/
def Obligations.FreeReleases : Prop :=
  (∀ (p : PocketNo) (s : State), s.takesCommands → s.readerElsewhere p →
    ((s.present p = false ∨ s.isMagazine p = false) → exec (.free p) s = .next (s.replied 0x17 .badPocket .none)) ∧
    (s.present p = true → s.isMagazine p = true →
      ((s.pocket p).state ≠ .stocked ∨ (s.pocket p).openRelease = true →
        exec (.free p) s = .next (s.replied 0x17 .noTool .none)) ∧
      (∀ u e, (s.pocket p).state = .stocked → (s.pocket p).openRelease = false → (s.pocket p).contents = some u →
        s.entry? u = some e →
        (s.departureRoom = false → exec (.free p) s = .next
          (State.replied (pushNotice ⟨.limit, some p, some u, none, none, []⟩ s) 0x17 .busy .none)) ∧
        (∀ k, s.departureRoom = true → e.condition = .ready → s.kind? e.kind = some k → k.reserve ≤ e.life →
          (s.pocket p).latch = .locked → s.pkc.pockets.length = 48 →
          ∃ t : State, exec (.free p) s = .next (t.replied 0x17 .ok .none) ∧
            (t.pocket p).state = .stocked ∧ (t.pocket p).openRelease = true ∧ (t.pocket p).latch = .opened ∧
            (t.pocket p).timer = some 120 ∧ (t.pocket p).mark = none ∧ (t.pocket p).contents = some u ∧
            (∀ q, q ≠ p → t.pocket q = s.pocket q) ∧ t.slk.notices = s.slk.notices ∧
            t.trg = s.trg ∧ t.pru = s.pru ∧ t.hli = s.hli ∧ t.cck = s.cck ∧ t.stc = s.stc) ∧
        (∀ k e', s.departureRoom = true → e.condition = .ready → s.kind? e.kind = some k → e.life < k.reserve →
          (s.pocket p).latch = .locked → s.Bounded → e.custody = .stocked → e.pocket = some p → s.giverOf? u = none →
          s.adoptionOpen u = false → e' = { e with condition := .needsPreset, version := e.version + 1 } →
          ∃ t : State, exec (.free p) s = .next (t.replied 0x17 .ok .none) ∧
            t.entry? u = some e' ∧ (∀ v, v ≠ u → t.entry? v = s.entry? v) ∧
            (s.stc.node ≠ .idConflict → t.hli = { s.hli with routine := placeRecord e'.record s.hli.routine }) ∧
            t.pru = { s.pru with queue :=
              if u ∈ s.pru.queue then s.pru.queue
              else if s.pru.queue.length < 32 then s.pru.queue ++ [u] else s.pru.queue } ∧
            (t.pocket p).state = .stocked ∧ (t.pocket p).openRelease = true ∧ (t.pocket p).latch = .opened ∧
            (t.pocket p).timer = some 120 ∧ (t.pocket p).mark = none ∧ (t.pocket p).contents = some u ∧
            (∀ q, q ≠ p → { t.pocket q with indicator := (s.pocket q).indicator } = s.pocket q) ∧
            t.slk.notices = s.slk.notices ∧ t.cck = s.cck ∧ t.stc = s.stc)))) ∧
  (∀ s : State, s.departureRoom = true ↔ s.outsideSum < 64)

/-- R173: the checks of TOOL in their order, and its two parts as they stand, for a tool ID, a pocket and the gauge pocket 48;
TOOL with action NONE changes nothing. An action other than the three is RANGE. That the row TOOL stands for the actions 0 and 3
and above, and the rows of WITHHOLD and RELEASE for 1 and 2, is the model's (log entry 38).

R174: WITHHOLD and RELEASE of a tool named by its ID, by its pocket or by the gauge pocket: KEY_REQUIRED with the key off, REFUSED
for a cached entry, for WITHHOLD of a duplicate and for RELEASE of a tool that is not in QUARANTINE for OPERATOR; otherwise one
versioned change of the condition, to QUARANTINE/OPERATOR or to NEEDS_PRESET, and OK with both parts formed after it. A pocket
without an entry is NO_TOOL. -/
def Obligations.ToolActs : Prop :=
  (∀ (arg action : Nat) (s : State), s.takesCommands →
     (∀ sel, ((action ≠ 0 ∧ action ≠ 1 ∧ action ≠ 2) ∨
         (action = 0 ∧ ((sel ≠ 0 ∧ sel ≠ 1) ∨ (sel = 0 ∧ 48 < arg) ∨ (sel = 1 ∧ toolIdValid arg = false)))) →
       exec (.tool sel arg action) s = .next (s.replied 0x19 .range .none)) ∧
     (∀ sel key, ((sel ≠ 0 ∧ sel ≠ 1) ∨ (sel = 0 ∧ 48 < arg) ∨ (sel = 1 ∧ toolIdValid arg = false)) →
       exec (.toolWithhold sel arg key) s = .next (s.replied 0x19 .range .none) ∧
       exec (.toolRelease sel arg key) s = .next (s.replied 0x19 .range .none)) ∧
     (toolIdValid arg = true → s.entry? arg = none →
       exec (.tool 1 arg 0) s = .next (s.replied 0x19 .noTool .none) ∧
       ∀ key, exec (.toolWithhold 1 arg key) s = .next (s.replied 0x19 .noTool .none) ∧
         exec (.toolRelease 1 arg key) s = .next (s.replied 0x19 .noTool .none)) ∧
     (∀ e, toolIdValid arg = true → s.entry? arg = some e →
       exec (.tool 1 arg 0) s = .next (s.replied 0x19 .ok
         (.tool (if e.custody.inPocket = true then e.pocket.map (fun p => (p, s.pocketRecord p)) else none)
           (some ⟨e, s.checkPending e.tool, s.windowOpen e.tool⟩)))) ∧
     (arg < 48 → (s.pocket arg).state = .absent → (s.pocket arg).contents = none →
       exec (.tool 0 arg 0) s = .next (s.replied 0x19 .badPocket .none)) ∧
     (arg < 48 → ((s.pocket arg).state ≠ .absent ∨ (s.pocket arg).contents.isSome = true) →
       exec (.tool 0 arg 0) s = .next (s.replied 0x19 .ok
         (.tool (some (arg, s.pocket arg))
           (((s.pocket arg).contents.bind s.entry?).map (fun e => ⟨e, s.checkPending e.tool, s.windowOpen e.tool⟩)))) ∧
       ((s.pocket arg).contents.bind s.entry? = none → ∀ key,
         exec (.toolWithhold 0 arg key) s = .next (s.replied 0x19 .noTool .none) ∧
         exec (.toolRelease 0 arg key) s = .next (s.replied 0x19 .noTool .none))) ∧
     (s.pkc.gauge = .absent → exec (.tool 0 48 0) s = .next (s.replied 0x19 .badPocket .none)) ∧
     (s.pkc.gauge ≠ .absent → exec (.tool 0 48 0) s = .next (s.replied 0x19 .ok
       (.tool (some (48, { Pocket.vacant with state := s.pkc.gauge }))
         ((s.trg.entries.find? (fun e => decide (e.custody = .atGauge))).map
           (fun e => ⟨e, s.checkPending e.tool, s.windowOpen e.tool⟩)))))) ∧
  (∀ (sel arg : Nat) (x : ToolSel) (u : ToolId) (e : Entry) (s : State), s.takesCommands → s.Bounded →
     selOfCodes sel arg = some x → s.entry? u = some e →
     (x = .tool u ∨ (∃ p, x = .pocket p ∧ p < 48 ∧ (s.pocket p).contents = some u) ∨
       (x = .pocket 48 ∧ s.pkc.gauge ≠ .absent ∧
         s.trg.entries.find? (fun f => decide (f.custody = .atGauge)) = some e)) →
     exec (.toolWithhold sel arg false) s = .next (s.replied 0x19 .keyRequired .none) ∧
     exec (.toolRelease sel arg false) s = .next (s.replied 0x19 .keyRequired .none) ∧
     ((e.custody = .foreign ∨ e.condition = .quarantine .duplicate) →
       exec (.toolWithhold sel arg true) s = .next (s.replied 0x19 .refused .none) ∧
       exec (.toolRelease sel arg true) s = .next (s.replied 0x19 .refused .none)) ∧
     (e.custody ≠ .foreign → e.condition ≠ .quarantine .operator →
       exec (.toolRelease sel arg true) s = .next (s.replied 0x19 .refused .none)) ∧
     (e.custody ≠ .foreign → e.condition = .quarantine .operator → s.adoptionOpen u = false →
       exec (.toolWithhold sel arg true) s = .next (s.replied 0x19 .ok (s.toolParts x)) ∧
       ∃ t : State, exec (.toolRelease sel arg true) s = .next (t.replied 0x19 .ok (t.toolParts x)) ∧
         t.entry? u = some { e with condition := .needsPreset, version := e.version + 1 } ∧
         (∀ v, v ≠ u → t.entry? v = s.entry? v) ∧ t.rds = s.rds ∧ t.cue = s.cue ∧ t.cck = s.cck ∧ t.stc = s.stc) ∧
     (e.custody ≠ .foreign → e.condition ≠ .quarantine .duplicate → e.condition ≠ .quarantine .operator →
       s.giverOf? u = none → s.adoptionOpen u = false → s.readerBusy →
       ∃ t : State, exec (.toolWithhold sel arg true) s = .next (t.replied 0x19 .ok (t.toolParts x)) ∧
         t.entry? u = some { e with condition := .quarantine .operator, version := e.version + 1 } ∧
         (∀ v, v ≠ u → t.entry? v = s.entry? v) ∧ u ∉ t.pru.queue ∧ t.cue = s.cue ∧ t.rds = s.rds ∧ t.cck = s.cck ∧
         t.stc = s.stc ∧ (e.pocket = none → t.slk = s.slk ∧ ∀ p, (t.pocket p).mark = (s.pocket p).mark) ∧
         ∀ p, e.pocket = some p → p < 48 → (t.pocket p).mark = none))

/-- R38: HOLD and UNHOLD of a pocket out of range or ABSENT are answered BAD_POCKET, with the key off KEY_REQUIRED; otherwise the
hold flag is set or cleared and nothing else changes.

R152: the checks of FORGET in their order; a cached entry that no pocket's vacated mark and no waiting adoption names is deleted
with its heard rank and nothing further. R13: a custody entry that no transfer, window or queue names is deleted, a queued
RECORD of it is withdrawn, and the pocket of a STOCKED one becomes CHECKING with check INSERT, unverified, with a read
requested.

R186: SETCLOCK of a value out of range is answered RANGE; of a trusted clock with the key off KEY_REQUIRED; both change nothing.
Otherwise the calendar takes the values with the weekday of the date, the trust flag is set, the stamp is written to the
minute, and the reply carries the value set; no timer and no age changes. -/
def Obligations.KeyedCommandsAct : Prop :=
  (∀ (p : PocketNo) (key : Bool) (s : State), s.takesCommands →
     (s.present p = false →
       exec (.hold p key) s = .next (s.replied 0x1C .badPocket .none) ∧
       exec (.unhold p key) s = .next (s.replied 0x1D .badPocket .none)) ∧
     (s.present p = true → key = false →
       exec (.hold p key) s = .next (s.replied 0x1C .keyRequired .none) ∧
       exec (.unhold p key) s = .next (s.replied 0x1D .keyRequired .none)) ∧
     (s.present p = true → key = true →
       exec (.hold p key) s = .next (State.replied (modPocket p (fun k => { k with hold := true }) s) 0x1C .ok .none) ∧
       exec (.unhold p key) s = .next (State.replied (modPocket p (fun k => { k with hold := false }) s) 0x1D .ok .none))) ∧
  (∀ (u : ToolId) (key : Bool) (s : State), s.takesCommands →
     (toolIdValid u = false → exec (.forget u key) s = .next (s.replied 0x1E .range .none)) ∧
     (toolIdValid u = true → key = false → exec (.forget u key) s = .next (s.replied 0x1E .keyRequired .none)) ∧
     (toolIdValid u = true → key = true → s.entry? u = none →
       exec (.forget u key) s = .next (s.replied 0x1E .noTool .none)) ∧
     (∀ e, toolIdValid u = true → key = true → s.entry? u = some e → e.custody = .foreign → s.readerBusy →
       s.cue.waiting = [] → (∀ p, p < 48 → (s.pocket p).vacated = none) →
       exec (.forget u key) s = .next (State.replied { s with trg := { s.trg with
         entries := s.trg.entries.filter (fun x => x.tool != u), heard := s.trg.heard.filter (· != u) } }
         0x1E .ok .none)) ∧
     (∀ e, toolIdValid u = true → key = true → s.entry? u = some e → s.Bounded → s.cue.waiting = [] → s.cue.windows = [] →
       s.giverOf? u = none → u ∉ s.pru.queue → (∀ p, p < 48 → (s.pocket p).vacated = none) →
       ((e.custody = .away ∨ e.custody = .lost) → e.pocket = none → s.readerBusy →
         exec (.forget u key) s = .next (State.replied
           { s with
             trg := { s.trg with entries := s.trg.entries.filter (fun x => x.tool != u),
                                 heard := s.trg.heard.filter (· != u) },
             hli := { s.hli with routine := s.hli.routine.filter (fun f => !f.isRecordOf u) } }
           0x1E .ok .none)) ∧
       (∀ p, e.custody = .stocked → e.pocket = some p → p < 48 → (s.pocket p).state = .stocked → s.readerElsewhere p →
         ∃ t : State, exec (.forget u key) s = .next (t.replied 0x1E .ok .none) ∧
           t.trg.entries = s.trg.entries.filter (fun x => x.tool != u) ∧
           t.hli = { s.hli with routine := s.hli.routine.filter (fun f => !f.isRecordOf u) } ∧
           (t.pocket p).state = .checking ∧ (t.pocket p).check = some .insert ∧ (t.pocket p).contents = none ∧
           (t.pocket p).latch = .locked ∧ (t.pocket p).openRelease = false ∧ (t.pocket p).verified = false ∧
           (t.pocket p).mark = none ∧ (t.pocket p).readRequested = true ∧ p ∈ t.rds.queue ∧
           (∀ q, q ≠ p → t.pocket q = s.pocket q) ∧ t.cue = s.cue ∧ t.pru = s.pru ∧ t.cck = s.cck ∧ t.stc = s.stc))) ∧
  (∀ (y mo d h mi sec : Nat) (key : Bool) (s : State), s.takesCommands →
     (clockInRange y mo d h mi sec = false →
       exec (.setclock y mo d h mi sec key) s = .next (s.replied 0x1F .range .none)) ∧
     (clockInRange y mo d h mi sec = true → s.cck.trust = true → key = false →
       exec (.setclock y mo d h mi sec key) s = .next (s.replied 0x1F .keyRequired .none)) ∧
     (clockInRange y mo d h mi sec = true → (s.cck.trust = false ∨ key = true) →
       exec (.setclock y mo d h mi sec key) s = .next (State.replied
         { s with
           cck := { s.cck with cal := ⟨y, mo, d, h, mi, sec, weekdayOf y mo d⟩, trust := true },
           trg := { s.trg with stamp := ⟨y, mo, d, h, mi⟩ } }
         0x1F .ok (.clock y mo d h mi sec (weekdayOf y mo d)))) ∧
     clockInRange 2100 2 29 0 0 0 = false ∧ clockInRange 2000 2 29 0 0 0 = true)
end

