-- ==== Sys2Proof/Laws/Frame.lean ====
section
/-! SUPPORT. For each shared operation one lemma that names every part of the state it leaves as it was. -/

namespace Sys2Proof.Machine

open Sys2Proof

theorem foldl_same {α β : Type} (g : State → β) {f : State → α → State} (hf : ∀ s a, g (f s a) = g s) (l : List α)
    (s : State) : g (l.foldl f s) = g s := by
  induction l generalizing s with
  | nil => rfl
  | cons a l ih => exact (ih (f s a)).trans (hf s a)

@[simp] theorem putEntry_frame (e : Entry) (s : State) :
    (putEntry e s).pkc = s.pkc ∧ (putEntry e s).rds = s.rds ∧ (putEntry e s).pru = s.pru ∧
      (putEntry e s).cue = s.cue ∧ (putEntry e s).hli = s.hli ∧ (putEntry e s).slk = s.slk ∧
      (putEntry e s).cck = s.cck ∧ (putEntry e s).stc = s.stc ∧ (putEntry e s).free = s.free ∧
      (putEntry e s).pending = s.pending := by
  unfold putEntry
  (repeat' split) <;> simp

@[simp] theorem modEntry_frame (t : ToolId) (f : Entry → Entry) (s : State) :
    (modEntry t f s).pkc = s.pkc ∧ (modEntry t f s).rds = s.rds ∧ (modEntry t f s).pru = s.pru ∧
      (modEntry t f s).cue = s.cue ∧ (modEntry t f s).hli = s.hli ∧ (modEntry t f s).slk = s.slk ∧
      (modEntry t f s).cck = s.cck ∧ (modEntry t f s).stc = s.stc ∧ (modEntry t f s).free = s.free ∧
      (modEntry t f s).pending = s.pending := by
  unfold modEntry
  (repeat' split) <;> simp

@[simp] theorem dropEntry_frame (t : ToolId) (s : State) :
    (dropEntry t s).pkc = s.pkc ∧ (dropEntry t s).rds = s.rds ∧ (dropEntry t s).pru = s.pru ∧
      (dropEntry t s).cue = s.cue ∧ (dropEntry t s).hli = s.hli ∧ (dropEntry t s).slk = s.slk ∧
      (dropEntry t s).cck = s.cck ∧ (dropEntry t s).stc = s.stc ∧ (dropEntry t s).free = s.free ∧
      (dropEntry t s).pending = s.pending := by
  unfold dropEntry
  (repeat' split) <;> simp

@[simp] theorem touchHeard_frame (t : ToolId) (s : State) :
    (touchHeard t s).pkc = s.pkc ∧ (touchHeard t s).rds = s.rds ∧ (touchHeard t s).pru = s.pru ∧
      (touchHeard t s).cue = s.cue ∧ (touchHeard t s).hli = s.hli ∧ (touchHeard t s).slk = s.slk ∧
      (touchHeard t s).cck = s.cck ∧ (touchHeard t s).stc = s.stc ∧ (touchHeard t s).free = s.free ∧
      (touchHeard t s).pending = s.pending := by
  unfold touchHeard
  (repeat' split) <;> simp

@[simp] theorem dropHeard_frame (t : ToolId) (s : State) :
    (dropHeard t s).pkc = s.pkc ∧ (dropHeard t s).rds = s.rds ∧ (dropHeard t s).pru = s.pru ∧
      (dropHeard t s).cue = s.cue ∧ (dropHeard t s).hli = s.hli ∧ (dropHeard t s).slk = s.slk ∧
      (dropHeard t s).cck = s.cck ∧ (dropHeard t s).stc = s.stc ∧ (dropHeard t s).free = s.free ∧
      (dropHeard t s).pending = s.pending := by
  unfold dropHeard
  (repeat' split) <;> simp

@[simp] theorem dropCheck_frame (t : ToolId) (s : State) :
    (dropCheck t s).pkc = s.pkc ∧ (dropCheck t s).rds = s.rds ∧ (dropCheck t s).pru = s.pru ∧
      (dropCheck t s).cue = s.cue ∧ (dropCheck t s).hli = s.hli ∧ (dropCheck t s).slk = s.slk ∧
      (dropCheck t s).cck = s.cck ∧ (dropCheck t s).stc = s.stc ∧ (dropCheck t s).free = s.free ∧
      (dropCheck t s).pending = s.pending := by
  unfold dropCheck
  (repeat' split) <;> simp

@[simp] theorem handRecord_frame (t : ToolId) (s : State) :
    (handRecord t s).trg = s.trg ∧ (handRecord t s).pkc = s.pkc ∧ (handRecord t s).rds = s.rds ∧
      (handRecord t s).pru = s.pru ∧ (handRecord t s).cue = s.cue ∧ (handRecord t s).slk = s.slk ∧
      (handRecord t s).cck = s.cck ∧ (handRecord t s).stc = s.stc ∧ (handRecord t s).free = s.free ∧
      (handRecord t s).pending = s.pending := by
  unfold handRecord
  (repeat' split) <;> simp

@[simp] theorem withdrawRecord_frame (t : ToolId) (s : State) :
    (withdrawRecord t s).trg = s.trg ∧ (withdrawRecord t s).pkc = s.pkc ∧ (withdrawRecord t s).rds = s.rds ∧
      (withdrawRecord t s).pru = s.pru ∧ (withdrawRecord t s).cue = s.cue ∧ (withdrawRecord t s).slk = s.slk ∧
      (withdrawRecord t s).cck = s.cck ∧ (withdrawRecord t s).stc = s.stc ∧ (withdrawRecord t s).free = s.free ∧
      (withdrawRecord t s).pending = s.pending := by
  unfold withdrawRecord
  (repeat' split) <;> simp

@[simp] theorem pushUrgent_frame (f : Frame) (o : FrameOwner) (s : State) :
    (pushUrgent f o s).trg = s.trg ∧ (pushUrgent f o s).pkc = s.pkc ∧ (pushUrgent f o s).rds = s.rds ∧
      (pushUrgent f o s).pru = s.pru ∧ (pushUrgent f o s).cue = s.cue ∧ (pushUrgent f o s).slk = s.slk ∧
      (pushUrgent f o s).cck = s.cck ∧ (pushUrgent f o s).stc = s.stc ∧ (pushUrgent f o s).free = s.free ∧
      (pushUrgent f o s).pending = s.pending := by
  unfold pushUrgent
  (repeat' split) <;> simp

@[simp] theorem handPlain_frame (f : Frame) (o : FrameOwner) (s : State) :
    (handPlain f o s).trg = s.trg ∧ (handPlain f o s).pkc = s.pkc ∧ (handPlain f o s).rds = s.rds ∧
      (handPlain f o s).pru = s.pru ∧ (handPlain f o s).cue = s.cue ∧ (handPlain f o s).slk = s.slk ∧
      (handPlain f o s).cck = s.cck ∧ (handPlain f o s).stc = s.stc ∧ (handPlain f o s).free = s.free ∧
      (handPlain f o s).pending = s.pending := by
  unfold handPlain
  (repeat' split) <;> simp

@[simp] theorem sendLapse_frame (dst : StationId) (n : SeekNo) (reason : LapseReason) (o : FrameOwner) (s : State) :
    (sendLapse dst n reason o s).trg = s.trg ∧ (sendLapse dst n reason o s).pkc = s.pkc ∧
      (sendLapse dst n reason o s).rds = s.rds ∧ (sendLapse dst n reason o s).pru = s.pru ∧
      (sendLapse dst n reason o s).cue = s.cue ∧ (sendLapse dst n reason o s).slk = s.slk ∧
      (sendLapse dst n reason o s).cck = s.cck ∧ (sendLapse dst n reason o s).stc = s.stc ∧
      (sendLapse dst n reason o s).free = s.free ∧ (sendLapse dst n reason o s).pending = s.pending := by
  unfold sendLapse
  (repeat' split) <;> simp

@[simp] theorem owePulse_frame (s : State) :
    (owePulse s).trg = s.trg ∧ (owePulse s).pkc = s.pkc ∧ (owePulse s).rds = s.rds ∧ (owePulse s).pru = s.pru ∧
      (owePulse s).cue = s.cue ∧ (owePulse s).hli = s.hli ∧ (owePulse s).cck = s.cck ∧ (owePulse s).stc = s.stc ∧
      (owePulse s).free = s.free ∧ (owePulse s).pending = s.pending := by
  unfold owePulse
  (repeat' split) <;> simp

@[simp] theorem pushNotice_frame (n : Notice) (s : State) :
    (pushNotice n s).trg = s.trg ∧ (pushNotice n s).pkc = s.pkc ∧ (pushNotice n s).rds = s.rds ∧
      (pushNotice n s).pru = s.pru ∧ (pushNotice n s).cue = s.cue ∧ (pushNotice n s).hli = s.hli ∧
      (pushNotice n s).cck = s.cck ∧ (pushNotice n s).stc = s.stc ∧ (pushNotice n s).free = s.free ∧
      (pushNotice n s).pending = s.pending := by
  unfold pushNotice
  (repeat' split) <;> simp

@[simp] theorem noticeLimit_frame (p : PocketNo) (t : ToolId) (s : State) :
    (noticeLimit p t s).trg = s.trg ∧ (noticeLimit p t s).pkc = s.pkc ∧ (noticeLimit p t s).rds = s.rds ∧
      (noticeLimit p t s).pru = s.pru ∧ (noticeLimit p t s).cue = s.cue ∧ (noticeLimit p t s).hli = s.hli ∧
      (noticeLimit p t s).cck = s.cck ∧ (noticeLimit p t s).stc = s.stc ∧ (noticeLimit p t s).free = s.free ∧
      (noticeLimit p t s).pending = s.pending := by
  unfold noticeLimit
  (repeat' split) <;> simp

@[simp] theorem noticeNeedFailed_frame (tk : Taker) (r : FailReason) (s : State) :
    (noticeNeedFailed tk r s).trg = s.trg ∧ (noticeNeedFailed tk r s).pkc = s.pkc ∧
      (noticeNeedFailed tk r s).rds = s.rds ∧ (noticeNeedFailed tk r s).pru = s.pru ∧
      (noticeNeedFailed tk r s).cue = s.cue ∧ (noticeNeedFailed tk r s).hli = s.hli ∧
      (noticeNeedFailed tk r s).cck = s.cck ∧ (noticeNeedFailed tk r s).stc = s.stc ∧
      (noticeNeedFailed tk r s).free = s.free ∧ (noticeNeedFailed tk r s).pending = s.pending := by
  unfold noticeNeedFailed
  (repeat' split) <;> simp

@[simp] theorem putPocket_frame (p : PocketNo) (k : Pocket) (s : State) :
    (putPocket p k s).trg = s.trg ∧ (putPocket p k s).rds = s.rds ∧ (putPocket p k s).pru = s.pru ∧
      (putPocket p k s).cue = s.cue ∧ (putPocket p k s).hli = s.hli ∧ (putPocket p k s).slk = s.slk ∧
      (putPocket p k s).cck = s.cck ∧ (putPocket p k s).stc = s.stc ∧ (putPocket p k s).free = s.free ∧
      (putPocket p k s).pending = s.pending := by
  unfold putPocket
  (repeat' split) <;> simp

@[simp] theorem modPocket_frame (p : PocketNo) (f : Pocket → Pocket) (s : State) :
    (modPocket p f s).trg = s.trg ∧ (modPocket p f s).rds = s.rds ∧ (modPocket p f s).pru = s.pru ∧
      (modPocket p f s).cue = s.cue ∧ (modPocket p f s).hli = s.hli ∧ (modPocket p f s).slk = s.slk ∧
      (modPocket p f s).cck = s.cck ∧ (modPocket p f s).stc = s.stc ∧ (modPocket p f s).free = s.free ∧
      (modPocket p f s).pending = s.pending := by
  unfold modPocket
  (repeat' split) <;> simp

@[simp] theorem refreshIndicators_frame (s : State) :
    (refreshIndicators s).trg = s.trg ∧ (refreshIndicators s).rds = s.rds ∧ (refreshIndicators s).pru = s.pru ∧
      (refreshIndicators s).cue = s.cue ∧ (refreshIndicators s).hli = s.hli ∧ (refreshIndicators s).slk = s.slk ∧
      (refreshIndicators s).cck = s.cck ∧ (refreshIndicators s).stc = s.stc ∧ (refreshIndicators s).free = s.free ∧
      (refreshIndicators s).pending = s.pending := by
  unfold refreshIndicators
  (repeat' split) <;> simp

@[simp] theorem setPresetQueue_frame (q : List ToolId) (s : State) :
    (setPresetQueue q s).trg = s.trg ∧ (setPresetQueue q s).rds = s.rds ∧ (setPresetQueue q s).cue = s.cue ∧
      (setPresetQueue q s).hli = s.hli ∧ (setPresetQueue q s).slk = s.slk ∧ (setPresetQueue q s).cck = s.cck ∧
      (setPresetQueue q s).stc = s.stc ∧ (setPresetQueue q s).free = s.free ∧
      (setPresetQueue q s).pending = s.pending := by
  unfold setPresetQueue
  (repeat' split) <;> simp

@[simp] theorem presetRemove_frame (t : ToolId) (s : State) :
    (presetRemove t s).trg = s.trg ∧ (presetRemove t s).rds = s.rds ∧ (presetRemove t s).cue = s.cue ∧
      (presetRemove t s).hli = s.hli ∧ (presetRemove t s).slk = s.slk ∧ (presetRemove t s).cck = s.cck ∧
      (presetRemove t s).stc = s.stc ∧ (presetRemove t s).free = s.free ∧
      (presetRemove t s).pending = s.pending := by
  unfold presetRemove
  (repeat' split) <;> simp

@[simp] theorem presetReport_frame (t : ToolId) (s : State) :
    (presetReport t s).trg = s.trg ∧ (presetReport t s).rds = s.rds ∧ (presetReport t s).cue = s.cue ∧
      (presetReport t s).hli = s.hli ∧ (presetReport t s).slk = s.slk ∧ (presetReport t s).cck = s.cck ∧
      (presetReport t s).stc = s.stc ∧ (presetReport t s).free = s.free ∧
      (presetReport t s).pending = s.pending := by
  unfold presetReport
  (repeat' split) <;> simp

@[simp] theorem clearMark_frame (p : PocketNo) (t : Option ToolId) (s : State) :
    (clearMark p t s).trg = s.trg ∧ (clearMark p t s).rds = s.rds ∧ (clearMark p t s).pru = s.pru ∧
      (clearMark p t s).cue = s.cue ∧ (clearMark p t s).hli = s.hli ∧ (clearMark p t s).cck = s.cck ∧
      (clearMark p t s).stc = s.stc ∧ (clearMark p t s).free = s.free ∧ (clearMark p t s).pending = s.pending := by
  unfold clearMark
  (repeat' split) <;> simp

@[simp] theorem clearEntryMark_frame (e : Entry) (s : State) :
    (clearEntryMark e s).trg = s.trg ∧ (clearEntryMark e s).rds = s.rds ∧ (clearEntryMark e s).pru = s.pru ∧
      (clearEntryMark e s).cue = s.cue ∧ (clearEntryMark e s).hli = s.hli ∧ (clearEntryMark e s).cck = s.cck ∧
      (clearEntryMark e s).stc = s.stc ∧ (clearEntryMark e s).free = s.free ∧
      (clearEntryMark e s).pending = s.pending := by
  unfold clearEntryMark
  (repeat' split) <;> simp

@[simp] theorem versioned_frame (t : ToolId) (f : Entry → Entry) (s : State) :
    (versioned t f s).rds = s.rds ∧ (versioned t f s).cue = s.cue ∧ (versioned t f s).cck = s.cck ∧
      (versioned t f s).stc = s.stc ∧ (versioned t f s).free = s.free ∧ (versioned t f s).pending = s.pending := by
  unfold versioned
  dsimp only
  (repeat' split) <;> simp

@[simp] theorem enqueueRead_frame (p : PocketNo) (s : State) :
    (enqueueRead p s).trg = s.trg ∧ (enqueueRead p s).pkc = s.pkc ∧ (enqueueRead p s).pru = s.pru ∧
      (enqueueRead p s).cue = s.cue ∧ (enqueueRead p s).hli = s.hli ∧ (enqueueRead p s).slk = s.slk ∧
      (enqueueRead p s).cck = s.cck ∧ (enqueueRead p s).stc = s.stc ∧ (enqueueRead p s).free = s.free ∧
      (enqueueRead p s).pending = s.pending := by
  unfold enqueueRead
  (repeat' split) <;> simp

@[simp] theorem requestRead_frame (p : PocketNo) (s : State) :
    (requestRead p s).trg = s.trg ∧ (requestRead p s).pru = s.pru ∧ (requestRead p s).cue = s.cue ∧
      (requestRead p s).hli = s.hli ∧ (requestRead p s).slk = s.slk ∧ (requestRead p s).cck = s.cck ∧
      (requestRead p s).stc = s.stc ∧ (requestRead p s).free = s.free ∧ (requestRead p s).pending = s.pending := by
  unfold requestRead
  (repeat' split) <;> simp

@[simp] theorem dropRead_frame (p : PocketNo) (s : State) :
    (dropRead p s).trg = s.trg ∧ (dropRead p s).pkc = s.pkc ∧ (dropRead p s).pru = s.pru ∧
      (dropRead p s).cue = s.cue ∧ (dropRead p s).hli = s.hli ∧ (dropRead p s).slk = s.slk ∧
      (dropRead p s).cck = s.cck ∧ (dropRead p s).stc = s.stc ∧ (dropRead p s).free = s.free ∧
      (dropRead p s).pending = s.pending := by
  unfold dropRead
  (repeat' split) <;> simp

@[simp] theorem dropWaitingAt_frame (x : Place) (s : State) :
    (dropWaitingAt x s).trg = s.trg ∧ (dropWaitingAt x s).pkc = s.pkc ∧ (dropWaitingAt x s).rds = s.rds ∧
      (dropWaitingAt x s).pru = s.pru ∧ (dropWaitingAt x s).hli = s.hli ∧ (dropWaitingAt x s).slk = s.slk ∧
      (dropWaitingAt x s).cck = s.cck ∧ (dropWaitingAt x s).stc = s.stc ∧ (dropWaitingAt x s).free = s.free ∧
      (dropWaitingAt x s).pending = s.pending := by
  unfold dropWaitingAt
  (repeat' split) <;> simp

@[simp] theorem withdrawReads_frame (p : PocketNo) (s : State) :
    (withdrawReads p s).trg = s.trg ∧ (withdrawReads p s).pru = s.pru ∧ (withdrawReads p s).hli = s.hli ∧
      (withdrawReads p s).slk = s.slk ∧ (withdrawReads p s).cck = s.cck ∧ (withdrawReads p s).stc = s.stc ∧
      (withdrawReads p s).free = s.free ∧ (withdrawReads p s).pending = s.pending := by
  unfold withdrawReads
  (repeat' split) <;> simp

@[simp] theorem disturbStage_frame (p : PocketNo) (s : State) :
    (disturbStage p s).trg = s.trg ∧ (disturbStage p s).pkc = s.pkc ∧ (disturbStage p s).rds = s.rds ∧
      (disturbStage p s).pru = s.pru ∧ (disturbStage p s).cue = s.cue ∧ (disturbStage p s).hli = s.hli ∧
      (disturbStage p s).cck = s.cck ∧ (disturbStage p s).stc = s.stc ∧ (disturbStage p s).free = s.free ∧
      (disturbStage p s).pending = s.pending := by
  unfold disturbStage
  (repeat' split) <;> simp

@[simp] theorem openDoor_frame (p : PocketNo) (s : State) :
    (openDoor p s).trg = s.trg ∧ (openDoor p s).pru = s.pru ∧ (openDoor p s).hli = s.hli ∧
      (openDoor p s).cck = s.cck ∧ (openDoor p s).stc = s.stc ∧ (openDoor p s).free = s.free ∧
      (openDoor p s).pending = s.pending := by
  unfold openDoor
  (repeat' split) <;> simp

@[simp] theorem unlatchOpens_frame (p : PocketNo) (s : State) :
    (unlatchOpens p s).trg = s.trg ∧ (unlatchOpens p s).pru = s.pru ∧ (unlatchOpens p s).hli = s.hli ∧
      (unlatchOpens p s).cck = s.cck ∧ (unlatchOpens p s).stc = s.stc ∧ (unlatchOpens p s).free = s.free ∧
      (unlatchOpens p s).pending = s.pending := by
  unfold unlatchOpens
  (repeat' split) <;> simp

@[simp] theorem openLatch_frame (p : PocketNo) (s : State) :
    (openLatch p s).trg = s.trg ∧ (openLatch p s).pru = s.pru ∧ (openLatch p s).hli = s.hli ∧
      (openLatch p s).cck = s.cck ∧ (openLatch p s).stc = s.stc ∧ (openLatch p s).free = s.free ∧
      (openLatch p s).pending = s.pending := by
  unfold openLatch
  dsimp only
  (repeat' split) <;> simp

@[simp] theorem closing_frame (p : PocketNo) (s : State) :
    (closing p s).trg = s.trg ∧ (closing p s).pru = s.pru ∧ (closing p s).cue = s.cue ∧ (closing p s).hli = s.hli ∧
      (closing p s).slk = s.slk ∧ (closing p s).cck = s.cck ∧ (closing p s).stc = s.stc ∧
      (closing p s).free = s.free ∧ (closing p s).pending = s.pending := by
  unfold closing
  dsimp only
  (repeat' split) <;> simp

@[simp] theorem suspendSweep_frame (s : State) :
    (suspendSweep s).trg = s.trg ∧ (suspendSweep s).pkc = s.pkc ∧ (suspendSweep s).pru = s.pru ∧
      (suspendSweep s).cue = s.cue ∧ (suspendSweep s).hli = s.hli ∧ (suspendSweep s).slk = s.slk ∧
      (suspendSweep s).cck = s.cck ∧ (suspendSweep s).stc = s.stc ∧ (suspendSweep s).free = s.free ∧
      (suspendSweep s).pending = s.pending := by
  unfold suspendSweep
  dsimp only
  (repeat' split) <;> simp

@[simp] theorem reportQuiet_frame (s : State) :
    (reportQuiet s).trg = s.trg ∧ (reportQuiet s).pkc = s.pkc ∧ (reportQuiet s).pru = s.pru ∧
      (reportQuiet s).cue = s.cue ∧ (reportQuiet s).hli = s.hli ∧ (reportQuiet s).slk = s.slk ∧
      (reportQuiet s).cck = s.cck ∧ (reportQuiet s).stc = s.stc ∧ (reportQuiet s).free = s.free ∧
      (reportQuiet s).pending = s.pending := by
  unfold reportQuiet
  (repeat' split) <;> simp

@[simp] theorem startSweep_frame (s : State) :
    (startSweep s).trg = s.trg ∧ (startSweep s).pkc = s.pkc ∧ (startSweep s).pru = s.pru ∧
      (startSweep s).cue = s.cue ∧ (startSweep s).hli = s.hli ∧ (startSweep s).slk = s.slk ∧
      (startSweep s).cck = s.cck ∧ (startSweep s).stc = s.stc ∧ (startSweep s).free = s.free ∧
      (startSweep s).pending = s.pending := by
  unfold startSweep
  (repeat' split) <;> simp

@[simp] theorem startIdleSweep_frame (s : State) :
    (startIdleSweep s).trg = s.trg ∧
      (startIdleSweep s).pkc = s.pkc ∧
      (startIdleSweep s).pru = s.pru ∧
      (startIdleSweep s).cue = s.cue ∧
      (startIdleSweep s).hli = s.hli ∧
      (startIdleSweep s).slk = s.slk ∧
      (startIdleSweep s).cck = s.cck ∧
      (startIdleSweep s).stc = s.stc ∧
      (startIdleSweep s).free = s.free ∧
      (startIdleSweep s).pending = s.pending := by
  unfold startIdleSweep
  (repeat' split) <;> simp

@[simp] theorem retryLatches_frame (s : State) :
    (retryLatches s).trg = s.trg ∧
      (retryLatches s).rds = s.rds ∧
      (retryLatches s).pru = s.pru ∧
      (retryLatches s).cue = s.cue ∧
      (retryLatches s).hli = s.hli ∧
      (retryLatches s).slk = s.slk ∧
      (retryLatches s).cck = s.cck ∧
      (retryLatches s).stc = s.stc ∧
      (retryLatches s).free = s.free ∧
      (retryLatches s).pending = s.pending := by
  simp [retryLatches]

@[simp] theorem putGiver_frame (g : Giver) (s : State) :
    (putGiver g s).trg = s.trg ∧ (putGiver g s).pkc = s.pkc ∧ (putGiver g s).rds = s.rds ∧
      (putGiver g s).pru = s.pru ∧ (putGiver g s).hli = s.hli ∧ (putGiver g s).slk = s.slk ∧
      (putGiver g s).cck = s.cck ∧ (putGiver g s).stc = s.stc ∧ (putGiver g s).free = s.free ∧
      (putGiver g s).pending = s.pending := by
  unfold putGiver
  (repeat' split) <;> simp

@[simp] theorem putTaker_frame (k : Taker) (s : State) :
    (putTaker k s).trg = s.trg ∧ (putTaker k s).pkc = s.pkc ∧ (putTaker k s).rds = s.rds ∧
      (putTaker k s).pru = s.pru ∧ (putTaker k s).hli = s.hli ∧ (putTaker k s).slk = s.slk ∧
      (putTaker k s).cck = s.cck ∧ (putTaker k s).stc = s.stc ∧ (putTaker k s).free = s.free ∧
      (putTaker k s).pending = s.pending := by
  unfold putTaker
  (repeat' split) <;> simp

@[simp] theorem closeGiver_frame (g : Giver) (s : State) :
    (closeGiver g s).trg = s.trg ∧ (closeGiver g s).pkc = s.pkc ∧ (closeGiver g s).rds = s.rds ∧
      (closeGiver g s).pru = s.pru ∧ (closeGiver g s).hli = s.hli ∧ (closeGiver g s).slk = s.slk ∧
      (closeGiver g s).cck = s.cck ∧ (closeGiver g s).stc = s.stc ∧ (closeGiver g s).free = s.free ∧
      (closeGiver g s).pending = s.pending := by
  unfold closeGiver
  (repeat' split) <;> simp

@[simp] theorem closeTaker_frame (k : Taker) (s : State) :
    (closeTaker k s).trg = s.trg ∧ (closeTaker k s).pkc = s.pkc ∧ (closeTaker k s).rds = s.rds ∧
      (closeTaker k s).pru = s.pru ∧ (closeTaker k s).hli = s.hli ∧ (closeTaker k s).slk = s.slk ∧
      (closeTaker k s).cck = s.cck ∧ (closeTaker k s).stc = s.stc ∧ (closeTaker k s).free = s.free ∧
      (closeTaker k s).pending = s.pending := by
  unfold closeTaker
  (repeat' split) <;> simp

@[simp] theorem unreserve_frame (p : PocketNo) (s : State) :
    (unreserve p s).trg = s.trg ∧ (unreserve p s).rds = s.rds ∧ (unreserve p s).pru = s.pru ∧
      (unreserve p s).cue = s.cue ∧ (unreserve p s).hli = s.hli ∧ (unreserve p s).slk = s.slk ∧
      (unreserve p s).cck = s.cck ∧ (unreserve p s).stc = s.stc ∧ (unreserve p s).free = s.free ∧
      (unreserve p s).pending = s.pending := by
  unfold unreserve
  (repeat' split) <;> simp

@[simp] theorem relatchPresent_frame (p : PocketNo) (s : State) :
    (relatchPresent p s).trg = s.trg ∧ (relatchPresent p s).rds = s.rds ∧ (relatchPresent p s).pru = s.pru ∧
      (relatchPresent p s).cue = s.cue ∧ (relatchPresent p s).hli = s.hli ∧ (relatchPresent p s).slk = s.slk ∧
      (relatchPresent p s).cck = s.cck ∧ (relatchPresent p s).stc = s.stc ∧ (relatchPresent p s).free = s.free ∧
      (relatchPresent p s).pending = s.pending := by
  unfold relatchPresent
  (repeat' split) <;> simp

@[simp] theorem relatchGone_frame (p : PocketNo) (s : State) :
    (relatchGone p s).trg = s.trg ∧ (relatchGone p s).rds = s.rds ∧ (relatchGone p s).pru = s.pru ∧
      (relatchGone p s).cue = s.cue ∧ (relatchGone p s).hli = s.hli ∧ (relatchGone p s).slk = s.slk ∧
      (relatchGone p s).cck = s.cck ∧ (relatchGone p s).stc = s.stc ∧ (relatchGone p s).free = s.free ∧
      (relatchGone p s).pending = s.pending := by
  unfold relatchGone
  (repeat' split) <;> simp

@[simp] theorem target_frame (p : PocketNo) (n : SeekNo) (s : State) :
    (target p n s).trg = s.trg ∧ (target p n s).pru = s.pru ∧ (target p n s).hli = s.hli ∧
      (target p n s).cck = s.cck ∧ (target p n s).stc = s.stc ∧ (target p n s).free = s.free ∧
      (target p n s).pending = s.pending := by
  unfold target
  (repeat' split) <;> simp

@[simp] theorem untarget_frame (p : PocketNo) (s : State) :
    (untarget p s).trg = s.trg ∧ (untarget p s).pru = s.pru ∧ (untarget p s).cue = s.cue ∧
      (untarget p s).hli = s.hli ∧ (untarget p s).slk = s.slk ∧ (untarget p s).cck = s.cck ∧
      (untarget p s).stc = s.stc ∧ (untarget p s).free = s.free ∧ (untarget p s).pending = s.pending := by
  unfold untarget
  (repeat' split) <;> simp

@[simp] theorem restock_frame (t : ToolId) (s : State) :
    (restock t s).pkc = s.pkc ∧ (restock t s).rds = s.rds ∧ (restock t s).pru = s.pru ∧ (restock t s).cue = s.cue ∧
      (restock t s).hli = s.hli ∧ (restock t s).slk = s.slk ∧ (restock t s).cck = s.cck ∧ (restock t s).stc = s.stc
      ∧ (restock t s).free = s.free ∧ (restock t s).pending = s.pending := by
  unfold restock
  (repeat' split) <;> simp

@[simp] theorem failTaker_frame (k : Taker) (r : FailReason) (s : State) :
    (failTaker k r s).trg = s.trg ∧ (failTaker k r s).pru = s.pru ∧ (failTaker k r s).hli = s.hli ∧
      (failTaker k r s).cck = s.cck ∧ (failTaker k r s).stc = s.stc ∧ (failTaker k r s).free = s.free ∧
      (failTaker k r s).pending = s.pending := by
  unfold failTaker
  (repeat' split) <;> simp

@[simp] theorem sendResult_frame (r : Result) (s : State) :
    (sendResult r s).trg = s.trg ∧ (sendResult r s).pkc = s.pkc ∧ (sendResult r s).rds = s.rds ∧
      (sendResult r s).cue = s.cue ∧ (sendResult r s).hli = s.hli ∧ (sendResult r s).slk = s.slk ∧
      (sendResult r s).cck = s.cck ∧ (sendResult r s).stc = s.stc ∧ (sendResult r s).free = s.free ∧
      (sendResult r s).pending = s.pending := by
  unfold sendResult
  (repeat' split) <;> simp

@[simp] theorem abortBurst_frame (s : State) :
    (abortBurst s).trg = s.trg ∧ (abortBurst s).pkc = s.pkc ∧ (abortBurst s).rds = s.rds ∧
      (abortBurst s).cue = s.cue ∧ (abortBurst s).hli = s.hli ∧ (abortBurst s).slk = s.slk ∧
      (abortBurst s).cck = s.cck ∧ (abortBurst s).stc = s.stc ∧ (abortBurst s).free = s.free ∧
      (abortBurst s).pending = s.pending := by
  unfold abortBurst
  (repeat' split) <;> simp

@[simp] theorem endBursts_frame (s : State) :
    (endBursts s).trg = s.trg ∧ (endBursts s).pkc = s.pkc ∧ (endBursts s).rds = s.rds ∧ (endBursts s).cue = s.cue ∧
      (endBursts s).hli = s.hli ∧ (endBursts s).slk = s.slk ∧ (endBursts s).cck = s.cck ∧ (endBursts s).stc = s.stc
      ∧ (endBursts s).free = s.free ∧ (endBursts s).pending = s.pending := by
  unfold endBursts
  (repeat' split) <;> simp

@[simp] theorem gaugeLeft_frame (t : ToolId) (s : State) :
    (gaugeLeft t s).trg = s.trg ∧ (gaugeLeft t s).pkc = s.pkc ∧ (gaugeLeft t s).rds = s.rds ∧
      (gaugeLeft t s).cue = s.cue ∧ (gaugeLeft t s).hli = s.hli ∧ (gaugeLeft t s).slk = s.slk ∧
      (gaugeLeft t s).cck = s.cck ∧ (gaugeLeft t s).stc = s.stc ∧ (gaugeLeft t s).free = s.free ∧
      (gaugeLeft t s).pending = s.pending := by
  unfold gaugeLeft
  (repeat' split) <;> simp

@[simp] theorem displaceGauge_frame (t : ToolId) (s : State) :
    (displaceGauge t s).rds = s.rds ∧ (displaceGauge t s).cue = s.cue ∧ (displaceGauge t s).cck = s.cck ∧
      (displaceGauge t s).stc = s.stc ∧ (displaceGauge t s).free = s.free ∧
      (displaceGauge t s).pending = s.pending := by
  unfold displaceGauge
  (repeat' split) <;> simp

@[simp] theorem evictForRoom_frame (s : State) :
    (evictForRoom s).pkc = s.pkc ∧ (evictForRoom s).rds = s.rds ∧ (evictForRoom s).pru = s.pru ∧
      (evictForRoom s).cue = s.cue ∧ (evictForRoom s).hli = s.hli ∧ (evictForRoom s).slk = s.slk ∧
      (evictForRoom s).cck = s.cck ∧ (evictForRoom s).stc = s.stc ∧ (evictForRoom s).free = s.free ∧
      (evictForRoom s).pending = s.pending := by
  unfold evictForRoom
  (repeat' split) <;> simp

@[simp] theorem createEntry_frame (e : Entry) (s : State) :
    (createEntry e s).pkc = s.pkc ∧ (createEntry e s).rds = s.rds ∧ (createEntry e s).pru = s.pru ∧
      (createEntry e s).cue = s.cue ∧ (createEntry e s).hli = s.hli ∧ (createEntry e s).slk = s.slk ∧
      (createEntry e s).cck = s.cck ∧ (createEntry e s).stc = s.stc ∧ (createEntry e s).free = s.free ∧
      (createEntry e s).pending = s.pending := by
  unfold createEntry
  dsimp only
  (repeat' split) <;> simp

@[simp] theorem openWindow_frame (w : Window) (s : State) :
    (openWindow w s).trg = s.trg ∧ (openWindow w s).pkc = s.pkc ∧ (openWindow w s).rds = s.rds ∧
      (openWindow w s).pru = s.pru ∧ (openWindow w s).hli = s.hli ∧ (openWindow w s).slk = s.slk ∧
      (openWindow w s).cck = s.cck ∧ (openWindow w s).stc = s.stc ∧ (openWindow w s).free = s.free ∧
      (openWindow w s).pending = s.pending := by
  unfold openWindow
  (repeat' split) <;> simp

@[simp] theorem openAdoption_frame (t : ToolId) (kind : Nat) (x : Place) (s : State) :
    (openAdoption t kind x s).rds = s.rds ∧ (openAdoption t kind x s).cck = s.cck ∧
      (openAdoption t kind x s).stc = s.stc ∧ (openAdoption t kind x s).free = s.free ∧
      (openAdoption t kind x s).pending = s.pending := by
  unfold openAdoption
  (repeat' split) <;> simp

@[simp] theorem openTransitCheck_frame (t : ToolId) (s : State) :
    (openTransitCheck t s).trg = s.trg ∧ (openTransitCheck t s).pkc = s.pkc ∧ (openTransitCheck t s).rds = s.rds ∧
      (openTransitCheck t s).pru = s.pru ∧ (openTransitCheck t s).slk = s.slk ∧ (openTransitCheck t s).cck = s.cck ∧
      (openTransitCheck t s).stc = s.stc ∧ (openTransitCheck t s).free = s.free ∧
      (openTransitCheck t s).pending = s.pending := by
  unfold openTransitCheck
  (repeat' split) <;> simp

@[simp] theorem takeWaiting_frame (w : Waiting) (s : State) :
    (takeWaiting w s).cck = s.cck ∧ (takeWaiting w s).stc = s.stc ∧ (takeWaiting w s).free = s.free ∧
      (takeWaiting w s).pending = s.pending := by
  unfold takeWaiting
  dsimp only
  (repeat' split) <;> simp

@[simp] theorem serveWaiting_frame (l : List Waiting) (s : State) :
    (serveWaiting l s).cck = s.cck ∧ (serveWaiting l s).stc = s.stc ∧ (serveWaiting l s).free = s.free ∧
      (serveWaiting l s).pending = s.pending := by
  induction l generalizing s with
  | nil => simp [serveWaiting]
  | cons w ws ih => unfold serveWaiting; split <;> simp [ih]

@[simp] theorem closeWindow_frame (t : ToolId) (s : State) :
    (closeWindow t s).cck = s.cck ∧ (closeWindow t s).stc = s.stc ∧ (closeWindow t s).free = s.free ∧
      (closeWindow t s).pending = s.pending := by
  unfold closeWindow
  dsimp only
  (repeat' split) <;> simp

@[simp] theorem closeTransitCheck_frame (t : ToolId) (s : State) :
    (closeTransitCheck t s).cck = s.cck ∧ (closeTransitCheck t s).stc = s.stc ∧
      (closeTransitCheck t s).free = s.free ∧ (closeTransitCheck t s).pending = s.pending := by
  unfold closeTransitCheck
  dsimp only
  (repeat' split) <;> simp

@[simp] theorem beginTransitCheck_frame (t : ToolId) (s : State) :
    (beginTransitCheck t s).trg = s.trg ∧ (beginTransitCheck t s).pkc = s.pkc ∧ (beginTransitCheck t s).rds = s.rds
      ∧ (beginTransitCheck t s).pru = s.pru ∧ (beginTransitCheck t s).slk = s.slk ∧
      (beginTransitCheck t s).cck = s.cck ∧ (beginTransitCheck t s).stc = s.stc ∧
      (beginTransitCheck t s).free = s.free ∧ (beginTransitCheck t s).pending = s.pending := by
  unfold beginTransitCheck
  (repeat' split) <;> simp

@[simp] theorem foreignArrival_frame (t : ToolId) (kind : Nat) (x : Place) (s : State) :
    (foreignArrival t kind x s).rds = s.rds ∧ (foreignArrival t kind x s).cck = s.cck ∧
      (foreignArrival t kind x s).stc = s.stc ∧ (foreignArrival t kind x s).free = s.free ∧
      (foreignArrival t kind x s).pending = s.pending := by
  unfold foreignArrival
  (repeat' split) <;> simp

@[simp] theorem settleAdoption_frame (t : ToolId) (fallback heard : Option Record) (s : State) :
    (settleAdoption t fallback heard s).cck = s.cck ∧ (settleAdoption t fallback heard s).stc = s.stc ∧
      (settleAdoption t fallback heard s).free = s.free ∧
      (settleAdoption t fallback heard s).pending = s.pending := by
  unfold settleAdoption
  dsimp only
  (repeat' split) <;> simp

@[simp] theorem hearRecord_frame (r : Record) (s : State) :
    (hearRecord r s).trg = s.trg ∧ (hearRecord r s).pkc = s.pkc ∧ (hearRecord r s).rds = s.rds ∧
      (hearRecord r s).pru = s.pru ∧ (hearRecord r s).hli = s.hli ∧ (hearRecord r s).slk = s.slk ∧
      (hearRecord r s).cck = s.cck ∧ (hearRecord r s).stc = s.stc ∧ (hearRecord r s).free = s.free ∧
      (hearRecord r s).pending = s.pending := by
  unfold hearRecord
  (repeat' split) <;> simp

@[simp] theorem takeNext_frame (l : List Offer) (k : Taker) (s : State) :
    (takeNext l k s).trg = s.trg ∧ (takeNext l k s).pru = s.pru ∧ (takeNext l k s).cck = s.cck ∧
      (takeNext l k s).stc = s.stc ∧ (takeNext l k s).free = s.free ∧ (takeNext l k s).pending = s.pending := by
  induction l generalizing k s with
  | nil => simp [takeNext]
  | cons o rest ih => unfold takeNext; dsimp only; split <;> simp [ih]

@[simp] theorem fallBack_frame (k : Taker) (s : State) :
    (fallBack k s).trg = s.trg ∧ (fallBack k s).pru = s.pru ∧ (fallBack k s).cck = s.cck ∧
      (fallBack k s).stc = s.stc ∧ (fallBack k s).free = s.free ∧ (fallBack k s).pending = s.pending := by
  unfold fallBack
  dsimp only
  (repeat' split) <;> simp

@[simp] theorem handSeek_frame (k : Taker) (s : State) :
    (handSeek k s).trg = s.trg ∧ (handSeek k s).pru = s.pru ∧ (handSeek k s).cck = s.cck ∧
      (handSeek k s).stc = s.stc ∧ (handSeek k s).free = s.free ∧ (handSeek k s).pending = s.pending := by
  unfold handSeek
  (repeat' split) <;> simp

@[simp] theorem endOffered_frame (g : Giver) (s : State) :
    (endOffered g s).rds = s.rds ∧ (endOffered g s).pru = s.pru ∧ (endOffered g s).hli = s.hli ∧
      (endOffered g s).slk = s.slk ∧ (endOffered g s).cck = s.cck ∧ (endOffered g s).stc = s.stc ∧
      (endOffered g s).free = s.free ∧ (endOffered g s).pending = s.pending := by
  unfold endOffered
  (repeat' split) <;> simp

@[simp] theorem handOffer_frame (g : Giver) (s : State) :
    (handOffer g s).rds = s.rds ∧ (handOffer g s).pru = s.pru ∧ (handOffer g s).slk = s.slk ∧
      (handOffer g s).cck = s.cck ∧ (handOffer g s).stc = s.stc ∧ (handOffer g s).free = s.free ∧
      (handOffer g s).pending = s.pending := by
  unfold handOffer
  (repeat' split) <;> simp

@[simp] theorem readGiverPocket_frame (g : Giver) (s : State) :
    (readGiverPocket g s).trg = s.trg ∧ (readGiverPocket g s).pru = s.pru ∧ (readGiverPocket g s).cue = s.cue ∧
      (readGiverPocket g s).hli = s.hli ∧ (readGiverPocket g s).slk = s.slk ∧ (readGiverPocket g s).cck = s.cck ∧
      (readGiverPocket g s).stc = s.stc ∧ (readGiverPocket g s).free = s.free ∧
      (readGiverPocket g s).pending = s.pending := by
  unfold readGiverPocket
  (repeat' split) <;> simp

@[simp] theorem startWithdrawing_frame (g : Giver) (s : State) :
    (startWithdrawing g s).trg = s.trg ∧ (startWithdrawing g s).pru = s.pru ∧ (startWithdrawing g s).hli = s.hli ∧
      (startWithdrawing g s).slk = s.slk ∧ (startWithdrawing g s).cck = s.cck ∧ (startWithdrawing g s).stc = s.stc ∧
      (startWithdrawing g s).free = s.free ∧ (startWithdrawing g s).pending = s.pending := by
  unfold startWithdrawing
  (repeat' split) <;> simp

@[simp] theorem lapseGiver_frame (g : Giver) (s : State) :
    (lapseGiver g s).cck = s.cck ∧ (lapseGiver g s).stc = s.stc ∧ (lapseGiver g s).free = s.free ∧
      (lapseGiver g s).pending = s.pending := by
  unfold lapseGiver
  (repeat' split) <;> simp

@[simp] theorem lapseSeeker_frame (g : Giver) (s : State) :
    (lapseSeeker g s).trg = s.trg ∧ (lapseSeeker g s).pkc = s.pkc ∧ (lapseSeeker g s).rds = s.rds ∧
      (lapseSeeker g s).pru = s.pru ∧ (lapseSeeker g s).cue = s.cue ∧ (lapseSeeker g s).slk = s.slk ∧
      (lapseSeeker g s).cck = s.cck ∧ (lapseSeeker g s).stc = s.stc ∧ (lapseSeeker g s).free = s.free ∧
      (lapseSeeker g s).pending = s.pending := by
  unfold lapseSeeker
  (repeat' split) <;> simp

@[simp] theorem withdrawGiver_frame (c : GiverCause) (t : ToolId) (s : State) :
    (withdrawGiver c t s).cck = s.cck ∧ (withdrawGiver c t s).stc = s.stc ∧ (withdrawGiver c t s).free = s.free ∧
      (withdrawGiver c t s).pending = s.pending := by
  unfold withdrawGiver
  (repeat' split) <;> simp

@[simp] theorem versionedCondition_frame (t : ToolId) (f : Entry → Entry) (s : State) :
    (versionedCondition t f s).cck = s.cck ∧ (versionedCondition t f s).stc = s.stc ∧
      (versionedCondition t f s).free = s.free ∧ (versionedCondition t f s).pending = s.pending := by
  unfold versionedCondition
  (repeat' split) <;> simp

@[simp] theorem vacateEntry_frame (e : Entry) (s : State) :
    (vacateEntry e s).trg = s.trg ∧ (vacateEntry e s).rds = s.rds ∧ (vacateEntry e s).pru = s.pru ∧
      (vacateEntry e s).cue = s.cue ∧ (vacateEntry e s).hli = s.hli ∧ (vacateEntry e s).slk = s.slk ∧
      (vacateEntry e s).cck = s.cck ∧ (vacateEntry e s).stc = s.stc ∧ (vacateEntry e s).free = s.free ∧
      (vacateEntry e s).pending = s.pending := by
  unfold vacateEntry
  (repeat' split) <;> simp

@[simp] theorem vacateMoved_frame (q : PocketNo) (t : ToolId) (s : State) :
    (vacateMoved q t s).trg = s.trg ∧ (vacateMoved q t s).pru = s.pru ∧ (vacateMoved q t s).cue = s.cue ∧
      (vacateMoved q t s).hli = s.hli ∧ (vacateMoved q t s).cck = s.cck ∧ (vacateMoved q t s).stc = s.stc ∧
      (vacateMoved q t s).free = s.free ∧ (vacateMoved q t s).pending = s.pending := by
  unfold vacateMoved
  dsimp only
  (repeat' split) <;> simp

@[simp] theorem endGaugeBursts_frame (t : ToolId) (s : State) :
    (endGaugeBursts t s).trg = s.trg ∧ (endGaugeBursts t s).pkc = s.pkc ∧ (endGaugeBursts t s).rds = s.rds ∧
      (endGaugeBursts t s).cue = s.cue ∧ (endGaugeBursts t s).hli = s.hli ∧ (endGaugeBursts t s).slk = s.slk ∧
      (endGaugeBursts t s).cck = s.cck ∧ (endGaugeBursts t s).stc = s.stc ∧ (endGaugeBursts t s).free = s.free ∧
      (endGaugeBursts t s).pending = s.pending := by
  unfold endGaugeBursts
  (repeat' split) <;> simp

@[simp] theorem deleteEntry_frame (t : ToolId) (s : State) :
    (deleteEntry t s).cck = s.cck ∧ (deleteEntry t s).stc = s.stc ∧ (deleteEntry t s).free = s.free ∧
      (deleteEntry t s).pending = s.pending := by
  unfold deleteEntry
  (repeat' split) <;> simp

@[simp] theorem yieldTo_frame (r : Record) (s : State) :
    (yieldTo r s).cck = s.cck ∧ (yieldTo r s).stc = s.stc ∧ (yieldTo r s).free = s.free ∧
      (yieldTo r s).pending = s.pending := by
  unfold yieldTo
  (repeat' split) <;> simp

@[simp] theorem conflictFound_frame (t : ToolId) (s : State) :
    (conflictFound t s).cck = s.cck ∧ (conflictFound t s).stc = s.stc ∧ (conflictFound t s).free = s.free ∧
      (conflictFound t s).pending = s.pending := by
  unfold conflictFound
  (repeat' split) <;> simp

@[simp] theorem conflictReceived_frame (t : ToolId) (s : State) :
    (conflictReceived t s).cck = s.cck ∧ (conflictReceived t s).stc = s.stc ∧ (conflictReceived t s).free = s.free ∧
      (conflictReceived t s).pending = s.pending := by
  unfold conflictReceived
  (repeat' split) <;> simp

@[simp] theorem reassert_frame (r : Record) (s : State) :
    (reassert r s).rds = s.rds ∧ (reassert r s).pru = s.pru ∧ (reassert r s).cue = s.cue ∧
      (reassert r s).cck = s.cck ∧ (reassert r s).stc = s.stc ∧ (reassert r s).free = s.free ∧
      (reassert r s).pending = s.pending := by
  unfold reassert
  (repeat' split) <;> simp

@[simp] theorem retag_frame (t : ToolId) (kind : Nat) (s : State) :
    (retag t kind s).cck = s.cck ∧ (retag t kind s).stc = s.stc ∧ (retag t kind s).free = s.free ∧
      (retag t kind s).pending = s.pending := by
  unfold retag
  (repeat' split) <;> simp

@[simp] theorem settleHolding_frame (held : Bool) (r : Record) (s : State) :
    (settleHolding held r s).cck = s.cck ∧ (settleHolding held r s).stc = s.stc ∧
      (settleHolding held r s).free = s.free ∧ (settleHolding held r s).pending = s.pending := by
  unfold settleHolding
  (repeat' split) <;> simp

@[simp] theorem beginCheck_frame (p : PocketNo) (r : Record) (s : State) :
    (beginCheck p r s).pkc = s.pkc ∧ (beginCheck p r s).pru = s.pru ∧ (beginCheck p r s).cue = s.cue ∧
      (beginCheck p r s).hli = s.hli ∧ (beginCheck p r s).slk = s.slk ∧ (beginCheck p r s).cck = s.cck ∧
      (beginCheck p r s).stc = s.stc ∧ (beginCheck p r s).free = s.free ∧
      (beginCheck p r s).pending = s.pending := by
  unfold beginCheck
  (repeat' split) <;> simp

@[simp] theorem recheckWith_frame (r : Record) (s : State) :
    (recheckWith r s).pkc = s.pkc ∧ (recheckWith r s).rds = s.rds ∧ (recheckWith r s).pru = s.pru ∧
      (recheckWith r s).cue = s.cue ∧ (recheckWith r s).hli = s.hli ∧ (recheckWith r s).slk = s.slk ∧
      (recheckWith r s).cck = s.cck ∧ (recheckWith r s).stc = s.stc ∧ (recheckWith r s).free = s.free ∧
      (recheckWith r s).pending = s.pending := by
  unfold recheckWith
  (repeat' split) <;> simp

@[simp] theorem createCached_frame (r : Record) (s : State) :
    (createCached r s).pkc = s.pkc ∧ (createCached r s).rds = s.rds ∧ (createCached r s).pru = s.pru ∧
      (createCached r s).cue = s.cue ∧ (createCached r s).hli = s.hli ∧ (createCached r s).slk = s.slk ∧
      (createCached r s).cck = s.cck ∧ (createCached r s).stc = s.stc ∧ (createCached r s).free = s.free ∧
      (createCached r s).pending = s.pending := by
  unfold createCached
  (repeat' split) <;> simp

@[simp] theorem mergeCached_frame (e : Entry) (r : Record) (s : State) :
    (mergeCached e r s).pkc = s.pkc ∧ (mergeCached e r s).rds = s.rds ∧ (mergeCached e r s).pru = s.pru ∧
      (mergeCached e r s).cue = s.cue ∧ (mergeCached e r s).hli = s.hli ∧ (mergeCached e r s).slk = s.slk ∧
      (mergeCached e r s).cck = s.cck ∧ (mergeCached e r s).stc = s.stc ∧ (mergeCached e r s).free = s.free ∧
      (mergeCached e r s).pending = s.pending := by
  unfold mergeCached
  (repeat' split) <;> simp

@[simp] theorem mergeSuperseding_frame (e : Entry) (r : Record) (s : State) :
    (mergeSuperseding e r s).cck = s.cck ∧ (mergeSuperseding e r s).stc = s.stc ∧
      (mergeSuperseding e r s).free = s.free ∧ (mergeSuperseding e r s).pending = s.pending := by
  unfold mergeSuperseding
  (repeat' split) <;> simp

@[simp] theorem mergeByVersion_frame (e : Entry) (r : Record) (s : State) :
    (mergeByVersion e r s).cck = s.cck ∧
      (mergeByVersion e r s).stc = s.stc ∧
      (mergeByVersion e r s).free = s.free ∧
      (mergeByVersion e r s).pending = s.pending := by
  unfold mergeByVersion
  (repeat' split) <;> simp

@[simp] theorem mergeCustody_frame (e : Entry) (r : Record) (s : State) :
    (mergeCustody e r s).cck = s.cck ∧ (mergeCustody e r s).stc = s.stc ∧ (mergeCustody e r s).free = s.free ∧
      (mergeCustody e r s).pending = s.pending := by
  unfold mergeCustody
  (repeat' split) <;> simp

@[simp] theorem mergeRecord_frame (r : Record) (s : State) :
    (mergeRecord r s).cck = s.cck ∧ (mergeRecord r s).stc = s.stc ∧ (mergeRecord r s).free = s.free ∧
      (mergeRecord r s).pending = s.pending := by
  unfold mergeRecord
  dsimp only
  (repeat' split) <;> simp

@[simp] theorem settleCheck_frame (c : PresenceCheck) (o : Outcome) (s : State) :
    (settleCheck c o s).cck = s.cck ∧ (settleCheck c o s).stc = s.stc ∧ (settleCheck c o s).free = s.free ∧
      (settleCheck c o s).pending = s.pending := by
  unfold settleCheck
  dsimp only
  (repeat' split) <;> simp

@[simp] theorem leavePlace_frame (t : ToolId) (s : State) :
    (leavePlace t s).cck = s.cck ∧ (leavePlace t s).stc = s.stc ∧ (leavePlace t s).free = s.free ∧
      (leavePlace t s).pending = s.pending := by
  unfold leavePlace
  (repeat' split) <;> simp

@[simp] theorem forceAway_frame (p : PocketNo) (t : ToolId) (s : State) :
    (forceAway p t s).cck = s.cck ∧ (forceAway p t s).stc = s.stc ∧ (forceAway p t s).free = s.free ∧
      (forceAway p t s).pending = s.pending := by
  unfold forceAway
  (repeat' split) <;> simp

@[simp] theorem cacheReceived_frame (src : StationId) (t : ToolId) (v : Version) (s : State) :
    (cacheReceived src t v s).rds = s.rds ∧ (cacheReceived src t v s).cue = s.cue ∧
      (cacheReceived src t v s).slk = s.slk ∧ (cacheReceived src t v s).cck = s.cck ∧
      (cacheReceived src t v s).stc = s.stc ∧ (cacheReceived src t v s).free = s.free ∧
      (cacheReceived src t v s).pending = s.pending := by
  unfold cacheReceived
  (repeat' split) <;> simp

@[simp] theorem takerArrival_frame (k : Taker) (o : Offer) (q : PocketNo) (kind : Nat) (s : State) :
    (takerArrival k o q kind s).cck = s.cck ∧ (takerArrival k o q kind s).stc = s.stc ∧
      (takerArrival k o q kind s).pending = s.pending := by
  unfold takerArrival
  dsimp only
  (repeat' split) <;> simp

@[simp] theorem reportReturn_frame (e : Entry) (s : State) :
    (reportReturn e s).trg = s.trg ∧
      (reportReturn e s).rds = s.rds ∧
      (reportReturn e s).cue = s.cue ∧
      (reportReturn e s).hli = s.hli ∧
      (reportReturn e s).slk = s.slk ∧
      (reportReturn e s).cck = s.cck ∧
      (reportReturn e s).stc = s.stc ∧
      (reportReturn e s).free = s.free ∧
      (reportReturn e s).pending = s.pending := by
  unfold reportReturn
  (repeat' split) <;> simp

@[simp] theorem settleTag_frame (p : PocketNo) (u : ToolId) (kind : Nat) (s : State) :
    (settleTag p u kind s).cck = s.cck ∧ (settleTag p u kind s).stc = s.stc ∧ (settleTag p u kind s).free = s.free ∧
      (settleTag p u kind s).pending = s.pending := by
  unfold settleTag
  (repeat' split) <;> simp

@[simp] theorem arriveInsert_frame (p : PocketNo) (u : ToolId) (kind : Nat) (s : State) :
    (arriveInsert p u kind s).cck = s.cck ∧ (arriveInsert p u kind s).stc = s.stc ∧
      (arriveInsert p u kind s).pending = s.pending := by
  unfold arriveInsert
  (repeat' split) <;> simp

@[simp] theorem emptyVerified_frame (p : PocketNo) (s : State) :
    (emptyVerified p s).trg = s.trg ∧ (emptyVerified p s).rds = s.rds ∧ (emptyVerified p s).pru = s.pru ∧
      (emptyVerified p s).cue = s.cue ∧ (emptyVerified p s).hli = s.hli ∧ (emptyVerified p s).slk = s.slk ∧
      (emptyVerified p s).cck = s.cck ∧ (emptyVerified p s).stc = s.stc ∧ (emptyVerified p s).free = s.free ∧
      (emptyVerified p s).pending = s.pending := by
  unfold emptyVerified
  (repeat' split) <;> simp

@[simp] theorem insertTag_frame (p : PocketNo) (l : Latch) (u : ToolId) (kind : Nat) (s : State) :
    (insertTag p l u kind s).cck = s.cck ∧ (insertTag p l u kind s).stc = s.stc ∧
      (insertTag p l u kind s).pending = s.pending := by
  unfold insertTag
  (repeat' split) <;> simp

@[simp] theorem unverify_frame (p : PocketNo) (s : State) :
    (unverify p s).trg = s.trg ∧ (unverify p s).rds = s.rds ∧ (unverify p s).pru = s.pru ∧
      (unverify p s).cue = s.cue ∧ (unverify p s).hli = s.hli ∧ (unverify p s).slk = s.slk ∧
      (unverify p s).cck = s.cck ∧ (unverify p s).stc = s.stc ∧ (unverify p s).free = s.free ∧
      (unverify p s).pending = s.pending := by
  unfold unverify
  (repeat' split) <;> simp

@[simp] theorem insertOutcome_frame (p : PocketNo) (o : Outcome) (s : State) :
    (insertOutcome p o s).cck = s.cck ∧ (insertOutcome p o s).stc = s.stc ∧
      (insertOutcome p o s).pending = s.pending := by
  unfold insertOutcome
  (repeat' split) <;> simp

@[simp] theorem vacatedOutcome_frame (p : PocketNo) (v : Vacated) (o : Outcome) (s : State) :
    (vacatedOutcome p v o s).cck = s.cck ∧ (vacatedOutcome p v o s).stc = s.stc ∧
      (vacatedOutcome p v o s).pending = s.pending := by
  unfold vacatedOutcome
  dsimp only
  (repeat' split) <;> simp

@[simp] theorem removeOutcome_frame (p : PocketNo) (t : ToolId) (o : Outcome) (s : State) :
    (removeOutcome p t o s).cck = s.cck ∧ (removeOutcome p t o s).stc = s.stc ∧
      (removeOutcome p t o s).pending = s.pending := by
  unfold removeOutcome
  (repeat' split) <;> simp

@[simp] theorem toolMissing_frame (p : PocketNo) (t : ToolId) (s : State) :
    (toolMissing p t s).cck = s.cck ∧ (toolMissing p t s).stc = s.stc ∧ (toolMissing p t s).free = s.free ∧
      (toolMissing p t s).pending = s.pending := by
  unfold toolMissing
  (repeat' split) <;> simp

@[simp] theorem recheckOutcome_frame (p : PocketNo) (t : ToolId) (o : Outcome) (s : State) :
    (recheckOutcome p t o s).cck = s.cck ∧ (recheckOutcome p t o s).stc = s.stc ∧
      (recheckOutcome p t o s).pending = s.pending := by
  unfold recheckOutcome
  (repeat' split) <;> simp

@[simp] theorem targetOutcome_frame (p : PocketNo) (o : Outcome) (s : State) :
    (targetOutcome p o s).cck = s.cck ∧ (targetOutcome p o s).stc = s.stc ∧
      (targetOutcome p o s).pending = s.pending := by
  unfold targetOutcome
  (repeat' split) <;> simp

@[simp] theorem removal_frame (g : Giver) (q : PocketNo) (s : State) :
    (removal g q s).rds = s.rds ∧ (removal g q s).cck = s.cck ∧ (removal g q s).stc = s.stc ∧
      (removal g q s).free = s.free ∧ (removal g q s).pending = s.pending := by
  unfold removal
  dsimp only
  (repeat' split) <;> simp

@[simp] theorem giverBack_frame (g : Giver) (q : PocketNo) (s : State) :
    (giverBack g q s).rds = s.rds ∧ (giverBack g q s).pru = s.pru ∧ (giverBack g q s).hli = s.hli ∧
      (giverBack g q s).slk = s.slk ∧ (giverBack g q s).cck = s.cck ∧ (giverBack g q s).stc = s.stc ∧
      (giverBack g q s).free = s.free ∧ (giverBack g q s).pending = s.pending := by
  unfold giverBack
  (repeat' split) <;> simp

@[simp] theorem giverAway_frame (g : Giver) (q : PocketNo) (s : State) :
    (giverAway g q s).rds = s.rds ∧ (giverAway g q s).cck = s.cck ∧ (giverAway g q s).stc = s.stc ∧
      (giverAway g q s).free = s.free ∧ (giverAway g q s).pending = s.pending := by
  unfold giverAway
  (repeat' split) <;> simp

@[simp] theorem afterRemoval_frame (q : PocketNo) (u : ToolId) (kind : Nat) (s : State) :
    (afterRemoval q u kind s).cck = s.cck ∧ (afterRemoval q u kind s).stc = s.stc ∧
      (afterRemoval q u kind s).pending = s.pending := by
  unfold afterRemoval
  (repeat' split) <;> simp

@[simp] theorem releasingOutcome_frame (g : Giver) (q : PocketNo) (o : Outcome) (s : State) :
    (releasingOutcome g q o s).cck = s.cck ∧ (releasingOutcome g q o s).stc = s.stc ∧
      (releasingOutcome g q o s).pending = s.pending := by
  unfold releasingOutcome
  (repeat' split) <;> simp

@[simp] theorem ownLogic_frame (p : PocketNo) (o : Outcome) (s : State) :
    (ownLogic p o s).cck = s.cck ∧ (ownLogic p o s).stc = s.stc ∧ (ownLogic p o s).pending = s.pending := by
  unfold ownLogic
  dsimp only
  (repeat' split) <;> simp

@[simp] theorem recordStatus_frame (x : SweepStatus) (s : State) :
    (recordStatus x s).trg = s.trg ∧ (recordStatus x s).pkc = s.pkc ∧ (recordStatus x s).pru = s.pru ∧
      (recordStatus x s).cue = s.cue ∧ (recordStatus x s).hli = s.hli ∧ (recordStatus x s).slk = s.slk ∧
      (recordStatus x s).cck = s.cck ∧ (recordStatus x s).stc = s.stc ∧ (recordStatus x s).free = s.free ∧
      (recordStatus x s).pending = s.pending := by
  unfold recordStatus
  (repeat' split) <;> simp

@[simp] theorem advanceSweep_frame (s : State) :
    (advanceSweep s).trg = s.trg ∧ (advanceSweep s).pkc = s.pkc ∧ (advanceSweep s).pru = s.pru ∧
      (advanceSweep s).cue = s.cue ∧ (advanceSweep s).hli = s.hli ∧ (advanceSweep s).cck = s.cck ∧
      (advanceSweep s).stc = s.stc ∧ (advanceSweep s).free = s.free ∧ (advanceSweep s).pending = s.pending := by
  unfold advanceSweep
  (repeat' split) <;> simp

@[simp] theorem sweepOutcome_frame (p : PocketNo) (own : Bool) (o : Outcome) (s : State) :
    (sweepOutcome p own o s).cck = s.cck ∧ (sweepOutcome p own o s).stc = s.stc ∧
      (sweepOutcome p own o s).pending = s.pending := by
  unfold sweepOutcome
  dsimp only
  (repeat' split) <;> simp

@[simp] theorem deliver_frame (p : PocketNo) (o : Outcome) (s : State) :
    (deliver p o s).cck = s.cck ∧ (deliver p o s).stc = s.stc ∧ (deliver p o s).pending = s.pending := by
  unfold deliver
  dsimp only
  split <;> simp [foldl_same State.cck, foldl_same State.stc, foldl_same State.pending, apply_ite State.cck,
    apply_ite State.stc, apply_ite State.pending]

@[simp] theorem grantRead_frame (p : PocketNo) (rest : List PocketNo) (s : State) :
    (grantRead p rest s).cck = s.cck ∧ (grantRead p rest s).stc = s.stc ∧
      (grantRead p rest s).pending = s.pending := by
  unfold grantRead
  (repeat' split) <;> simp

@[simp] theorem visit_frame (s : State) :
    (visit s).trg = s.trg ∧ (visit s).pru = s.pru ∧ (visit s).cue = s.cue ∧ (visit s).hli = s.hli ∧
      (visit s).cck = s.cck ∧ (visit s).stc = s.stc ∧ (visit s).free = s.free ∧ (visit s).pending = s.pending := by
  unfold visit
  dsimp only
  (repeat' split) <;> simp

theorem readerStep_frame {s s' : State} (h : readerStep s = some s') :
    (s').cck = s.cck ∧ (s').stc = s.stc ∧ (s').pending = s.pending := by
  unfold readerStep at h
  (repeat' split at h) <;> simp_all <;> subst h <;> simp

@[simp] theorem readerRun_frame (n : Nat) (s : State) :
    (readerRun n s).cck = s.cck ∧ (readerRun n s).stc = s.stc ∧ (readerRun n s).pending = s.pending := by
  induction n generalizing s with
  | zero => simp [readerRun]
  | succ n ih =>
    unfold readerRun
    split
    · next h => simp [ih, readerStep_frame h]
    · simp

@[simp] theorem settleReader_frame (s : State) :
    (settleReader s).cck = s.cck ∧ (settleReader s).stc = s.stc ∧ (settleReader s).pending = s.pending := by
  unfold settleReader
  (repeat' split) <;> simp

@[simp] theorem failRead_frame (p : PocketNo) (s : State) :
    (failRead p s).cck = s.cck ∧ (failRead p s).stc = s.stc ∧ (failRead p s).pending = s.pending := by
  unfold failRead
  (repeat' split) <;> simp

@[simp] theorem failGiverAt_frame (p : PocketNo) (s : State) :
    (failGiverAt p s).cck = s.cck ∧ (failGiverAt p s).stc = s.stc ∧ (failGiverAt p s).free = s.free ∧
      (failGiverAt p s).pending = s.pending := by
  unfold failGiverAt
  (repeat' split) <;> simp

@[simp] theorem failTakerAt_frame (p : PocketNo) (s : State) :
    (failTakerAt p s).trg = s.trg ∧ (failTakerAt p s).pru = s.pru ∧ (failTakerAt p s).cck = s.cck ∧
      (failTakerAt p s).stc = s.stc ∧ (failTakerAt p s).free = s.free ∧ (failTakerAt p s).pending = s.pending := by
  unfold failTakerAt
  (repeat' split) <;> simp

@[simp] theorem pocketFault_frame (p : PocketNo) (s : State) :
    (pocketFault p s).cck = s.cck ∧ (pocketFault p s).stc = s.stc ∧ (pocketFault p s).pending = s.pending := by
  unfold pocketFault
  (repeat' split) <;> simp

@[simp] theorem modModule_frame (a : Nat) (f : Module → Module) (s : State) :
    (modModule a f s).trg = s.trg ∧ (modModule a f s).rds = s.rds ∧ (modModule a f s).pru = s.pru ∧
      (modModule a f s).cue = s.cue ∧ (modModule a f s).hli = s.hli ∧ (modModule a f s).slk = s.slk ∧
      (modModule a f s).cck = s.cck ∧ (modModule a f s).stc = s.stc ∧ (modModule a f s).free = s.free ∧
      (modModule a f s).pending = s.pending := by
  unfold modModule
  (repeat' split) <;> simp

@[simp] theorem silence_frame (a : Nat) (s : State) :
    (silence a s).cck = s.cck ∧ (silence a s).stc = s.stc ∧ (silence a s).pending = s.pending := by
  unfold silence
  simp [foldl_same State.cck, foldl_same State.stc, foldl_same State.pending, apply_ite State.cck, apply_ite
    State.stc, apply_ite State.pending]

@[simp] theorem closeDoor_frame (p : PocketNo) (s : State) :
    (closeDoor p s).trg = s.trg ∧ (closeDoor p s).pru = s.pru ∧ (closeDoor p s).cue = s.cue ∧
      (closeDoor p s).hli = s.hli ∧ (closeDoor p s).slk = s.slk ∧ (closeDoor p s).cck = s.cck ∧
      (closeDoor p s).stc = s.stc ∧ (closeDoor p s).free = s.free ∧ (closeDoor p s).pending = s.pending := by
  unfold closeDoor
  (repeat' split) <;> simp

@[simp] theorem answerDoor_frame (p : PocketNo) (d : LineDoor) (s : State) :
    (answerDoor p d s).trg = s.trg ∧ (answerDoor p d s).pru = s.pru ∧ (answerDoor p d s).hli = s.hli ∧
      (answerDoor p d s).cck = s.cck ∧ (answerDoor p d s).stc = s.stc ∧ (answerDoor p d s).free = s.free ∧
      (answerDoor p d s).pending = s.pending := by
  unfold answerDoor
  (repeat' split) <;> simp

@[simp] theorem quietLost_frame (s : State) :
    (quietLost s).trg = s.trg ∧ (quietLost s).pkc = s.pkc ∧ (quietLost s).pru = s.pru ∧ (quietLost s).cue = s.cue ∧
      (quietLost s).hli = s.hli ∧ (quietLost s).slk = s.slk ∧ (quietLost s).cck = s.cck ∧ (quietLost s).stc = s.stc
      ∧ (quietLost s).free = s.free ∧ (quietLost s).pending = s.pending := by
  unfold quietLost
  (repeat' split) <;> simp

@[simp] theorem returnModule_frame (a : Nat) (doors : List LineDoor) (s : State) :
    (returnModule a doors s).trg = s.trg ∧ (returnModule a doors s).pru = s.pru ∧
      (returnModule a doors s).hli = s.hli ∧ (returnModule a doors s).cck = s.cck ∧
      (returnModule a doors s).stc = s.stc ∧ (returnModule a doors s).free = s.free ∧
      (returnModule a doors s).pending = s.pending := by
  unfold returnModule
  dsimp only
  split <;> simp [foldl_same State.trg, foldl_same State.pru, foldl_same State.hli, foldl_same State.cck, foldl_same
    State.stc, foldl_same State.free, foldl_same State.pending, apply_ite State.trg, apply_ite State.pru, apply_ite
    State.hli, apply_ite State.cck, apply_ite State.stc, apply_ite State.free, apply_ite State.pending]

@[simp] theorem startRelease_frame (p : PocketNo) (s : State) :
    (startRelease p s).trg = s.trg ∧ (startRelease p s).pru = s.pru ∧ (startRelease p s).hli = s.hli ∧
      (startRelease p s).cck = s.cck ∧ (startRelease p s).stc = s.stc ∧ (startRelease p s).free = s.free ∧
      (startRelease p s).pending = s.pending := by
  unfold startRelease
  (repeat' split) <;> simp

@[simp] theorem askRelease_frame (p : PocketNo) (t : ToolId) (s : State) :
    (askRelease p t s).trg = s.trg ∧ (askRelease p t s).pru = s.pru ∧ (askRelease p t s).hli = s.hli ∧
      (askRelease p t s).cck = s.cck ∧ (askRelease p t s).stc = s.stc ∧ (askRelease p t s).free = s.free ∧
      (askRelease p t s).pending = s.pending := by
  unfold askRelease
  (repeat' split) <;> simp

@[simp] theorem pressCloses_frame (p : PocketNo) (s : State) :
    (pressCloses p s).trg = s.trg ∧ (pressCloses p s).pru = s.pru ∧ (pressCloses p s).cue = s.cue ∧
      (pressCloses p s).hli = s.hli ∧ (pressCloses p s).slk = s.slk ∧ (pressCloses p s).cck = s.cck ∧
      (pressCloses p s).stc = s.stc ∧ (pressCloses p s).free = s.free ∧ (pressCloses p s).pending = s.pending := by
  unfold pressCloses
  (repeat' split) <;> simp

@[simp] theorem pressEffect_frame (p : PocketNo) (key : Bool) (s : State) :
    (pressEffect p key s).trg = s.trg ∧ (pressEffect p key s).pru = s.pru ∧ (pressEffect p key s).hli = s.hli ∧
      (pressEffect p key s).cck = s.cck ∧ (pressEffect p key s).stc = s.stc ∧ (pressEffect p key s).free = s.free ∧
      (pressEffect p key s).pending = s.pending := by
  unfold pressEffect
  dsimp only
  (repeat' split) <;> simp

@[simp] theorem dropPress_frame (p : PocketNo) (s : State) :
    (dropPress p s).trg = s.trg ∧ (dropPress p s).rds = s.rds ∧ (dropPress p s).pru = s.pru ∧
      (dropPress p s).cue = s.cue ∧ (dropPress p s).hli = s.hli ∧ (dropPress p s).slk = s.slk ∧
      (dropPress p s).cck = s.cck ∧ (dropPress p s).stc = s.stc ∧ (dropPress p s).free = s.free ∧
      (dropPress p s).pending = s.pending := by
  unfold dropPress
  (repeat' split) <;> simp

@[simp] theorem consumePress_frame (p : PocketNo) (s : State) :
    (consumePress p s).trg = s.trg ∧ (consumePress p s).rds = s.rds ∧ (consumePress p s).pru = s.pru ∧
      (consumePress p s).cue = s.cue ∧ (consumePress p s).hli = s.hli ∧ (consumePress p s).slk = s.slk ∧
      (consumePress p s).cck = s.cck ∧ (consumePress p s).stc = s.stc ∧ (consumePress p s).free = s.free ∧
      (consumePress p s).pending = s.pending := by
  unfold consumePress
  (repeat' split) <;> simp

@[simp] theorem pocketTimerEnds_frame (p : PocketNo) (s : State) :
    (pocketTimerEnds p s).trg = s.trg ∧ (pocketTimerEnds p s).pru = s.pru ∧ (pocketTimerEnds p s).cue = s.cue ∧
      (pocketTimerEnds p s).hli = s.hli ∧ (pocketTimerEnds p s).slk = s.slk ∧ (pocketTimerEnds p s).cck = s.cck ∧
      (pocketTimerEnds p s).stc = s.stc ∧ (pocketTimerEnds p s).free = s.free ∧
      (pocketTimerEnds p s).pending = s.pending := by
  unfold pocketTimerEnds
  (repeat' split) <;> simp

@[simp] theorem endRead_frame (p : PocketNo) (o : Outcome) (s : State) :
    (endRead p o s).cck = s.cck ∧ (endRead p o s).stc = s.stc ∧ (endRead p o s).pending = s.pending := by
  unfold endRead
  (repeat' split) <;> simp

@[simp] theorem failAttempt_frame (r : Read) (s : State) :
    (failAttempt r s).cck = s.cck ∧ (failAttempt r s).stc = s.stc ∧ (failAttempt r s).pending = s.pending := by
  unfold failAttempt
  (repeat' split) <;> simp

@[simp] theorem becomeGauge_frame (t : ToolId) (kind : Nat) (s : State) :
    (becomeGauge t kind s).cck = s.cck ∧ (becomeGauge t kind s).stc = s.stc ∧ (becomeGauge t kind s).free = s.free ∧
      (becomeGauge t kind s).pending = s.pending := by
  unfold becomeGauge
  (repeat' split) <;> simp

@[simp] theorem gaugeFromPocket_frame (t : ToolId) (kind : Nat) (q : Option PocketNo) (s : State) :
    (gaugeFromPocket t kind q s).cck = s.cck ∧ (gaugeFromPocket t kind q s).stc = s.stc ∧
      (gaugeFromPocket t kind q s).free = s.free ∧ (gaugeFromPocket t kind q s).pending = s.pending := by
  unfold gaugeFromPocket
  dsimp only
  (repeat' split) <;> simp

@[simp] theorem takeToGauge_frame (t : ToolId) (kind : Nat) (s : State) :
    (takeToGauge t kind s).cck = s.cck ∧ (takeToGauge t kind s).stc = s.stc ∧ (takeToGauge t kind s).free = s.free ∧
      (takeToGauge t kind s).pending = s.pending := by
  unfold takeToGauge
  (repeat' split) <;> simp

@[simp] theorem tagGone_frame (s : State) :
    (tagGone s).rds = s.rds ∧ (tagGone s).cck = s.cck ∧ (tagGone s).stc = s.stc ∧ (tagGone s).free = s.free ∧
      (tagGone s).pending = s.pending := by
  unfold tagGone
  dsimp only
  (repeat' split) <;> simp

@[simp] theorem newGaugeTool_frame (t : ToolId) (kind : Nat) (s : State) :
    (newGaugeTool t kind s).cck = s.cck ∧ (newGaugeTool t kind s).stc = s.stc ∧
      (newGaugeTool t kind s).free = s.free ∧ (newGaugeTool t kind s).pending = s.pending := by
  unfold newGaugeTool
  (repeat' split) <;> simp

@[simp] theorem gaugeKind_frame (t : ToolId) (kind : Nat) (s : State) :
    (gaugeKind t kind s).cck = s.cck ∧ (gaugeKind t kind s).stc = s.stc ∧ (gaugeKind t kind s).free = s.free ∧
      (gaugeKind t kind s).pending = s.pending := by
  unfold gaugeKind
  (repeat' split) <;> simp

@[simp] theorem headTag_frame (t : ToolId) (kind : Nat) (s : State) :
    (headTag t kind s).cck = s.cck ∧ (headTag t kind s).stc = s.stc ∧ (headTag t kind s).free = s.free ∧
      (headTag t kind s).pending = s.pending := by
  unfold headTag
  (repeat' split) <;> simp

@[simp] theorem concludePreset_frame (t : ToolId) (k : KindEntry) (v : FirstBurst) (s : State) :
    (concludePreset t k v s).rds = s.rds ∧ (concludePreset t k v s).cue = s.cue ∧
      (concludePreset t k v s).cck = s.cck ∧ (concludePreset t k v s).stc = s.stc ∧
      (concludePreset t k v s).free = s.free ∧ (concludePreset t k v s).pending = s.pending := by
  unfold concludePreset
  (repeat' split) <;> simp

@[simp] theorem setFirst_frame (x : Option FirstBurst) (s : State) :
    (setFirst x s).trg = s.trg ∧ (setFirst x s).pkc = s.pkc ∧ (setFirst x s).rds = s.rds ∧
      (setFirst x s).cue = s.cue ∧ (setFirst x s).hli = s.hli ∧ (setFirst x s).slk = s.slk ∧
      (setFirst x s).cck = s.cck ∧ (setFirst x s).stc = s.stc ∧ (setFirst x s).free = s.free ∧
      (setFirst x s).pending = s.pending := by
  unfold setFirst
  (repeat' split) <;> simp

@[simp] theorem concludeReduced_frame (t : ToolId) (k : KindEntry) (v : FirstBurst) (s : State) :
    (concludeReduced t k v s).rds = s.rds ∧ (concludeReduced t k v s).cue = s.cue ∧
      (concludeReduced t k v s).cck = s.cck ∧ (concludeReduced t k v s).stc = s.stc ∧
      (concludeReduced t k v s).free = s.free ∧ (concludeReduced t k v s).pending = s.pending := by
  unfold concludeReduced
  (repeat' split) <;> simp

@[simp] theorem concludeSettled_frame (g : GaugeTool) (b : Burst) (s : State) :
    (concludeSettled g b s).rds = s.rds ∧ (concludeSettled g b s).cue = s.cue ∧ (concludeSettled g b s).cck = s.cck
      ∧ (concludeSettled g b s).stc = s.stc ∧ (concludeSettled g b s).free = s.free ∧
      (concludeSettled g b s).pending = s.pending := by
  unfold concludeSettled
  (repeat' split) <;> simp

@[simp] theorem concludeBurst_frame (b : Burst) (s : State) :
    (concludeBurst b s).rds = s.rds ∧ (concludeBurst b s).cue = s.cue ∧ (concludeBurst b s).cck = s.cck ∧
      (concludeBurst b s).stc = s.stc ∧ (concludeBurst b s).free = s.free ∧
      (concludeBurst b s).pending = s.pending := by
  unfold concludeBurst
  (repeat' split) <;> simp

@[simp] theorem promote_frame (kind : Nat) (s : State) :
    (promote kind s).rds = s.rds ∧ (promote kind s).cue = s.cue ∧ (promote kind s).cck = s.cck ∧
      (promote kind s).stc = s.stc ∧ (promote kind s).free = s.free ∧ (promote kind s).pending = s.pending := by
  unfold promote
  (repeat' split) <;> simp

@[simp] theorem setSend_frame (x : Option Send) (s : State) :
    (setSend x s).trg = s.trg ∧ (setSend x s).pkc = s.pkc ∧ (setSend x s).rds = s.rds ∧ (setSend x s).pru = s.pru ∧
      (setSend x s).cue = s.cue ∧ (setSend x s).slk = s.slk ∧ (setSend x s).cck = s.cck ∧ (setSend x s).stc = s.stc
      ∧ (setSend x s).free = s.free ∧ (setSend x s).pending = s.pending := by
  unfold setSend
  (repeat' split) <;> simp

@[simp] theorem drive_frame (f : Frame) (o : FrameOwner) (k : Nat) (s : State) :
    (drive f o k s).trg = s.trg ∧ (drive f o k s).pkc = s.pkc ∧ (drive f o k s).rds = s.rds ∧
      (drive f o k s).pru = s.pru ∧ (drive f o k s).cue = s.cue ∧ (drive f o k s).slk = s.slk ∧
      (drive f o k s).cck = s.cck ∧ (drive f o k s).stc = s.stc ∧ (drive f o k s).free = s.free ∧
      (drive f o k s).pending = s.pending := by
  unfold drive
  (repeat' split) <;> simp

@[simp] theorem beginRoutine_frame (s : State) :
    (beginRoutine s).trg = s.trg ∧ (beginRoutine s).pkc = s.pkc ∧ (beginRoutine s).rds = s.rds ∧
      (beginRoutine s).pru = s.pru ∧ (beginRoutine s).cue = s.cue ∧ (beginRoutine s).slk = s.slk ∧
      (beginRoutine s).cck = s.cck ∧ (beginRoutine s).stc = s.stc ∧ (beginRoutine s).free = s.free ∧
      (beginRoutine s).pending = s.pending := by
  unfold beginRoutine
  (repeat' split) <;> simp

@[simp] theorem beginRun_frame (s : State) :
    (beginRun s).trg = s.trg ∧ (beginRun s).pkc = s.pkc ∧ (beginRun s).rds = s.rds ∧ (beginRun s).pru = s.pru ∧
      (beginRun s).cue = s.cue ∧ (beginRun s).slk = s.slk ∧ (beginRun s).cck = s.cck ∧ (beginRun s).stc = s.stc ∧
      (beginRun s).free = s.free ∧ (beginRun s).pending = s.pending := by
  unfold beginRun
  (repeat' split) <;> simp

@[simp] theorem beginJoining_frame (s : State) :
    (beginJoining s).trg = s.trg ∧ (beginJoining s).pkc = s.pkc ∧ (beginJoining s).rds = s.rds ∧
      (beginJoining s).pru = s.pru ∧ (beginJoining s).cue = s.cue ∧ (beginJoining s).slk = s.slk ∧
      (beginJoining s).cck = s.cck ∧ (beginJoining s).stc = s.stc ∧ (beginJoining s).free = s.free ∧
      (beginJoining s).pending = s.pending := by
  unfold beginJoining
  (repeat' split) <;> simp

@[simp] theorem beginSend_frame (s : State) :
    (beginSend s).trg = s.trg ∧ (beginSend s).pkc = s.pkc ∧ (beginSend s).rds = s.rds ∧ (beginSend s).pru = s.pru ∧
      (beginSend s).cue = s.cue ∧ (beginSend s).slk = s.slk ∧ (beginSend s).cck = s.cck ∧ (beginSend s).stc = s.stc
      ∧ (beginSend s).free = s.free ∧ (beginSend s).pending = s.pending := by
  unfold beginSend
  (repeat' split) <;> simp

@[simp] theorem takerSendFailed_frame (f : Frame) (n : SeekNo) (s : State) :
    (takerSendFailed f n s).trg = s.trg ∧ (takerSendFailed f n s).pru = s.pru ∧ (takerSendFailed f n s).cck = s.cck
      ∧ (takerSendFailed f n s).stc = s.stc ∧ (takerSendFailed f n s).free = s.free ∧
      (takerSendFailed f n s).pending = s.pending := by
  unfold takerSendFailed
  (repeat' split) <;> simp

@[simp] theorem giverSendFailed_frame (f : Frame) (seeker : StationId) (n : SeekNo) (s : State) :
    (giverSendFailed f seeker n s).rds = s.rds ∧ (giverSendFailed f seeker n s).pru = s.pru ∧
      (giverSendFailed f seeker n s).hli = s.hli ∧ (giverSendFailed f seeker n s).slk = s.slk ∧
      (giverSendFailed f seeker n s).cck = s.cck ∧ (giverSendFailed f seeker n s).stc = s.stc ∧
      (giverSendFailed f seeker n s).free = s.free ∧ (giverSendFailed f seeker n s).pending = s.pending := by
  unfold giverSendFailed
  (repeat' split) <;> simp

@[simp] theorem sendFailed_frame (f : Frame) (o : FrameOwner) (s : State) :
    (sendFailed f o s).pru = s.pru ∧ (sendFailed f o s).cck = s.cck ∧ (sendFailed f o s).stc = s.stc ∧
      (sendFailed f o s).free = s.free ∧ (sendFailed f o s).pending = s.pending := by
  unfold sendFailed
  (repeat' split) <;> simp

@[simp] theorem collide_frame (x : Send) (s : State) :
    (collide x s).pru = s.pru ∧ (collide x s).cck = s.cck ∧ (collide x s).stc = s.stc ∧ (collide x s).free = s.free
      ∧ (collide x s).pending = s.pending := by
  unfold collide
  (repeat' split) <;> simp

@[simp] theorem setNode_frame (n : NodeState) (s : State) :
    (setNode n s).trg = s.trg ∧ (setNode n s).pkc = s.pkc ∧ (setNode n s).rds = s.rds ∧ (setNode n s).pru = s.pru ∧
      (setNode n s).cue = s.cue ∧ (setNode n s).hli = s.hli ∧ (setNode n s).slk = s.slk ∧ (setNode n s).cck = s.cck
      ∧ (setNode n s).free = s.free ∧ (setNode n s).pending = s.pending := by
  unfold setNode
  (repeat' split) <;> simp

@[simp] theorem endTransfers_frame (s : State) :
    (endTransfers s).cck = s.cck ∧ (endTransfers s).stc = s.stc ∧ (endTransfers s).free = s.free ∧
      (endTransfers s).pending = s.pending := by
  unfold endTransfers
  simp [foldl_same State.cck, foldl_same State.stc, foldl_same State.free, foldl_same State.pending]

@[simp] theorem stopSending_frame (s : State) :
    (stopSending s).trg = s.trg ∧ (stopSending s).pkc = s.pkc ∧ (stopSending s).rds = s.rds ∧
      (stopSending s).pru = s.pru ∧ (stopSending s).cue = s.cue ∧ (stopSending s).slk = s.slk ∧
      (stopSending s).cck = s.cck ∧ (stopSending s).stc = s.stc ∧ (stopSending s).free = s.free ∧
      (stopSending s).pending = s.pending := by
  unfold stopSending
  (repeat' split) <;> simp

@[simp] theorem enterConflict_frame (s : State) :
    (enterConflict s).cck = s.cck ∧ (enterConflict s).free = s.free ∧ (enterConflict s).pending = s.pending := by
  unfold enterConflict
  dsimp only
  (repeat' split) <;> simp

@[simp] theorem dropOffers_frame (src : StationId) (s : State) :
    (dropOffers src s).trg = s.trg ∧ (dropOffers src s).pkc = s.pkc ∧ (dropOffers src s).rds = s.rds ∧
      (dropOffers src s).pru = s.pru ∧ (dropOffers src s).hli = s.hli ∧ (dropOffers src s).slk = s.slk ∧
      (dropOffers src s).cck = s.cck ∧ (dropOffers src s).stc = s.stc ∧ (dropOffers src s).free = s.free ∧
      (dropOffers src s).pending = s.pending := by
  unfold dropOffers
  (repeat' split) <;> simp

@[simp] theorem purgeCached_frame (src : StationId) (s : State) :
    (purgeCached src s).pkc = s.pkc ∧ (purgeCached src s).rds = s.rds ∧ (purgeCached src s).pru = s.pru ∧
      (purgeCached src s).cue = s.cue ∧ (purgeCached src s).hli = s.hli ∧ (purgeCached src s).slk = s.slk ∧
      (purgeCached src s).cck = s.cck ∧ (purgeCached src s).stc = s.stc ∧ (purgeCached src s).free = s.free ∧
      (purgeCached src s).pending = s.pending := by
  unfold purgeCached
  simp [foldl_same State.pkc, foldl_same State.rds, foldl_same State.pru, foldl_same State.cue, foldl_same
    State.hli, foldl_same State.slk, foldl_same State.cck, foldl_same State.stc, foldl_same State.free, foldl_same
    State.pending]

@[simp] theorem counterpartReset_frame (src : StationId) (s : State) :
    (counterpartReset src s).cck = s.cck ∧ (counterpartReset src s).stc = s.stc ∧
      (counterpartReset src s).free = s.free ∧ (counterpartReset src s).pending = s.pending := by
  unfold counterpartReset
  simp [foldl_same State.cck, foldl_same State.stc, foldl_same State.free, foldl_same State.pending]

@[simp] theorem repeatFrame_frame (f : Frame) (s : State) :
    (repeatFrame f s).trg = s.trg ∧ (repeatFrame f s).pkc = s.pkc ∧ (repeatFrame f s).rds = s.rds ∧
      (repeatFrame f s).pru = s.pru ∧ (repeatFrame f s).cue = s.cue ∧ (repeatFrame f s).slk = s.slk ∧
      (repeatFrame f s).cck = s.cck ∧ (repeatFrame f s).stc = s.stc ∧ (repeatFrame f s).free = s.free ∧
      (repeatFrame f s).pending = s.pending := by
  unfold repeatFrame
  (repeat' split) <;> simp

@[simp] theorem resync_frame (src : StationId) (s : State) :
    (resync src s).trg = s.trg ∧ (resync src s).pkc = s.pkc ∧ (resync src s).rds = s.rds ∧
      (resync src s).pru = s.pru ∧ (resync src s).cue = s.cue ∧ (resync src s).slk = s.slk ∧
      (resync src s).cck = s.cck ∧ (resync src s).stc = s.stc ∧ (resync src s).free = s.free ∧
      (resync src s).pending = s.pending := by
  unfold resync
  simp [foldl_same State.trg, foldl_same State.pkc, foldl_same State.rds, foldl_same State.pru, foldl_same
    State.cue, foldl_same State.slk, foldl_same State.cck, foldl_same State.stc, foldl_same State.free, foldl_same
    State.pending]

@[simp] theorem openGiver_frame (g : Giver) (q : PocketNo) (s : State) :
    (openGiver g q s).rds = s.rds ∧ (openGiver g q s).pru = s.pru ∧ (openGiver g q s).slk = s.slk ∧
      (openGiver g q s).cck = s.cck ∧ (openGiver g q s).stc = s.stc ∧ (openGiver g q s).free = s.free ∧
      (openGiver g q s).pending = s.pending := by
  unfold openGiver
  (repeat' split) <;> simp

@[simp] theorem seekUnfilled_frame (w : Want) (s : State) :
    (seekUnfilled w s).rds = s.rds ∧ (seekUnfilled w s).cue = s.cue ∧ (seekUnfilled w s).cck = s.cck ∧
      (seekUnfilled w s).stc = s.stc ∧ (seekUnfilled w s).free = s.free ∧
      (seekUnfilled w s).pending = s.pending := by
  unfold seekUnfilled
  (repeat' split) <;> simp

@[simp] theorem answerSeek_frame (src : StationId) (n : SeekNo) (w : Want) (m : SeekMode) (minLife : Nat) (s : State) :
    (answerSeek src n w m minLife s).rds = s.rds ∧ (answerSeek src n w m minLife s).cck = s.cck ∧
      (answerSeek src n w m minLife s).stc = s.stc ∧ (answerSeek src n w m minLife s).free = s.free ∧
      (answerSeek src n w m minLife s).pending = s.pending := by
  unfold answerSeek
  (repeat' split) <;> simp

@[simp] theorem takeOffer_frame (src : StationId) (r : Option Record) (k : Taker) (s : State) :
    (takeOffer src r k s).trg = s.trg ∧ (takeOffer src r k s).pkc = s.pkc ∧ (takeOffer src r k s).rds = s.rds ∧
      (takeOffer src r k s).pru = s.pru ∧ (takeOffer src r k s).slk = s.slk ∧ (takeOffer src r k s).cck = s.cck ∧
      (takeOffer src r k s).stc = s.stc ∧ (takeOffer src r k s).free = s.free ∧
      (takeOffer src r k s).pending = s.pending := by
  unfold takeOffer
  (repeat' split) <;> simp

@[simp] theorem release_frame (g : Giver) (s : State) :
    (release g s).pru = s.pru ∧ (release g s).hli = s.hli ∧ (release g s).cck = s.cck ∧ (release g s).stc = s.stc ∧
      (release g s).free = s.free ∧ (release g s).pending = s.pending := by
  unfold release
  (repeat' split) <;> simp

@[simp] theorem lateTake_frame (src : StationId) (n : SeekNo) (s : State) :
    (lateTake src n s).trg = s.trg ∧ (lateTake src n s).pkc = s.pkc ∧ (lateTake src n s).rds = s.rds ∧
      (lateTake src n s).pru = s.pru ∧ (lateTake src n s).cue = s.cue ∧ (lateTake src n s).slk = s.slk ∧
      (lateTake src n s).cck = s.cck ∧ (lateTake src n s).stc = s.stc ∧ (lateTake src n s).free = s.free ∧
      (lateTake src n s).pending = s.pending := by
  unfold lateTake
  (repeat' split) <;> simp

@[simp] theorem takeTaken_frame (src : StationId) (n : SeekNo) (s : State) :
    (takeTaken src n s).pru = s.pru ∧ (takeTaken src n s).cck = s.cck ∧ (takeTaken src n s).stc = s.stc ∧
      (takeTaken src n s).free = s.free ∧ (takeTaken src n s).pending = s.pending := by
  unfold takeTaken
  (repeat' split) <;> simp

@[simp] theorem dropOffer_frame (src : StationId) (k : Taker) (s : State) :
    (dropOffer src k s).trg = s.trg ∧ (dropOffer src k s).pkc = s.pkc ∧ (dropOffer src k s).rds = s.rds ∧
      (dropOffer src k s).pru = s.pru ∧ (dropOffer src k s).hli = s.hli ∧ (dropOffer src k s).slk = s.slk ∧
      (dropOffer src k s).cck = s.cck ∧ (dropOffer src k s).stc = s.stc ∧ (dropOffer src k s).free = s.free ∧
      (dropOffer src k s).pending = s.pending := by
  unfold dropOffer
  (repeat' split) <;> simp

@[simp] theorem takerLapse_frame (src : StationId) (k : Taker) (s : State) :
    (takerLapse src k s).trg = s.trg ∧ (takerLapse src k s).pru = s.pru ∧ (takerLapse src k s).cck = s.cck ∧
      (takerLapse src k s).stc = s.stc ∧ (takerLapse src k s).free = s.free ∧
      (takerLapse src k s).pending = s.pending := by
  unfold takerLapse
  (repeat' split) <;> simp

@[simp] theorem giverLapse_frame (src : StationId) (n : SeekNo) (s : State) :
    (giverLapse src n s).cck = s.cck ∧ (giverLapse src n s).stc = s.stc ∧ (giverLapse src n s).free = s.free ∧
      (giverLapse src n s).pending = s.pending := by
  unfold giverLapse
  (repeat' split) <;> simp

@[simp] theorem takerReleased_frame (src : StationId) (n : SeekNo) (t : ToolId) (s : State) :
    (takerReleased src n t s).trg = s.trg ∧ (takerReleased src n t s).pkc = s.pkc ∧
      (takerReleased src n t s).rds = s.rds ∧ (takerReleased src n t s).pru = s.pru ∧
      (takerReleased src n t s).hli = s.hli ∧ (takerReleased src n t s).slk = s.slk ∧
      (takerReleased src n t s).cck = s.cck ∧ (takerReleased src n t s).stc = s.stc ∧
      (takerReleased src n t s).free = s.free ∧ (takerReleased src n t s).pending = s.pending := by
  unfold takerReleased
  (repeat' split) <;> simp

@[simp] theorem giverPocketGone_frame (g : Giver) (s : State) :
    (giverPocketGone g s).trg = s.trg ∧ (giverPocketGone g s).rds = s.rds ∧ (giverPocketGone g s).pru = s.pru ∧
      (giverPocketGone g s).cue = s.cue ∧ (giverPocketGone g s).hli = s.hli ∧ (giverPocketGone g s).slk = s.slk ∧
      (giverPocketGone g s).cck = s.cck ∧ (giverPocketGone g s).stc = s.stc ∧ (giverPocketGone g s).free = s.free ∧
      (giverPocketGone g s).pending = s.pending := by
  unfold giverPocketGone
  (repeat' split) <;> simp

@[simp] theorem received_frame (g : Giver) (v : Version) (s : State) :
    (received g v s).cck = s.cck ∧ (received g v s).stc = s.stc ∧ (received g v s).free = s.free ∧
      (received g v s).pending = s.pending := by
  unfold received
  (repeat' split) <;> simp

@[simp] theorem windowEnds_frame (k : Taker) (s : State) :
    (windowEnds k s).trg = s.trg ∧ (windowEnds k s).pru = s.pru ∧ (windowEnds k s).cck = s.cck ∧
      (windowEnds k s).stc = s.stc ∧ (windowEnds k s).free = s.free ∧ (windowEnds k s).pending = s.pending := by
  unfold windowEnds
  (repeat' split) <;> simp

@[simp] theorem releaseEnds_frame (g : Giver) (s : State) :
    (releaseEnds g s).trg = s.trg ∧ (releaseEnds g s).pru = s.pru ∧ (releaseEnds g s).hli = s.hli ∧
      (releaseEnds g s).slk = s.slk ∧ (releaseEnds g s).cck = s.cck ∧ (releaseEnds g s).stc = s.stc ∧
      (releaseEnds g s).free = s.free ∧ (releaseEnds g s).pending = s.pending := by
  unfold releaseEnds
  (repeat' split) <;> simp

@[simp] theorem closeGiverOf_frame (t : ToolId) (s : State) :
    (closeGiverOf t s).trg = s.trg ∧ (closeGiverOf t s).pkc = s.pkc ∧ (closeGiverOf t s).rds = s.rds ∧
      (closeGiverOf t s).pru = s.pru ∧ (closeGiverOf t s).hli = s.hli ∧ (closeGiverOf t s).slk = s.slk ∧
      (closeGiverOf t s).cck = s.cck ∧ (closeGiverOf t s).stc = s.stc ∧ (closeGiverOf t s).free = s.free ∧
      (closeGiverOf t s).pending = s.pending := by
  unfold closeGiverOf
  (repeat' split) <;> simp

@[simp] theorem transitLost_frame (t : ToolId) (s : State) :
    (transitLost t s).cck = s.cck ∧ (transitLost t s).stc = s.stc ∧ (transitLost t s).free = s.free ∧
      (transitLost t s).pending = s.pending := by
  unfold transitLost
  (repeat' split) <;> simp

@[simp] theorem tickCalendar_frame (s : State) :
    (tickCalendar s).trg = s.trg ∧ (tickCalendar s).pkc = s.pkc ∧ (tickCalendar s).rds = s.rds ∧
      (tickCalendar s).pru = s.pru ∧ (tickCalendar s).cue = s.cue ∧ (tickCalendar s).hli = s.hli ∧
      (tickCalendar s).slk = s.slk ∧ (tickCalendar s).stc = s.stc ∧ (tickCalendar s).free = s.free ∧
      (tickCalendar s).pending = s.pending := by
  unfold tickCalendar
  (repeat' split) <;> simp

@[simp] theorem writeStamp_frame (s : State) :
    (writeStamp s).pkc = s.pkc ∧ (writeStamp s).rds = s.rds ∧ (writeStamp s).pru = s.pru ∧
      (writeStamp s).cue = s.cue ∧ (writeStamp s).hli = s.hli ∧ (writeStamp s).slk = s.slk ∧
      (writeStamp s).cck = s.cck ∧ (writeStamp s).stc = s.stc ∧ (writeStamp s).free = s.free ∧
      (writeStamp s).pending = s.pending := by
  unfold writeStamp
  (repeat' split) <;> simp

@[simp] theorem countTimers_frame (s : State) :
    (countTimers s).rds = s.rds ∧ (countTimers s).pru = s.pru ∧ (countTimers s).slk = s.slk ∧
      (countTimers s).cck = s.cck ∧ (countTimers s).stc = s.stc ∧ (countTimers s).free = s.free ∧
      (countTimers s).pending = s.pending := by
  unfold countTimers
  (repeat' split) <;> simp

@[simp] theorem agePresets_frame (n : Nat) (s : State) :
    (agePresets n s).pkc = s.pkc ∧ (agePresets n s).rds = s.rds ∧ (agePresets n s).pru = s.pru ∧
      (agePresets n s).cue = s.cue ∧ (agePresets n s).hli = s.hli ∧ (agePresets n s).slk = s.slk ∧
      (agePresets n s).cck = s.cck ∧ (agePresets n s).stc = s.stc ∧ (agePresets n s).free = s.free ∧
      (agePresets n s).pending = s.pending := by
  unfold agePresets
  (repeat' split) <;> simp

@[simp] theorem ageReview_frame (s : State) :
    (ageReview s).cck = s.cck ∧ (ageReview s).stc = s.stc ∧ (ageReview s).free = s.free ∧
      (ageReview s).pending = s.pending := by
  unfold ageReview
  simp [foldl_same State.cck, foldl_same State.stc, foldl_same State.free, foldl_same State.pending]

@[simp] theorem alarmAct_frame (a : AlarmAction) (s : State) :
    (alarmAct a s).cck = s.cck ∧ (alarmAct a s).stc = s.stc ∧ (alarmAct a s).free = s.free ∧
      (alarmAct a s).pending = s.pending := by
  unfold alarmAct
  (repeat' split) <;> simp

@[simp] theorem actAlarms_frame (l : List AlarmAction) (s : State) :
    (actAlarms l s).cck = s.cck ∧ (actAlarms l s).stc = s.stc ∧ (actAlarms l s).free = s.free ∧
      (actAlarms l s).pending = s.pending := by
  unfold actAlarms
  simp [foldl_same State.cck, foldl_same State.stc, foldl_same State.free, foldl_same State.pending]

@[simp] theorem minuteEvent_frame (s : State) :
    (minuteEvent s).cck = s.cck ∧ (minuteEvent s).stc = s.stc ∧ (minuteEvent s).pending = s.pending := by
  unfold minuteEvent
  dsimp only
  (repeat' split) <;> simp

@[simp] theorem secondEvent_frame (s : State) :
    (secondEvent s).cck = s.cck ∧ (secondEvent s).stc = s.stc ∧ (secondEvent s).pending = s.pending := by
  unfold secondEvent
  dsimp only
  (repeat' split) <;> simp

@[simp] theorem readLevel_frame (low : Bool) (s : State) :
    (readLevel low s).trg = s.trg ∧ (readLevel low s).pkc = s.pkc ∧ (readLevel low s).rds = s.rds ∧
      (readLevel low s).pru = s.pru ∧ (readLevel low s).cue = s.cue ∧ (readLevel low s).hli = s.hli ∧
      (readLevel low s).slk = s.slk ∧ (readLevel low s).stc = s.stc ∧ (readLevel low s).free = s.free ∧
      (readLevel low s).pending = s.pending := by
  unfold readLevel
  (repeat' split) <;> simp

@[simp] theorem setClock_frame (c : Calendar) (s : State) :
    (setClock c s).pkc = s.pkc ∧ (setClock c s).rds = s.rds ∧ (setClock c s).pru = s.pru ∧
      (setClock c s).cue = s.cue ∧ (setClock c s).hli = s.hli ∧ (setClock c s).slk = s.slk ∧
      (setClock c s).stc = s.stc ∧ (setClock c s).free = s.free ∧ (setClock c s).pending = s.pending := by
  unfold setClock
  (repeat' split) <;> simp

@[simp] theorem overrun_frame (s : State) :
    (overrun s).trg = s.trg ∧ (overrun s).pkc = s.pkc ∧ (overrun s).rds = s.rds ∧ (overrun s).pru = s.pru ∧
      (overrun s).cue = s.cue ∧ (overrun s).hli = s.hli ∧ (overrun s).cck = s.cck ∧ (overrun s).stc = s.stc ∧
      (overrun s).free = s.free ∧ (overrun s).pending = s.pending := by
  unfold overrun
  (repeat' split) <;> simp

@[simp] theorem cancelTaker_frame (k : Taker) (s : State) :
    (cancelTaker k s).trg = s.trg ∧ (cancelTaker k s).pru = s.pru ∧ (cancelTaker k s).slk = s.slk ∧
      (cancelTaker k s).cck = s.cck ∧ (cancelTaker k s).stc = s.stc ∧ (cancelTaker k s).free = s.free ∧
      (cancelTaker k s).pending = s.pending := by
  unfold cancelTaker
  (repeat' split) <;> simp

@[simp] theorem emptyStage_frame (s : State) :
    (emptyStage s).trg = s.trg ∧ (emptyStage s).pkc = s.pkc ∧ (emptyStage s).rds = s.rds ∧
      (emptyStage s).pru = s.pru ∧ (emptyStage s).cue = s.cue ∧ (emptyStage s).hli = s.hli ∧
      (emptyStage s).cck = s.cck ∧ (emptyStage s).stc = s.stc ∧ (emptyStage s).free = s.free ∧
      (emptyStage s).pending = s.pending := by
  unfold emptyStage
  (repeat' split) <;> simp

@[simp] theorem sequenceError_frame (s : State) :
    (sequenceError s).trg = s.trg ∧ (sequenceError s).pkc = s.pkc ∧ (sequenceError s).rds = s.rds ∧
      (sequenceError s).pru = s.pru ∧ (sequenceError s).cue = s.cue ∧ (sequenceError s).hli = s.hli ∧
      (sequenceError s).cck = s.cck ∧ (sequenceError s).stc = s.stc ∧ (sequenceError s).free = s.free ∧
      (sequenceError s).pending = s.pending := by
  unfold sequenceError
  (repeat' split) <;> simp

@[simp] theorem lifeOut_frame (p : PocketNo) (t : ToolId) (s : State) :
    (lifeOut p t s).rds = s.rds ∧ (lifeOut p t s).cue = s.cue ∧ (lifeOut p t s).hli = s.hli ∧
      (lifeOut p t s).cck = s.cck ∧ (lifeOut p t s).stc = s.stc ∧ (lifeOut p t s).free = s.free ∧
      (lifeOut p t s).pending = s.pending := by
  unfold lifeOut
  (repeat' split) <;> simp

@[simp] theorem reportDrift_frame (p : PocketNo) (t : ToolId) (s : State) :
    (reportDrift p t s).trg = s.trg ∧ (reportDrift p t s).rds = s.rds ∧ (reportDrift p t s).pru = s.pru ∧
      (reportDrift p t s).cue = s.cue ∧ (reportDrift p t s).hli = s.hli ∧ (reportDrift p t s).cck = s.cck ∧
      (reportDrift p t s).stc = s.stc ∧ (reportDrift p t s).free = s.free ∧
      (reportDrift p t s).pending = s.pending := by
  unfold reportDrift
  (repeat' split) <;> simp

@[simp] theorem countUse_frame (p : PocketNo) (e : Entry) (sec : Nat) (s : State) :
    (countUse p e sec s).rds = s.rds ∧ (countUse p e sec s).cue = s.cue ∧ (countUse p e sec s).cck = s.cck ∧
      (countUse p e sec s).stc = s.stc ∧ (countUse p e sec s).free = s.free ∧
      (countUse p e sec s).pending = s.pending := by
  unfold countUse
  dsimp only
  (repeat' split) <;> simp

@[simp] theorem clampUse_frame (sec : Nat) (s : State) :
    (clampUse sec s).trg = s.trg ∧ (clampUse sec s).pkc = s.pkc ∧ (clampUse sec s).rds = s.rds ∧
      (clampUse sec s).pru = s.pru ∧ (clampUse sec s).cue = s.cue ∧ (clampUse sec s).hli = s.hli ∧
      (clampUse sec s).cck = s.cck ∧ (clampUse sec s).stc = s.stc ∧ (clampUse sec s).free = s.free ∧
      (clampUse sec s).pending = s.pending := by
  unfold clampUse
  (repeat' split) <;> simp

@[simp] theorem freeCondition_frame (t : ToolId) (s : State) :
    (freeCondition t s).cck = s.cck ∧ (freeCondition t s).stc = s.stc ∧ (freeCondition t s).free = s.free ∧
      (freeCondition t s).pending = s.pending := by
  unfold freeCondition
  (repeat' split) <;> simp

@[simp] theorem freeTool_frame (p : PocketNo) (t : ToolId) (s : State) :
    (freeTool p t s).cck = s.cck ∧ (freeTool p t s).stc = s.stc ∧ (freeTool p t s).free = s.free ∧
      (freeTool p t s).pending = s.pending := by
  unfold freeTool
  (repeat' split) <;> simp

@[simp] theorem rereadPocket_frame (p : PocketNo) (s : State) :
    (rereadPocket p s).trg = s.trg ∧ (rereadPocket p s).pru = s.pru ∧ (rereadPocket p s).cue = s.cue ∧
      (rereadPocket p s).hli = s.hli ∧ (rereadPocket p s).slk = s.slk ∧ (rereadPocket p s).cck = s.cck ∧
      (rereadPocket p s).stc = s.stc ∧ (rereadPocket p s).free = s.free ∧
      (rereadPocket p s).pending = s.pending := by
  unfold rereadPocket
  (repeat' split) <;> simp

@[simp] theorem dropVacated_frame (t : ToolId) (s : State) :
    (dropVacated t s).trg = s.trg ∧ (dropVacated t s).pru = s.pru ∧ (dropVacated t s).cue = s.cue ∧
      (dropVacated t s).hli = s.hli ∧ (dropVacated t s).slk = s.slk ∧ (dropVacated t s).cck = s.cck ∧
      (dropVacated t s).stc = s.stc ∧ (dropVacated t s).free = s.free ∧ (dropVacated t s).pending = s.pending := by
  unfold dropVacated
  simp [foldl_same State.trg, foldl_same State.pru, foldl_same State.cue, foldl_same State.hli, foldl_same
    State.slk, foldl_same State.cck, foldl_same State.stc, foldl_same State.free, foldl_same State.pending,
    apply_ite State.trg, apply_ite State.pru, apply_ite State.cue, apply_ite State.hli, apply_ite State.slk,
    apply_ite State.cck, apply_ite State.stc, apply_ite State.free, apply_ite State.pending]

@[simp] theorem forgetWaiting_frame (t : ToolId) (s : State) :
    (forgetWaiting t s).trg = s.trg ∧ (forgetWaiting t s).pru = s.pru ∧ (forgetWaiting t s).hli = s.hli ∧
      (forgetWaiting t s).slk = s.slk ∧ (forgetWaiting t s).cck = s.cck ∧ (forgetWaiting t s).stc = s.stc ∧
      (forgetWaiting t s).free = s.free ∧ (forgetWaiting t s).pending = s.pending := by
  unfold forgetWaiting
  refine ⟨(foldl_same State.trg (fun s w => by split <;> simp) _ _).trans rfl, (foldl_same State.pru (fun s w => by
    split <;> simp) _ _).trans rfl, (foldl_same State.hli (fun s w => by split <;> simp) _ _).trans rfl, (foldl_same
    State.slk (fun s w => by split <;> simp) _ _).trans rfl, (foldl_same State.cck (fun s w => by split <;> simp) _
    _).trans rfl, (foldl_same State.stc (fun s w => by split <;> simp) _ _).trans rfl, (foldl_same State.free (fun s
    w => by split <;> simp) _ _).trans rfl, (foldl_same State.pending (fun s w => by split <;> simp) _ _).trans rfl⟩

@[simp] theorem gaugeAgain_frame (t : ToolId) (s : State) :
    (gaugeAgain t s).rds = s.rds ∧ (gaugeAgain t s).cck = s.cck ∧ (gaugeAgain t s).stc = s.stc ∧
      (gaugeAgain t s).free = s.free ∧ (gaugeAgain t s).pending = s.pending := by
  unfold gaugeAgain
  (repeat' split) <;> simp

@[simp] theorem forgetEntry_frame (e : Entry) (s : State) :
    (forgetEntry e s).cck = s.cck ∧ (forgetEntry e s).stc = s.stc ∧ (forgetEntry e s).free = s.free ∧
      (forgetEntry e s).pending = s.pending := by
  unfold forgetEntry
  (repeat' split) <;> simp

@[simp] theorem beginStart_frame (s : State) :
    (beginStart s).trg = s.trg ∧ (beginStart s).cue = s.cue ∧ (beginStart s).free = s.free ∧
      (beginStart s).pending = s.pending := by
  unfold beginStart
  (repeat' split) <;> simp

@[simp] theorem readConfig_frame (c : Option NodeConfig) (s : State) :
    (readConfig c s).trg = s.trg ∧ (readConfig c s).pkc = s.pkc ∧ (readConfig c s).rds = s.rds ∧
      (readConfig c s).pru = s.pru ∧ (readConfig c s).cue = s.cue ∧ (readConfig c s).hli = s.hli ∧
      (readConfig c s).slk = s.slk ∧ (readConfig c s).cck = s.cck ∧ (readConfig c s).free = s.free ∧
      (readConfig c s).pending = s.pending := by
  unfold readConfig
  (repeat' split) <;> simp

@[simp] theorem settleProbe_frame (a : Nat) (r : Option ModuleReport) (s : State) :
    (settleProbe a r s).trg = s.trg ∧ (settleProbe a r s).rds = s.rds ∧ (settleProbe a r s).pru = s.pru ∧
      (settleProbe a r s).cue = s.cue ∧ (settleProbe a r s).hli = s.hli ∧ (settleProbe a r s).slk = s.slk ∧
      (settleProbe a r s).cck = s.cck ∧ (settleProbe a r s).stc = s.stc ∧ (settleProbe a r s).free = s.free ∧
      (settleProbe a r s).pending = s.pending := by
  unfold settleProbe
  simp [foldl_same State.trg, foldl_same State.rds, foldl_same State.pru, foldl_same State.cue, foldl_same
    State.hli, foldl_same State.slk, foldl_same State.cck, foldl_same State.stc, foldl_same State.free, foldl_same
    State.pending]

@[simp] theorem restoreClear_frame (s : State) :
    (restoreClear s).trg = s.trg ∧ (restoreClear s).cck = s.cck ∧ (restoreClear s).stc = s.stc ∧
      (restoreClear s).free = s.free ∧ (restoreClear s).pending = s.pending := by
  unfold restoreClear
  (repeat' split) <;> simp

@[simp] theorem restoreFailed_frame (s : State) :
    (restoreFailed s).rds = s.rds ∧ (restoreFailed s).hli = s.hli ∧ (restoreFailed s).stc = s.stc ∧
      (restoreFailed s).free = s.free ∧ (restoreFailed s).pending = s.pending := by
  unfold restoreFailed
  (repeat' split) <;> simp

@[simp] theorem renameEntries_frame (own : StationId) (s : State) :
    (renameEntries own s).rds = s.rds ∧ (renameEntries own s).cue = s.cue ∧ (renameEntries own s).cck = s.cck ∧
      (renameEntries own s).stc = s.stc ∧ (renameEntries own s).free = s.free ∧
      (renameEntries own s).pending = s.pending := by
  unfold renameEntries
  simp [foldl_same State.rds, foldl_same State.cue, foldl_same State.cck, foldl_same State.stc, foldl_same
    State.free, foldl_same State.pending]

@[simp] theorem stationIdStep_frame (s : State) :
    (stationIdStep s).cck = s.cck ∧ (stationIdStep s).stc = s.stc ∧ (stationIdStep s).free = s.free ∧
      (stationIdStep s).pending = s.pending := by
  unfold stationIdStep
  (repeat' split) <;> simp

@[simp] theorem seekingStep_frame (s : State) :
    (seekingStep s).trg = s.trg ∧ (seekingStep s).pru = s.pru ∧ (seekingStep s).hli = s.hli ∧
      (seekingStep s).cck = s.cck ∧ (seekingStep s).stc = s.stc ∧ (seekingStep s).free = s.free ∧
      (seekingStep s).pending = s.pending := by
  unfold seekingStep
  simp [foldl_same State.trg, foldl_same State.pru, foldl_same State.hli, foldl_same State.cck, foldl_same
    State.stc, foldl_same State.free, foldl_same State.pending]

@[simp] theorem transitCheckStep_frame (s : State) :
    (transitCheckStep s).trg = s.trg ∧ (transitCheckStep s).pkc = s.pkc ∧ (transitCheckStep s).rds = s.rds ∧
      (transitCheckStep s).pru = s.pru ∧ (transitCheckStep s).hli = s.hli ∧ (transitCheckStep s).slk = s.slk ∧
      (transitCheckStep s).cck = s.cck ∧ (transitCheckStep s).stc = s.stc ∧ (transitCheckStep s).free = s.free ∧
      (transitCheckStep s).pending = s.pending := by
  unfold transitCheckStep
  (repeat' split) <;> simp

@[simp] theorem passTimers_frame (n : Nat) (s : State) :
    (passTimers n s).rds = s.rds ∧ (passTimers n s).pru = s.pru ∧ (passTimers n s).hli = s.hli ∧
      (passTimers n s).slk = s.slk ∧ (passTimers n s).cck = s.cck ∧ (passTimers n s).stc = s.stc ∧
      (passTimers n s).free = s.free ∧ (passTimers n s).pending = s.pending := by
  unfold passTimers
  (repeat' split) <;> simp

@[simp] theorem outageStep_frame (s : State) :
    (outageStep s).rds = s.rds ∧ (outageStep s).pru = s.pru ∧ (outageStep s).hli = s.hli ∧
      (outageStep s).slk = s.slk ∧ (outageStep s).cck = s.cck ∧ (outageStep s).stc = s.stc ∧
      (outageStep s).free = s.free ∧ (outageStep s).pending = s.pending := by
  unfold outageStep
  (repeat' split) <;> simp

@[simp] theorem clampLife_frame (t : ToolId) (s : State) :
    (clampLife t s).rds = s.rds ∧ (clampLife t s).cue = s.cue ∧ (clampLife t s).cck = s.cck ∧
      (clampLife t s).stc = s.stc ∧ (clampLife t s).free = s.free ∧ (clampLife t s).pending = s.pending := by
  unfold clampLife
  dsimp only
  (repeat' split) <;> simp

@[simp] theorem lifeStep_frame (s : State) :
    (lifeStep s).rds = s.rds ∧ (lifeStep s).cue = s.cue ∧ (lifeStep s).cck = s.cck ∧ (lifeStep s).stc = s.stc ∧
      (lifeStep s).free = s.free ∧ (lifeStep s).pending = s.pending := by
  unfold lifeStep
  simp [foldl_same State.rds, foldl_same State.cue, foldl_same State.cck, foldl_same State.stc, foldl_same
    State.free, foldl_same State.pending]

@[simp] theorem closeAdoption_frame (w : Window) (s : State) :
    (closeAdoption w s).cck = s.cck ∧ (closeAdoption w s).stc = s.stc ∧ (closeAdoption w s).free = s.free ∧
      (closeAdoption w s).pending = s.pending := by
  unfold closeAdoption
  (repeat' split) <;> simp

@[simp] theorem adoptionStep_frame (s : State) :
    (adoptionStep s).cck = s.cck ∧ (adoptionStep s).stc = s.stc ∧ (adoptionStep s).free = s.free ∧
      (adoptionStep s).pending = s.pending := by
  unfold adoptionStep
  simp [foldl_same State.cck, foldl_same State.stc, foldl_same State.free, foldl_same State.pending]

@[simp] theorem checkStep_frame (s : State) :
    (checkStep s).pkc = s.pkc ∧ (checkStep s).rds = s.rds ∧ (checkStep s).pru = s.pru ∧ (checkStep s).cue = s.cue ∧
      (checkStep s).hli = s.hli ∧ (checkStep s).slk = s.slk ∧ (checkStep s).cck = s.cck ∧ (checkStep s).stc = s.stc
      ∧ (checkStep s).free = s.free ∧ (checkStep s).pending = s.pending := by
  unfold checkStep
  (repeat' split) <;> simp

@[simp] theorem closeMisfitGiver_frame (g : Giver) (s : State) :
    (closeMisfitGiver g s).pkc = s.pkc ∧ (closeMisfitGiver g s).rds = s.rds ∧ (closeMisfitGiver g s).pru = s.pru ∧
      (closeMisfitGiver g s).slk = s.slk ∧ (closeMisfitGiver g s).cck = s.cck ∧ (closeMisfitGiver g s).stc = s.stc ∧
      (closeMisfitGiver g s).free = s.free ∧ (closeMisfitGiver g s).pending = s.pending := by
  unfold closeMisfitGiver
  (repeat' split) <;> simp

@[simp] theorem closeMisfitTaker_frame (k : Taker) (s : State) :
    (closeMisfitTaker k s).trg = s.trg ∧ (closeMisfitTaker k s).pru = s.pru ∧ (closeMisfitTaker k s).cck = s.cck ∧
      (closeMisfitTaker k s).stc = s.stc ∧ (closeMisfitTaker k s).free = s.free ∧
      (closeMisfitTaker k s).pending = s.pending := by
  unfold closeMisfitTaker
  (repeat' split) <;> simp

@[simp] theorem closeMisfits_frame (s : State) :
    (closeMisfits s).pru = s.pru ∧ (closeMisfits s).cck = s.cck ∧ (closeMisfits s).stc = s.stc ∧
      (closeMisfits s).free = s.free ∧ (closeMisfits s).pending = s.pending := by
  unfold closeMisfits
  simp [foldl_same State.pru, foldl_same State.cck, foldl_same State.stc, foldl_same State.free, foldl_same
    State.pending]

@[simp] theorem testMark_frame (p : PocketNo) (s : State) :
    (testMark p s).trg = s.trg ∧ (testMark p s).rds = s.rds ∧ (testMark p s).pru = s.pru ∧
      (testMark p s).cue = s.cue ∧ (testMark p s).hli = s.hli ∧ (testMark p s).cck = s.cck ∧
      (testMark p s).stc = s.stc ∧ (testMark p s).free = s.free ∧ (testMark p s).pending = s.pending := by
  unfold testMark
  (repeat' split) <;> simp

@[simp] theorem pocketStep_frame (s : State) :
    (pocketStep s).pru = s.pru ∧ (pocketStep s).cck = s.cck ∧ (pocketStep s).stc = s.stc ∧
      (pocketStep s).free = s.free ∧ (pocketStep s).pending = s.pending := by
  unfold pocketStep
  simp [foldl_same State.pru, foldl_same State.cck, foldl_same State.stc, foldl_same State.free, foldl_same
    State.pending]

@[simp] theorem gaugeStep_frame (s : State) :
    (gaugeStep s).rds = s.rds ∧ (gaugeStep s).cue = s.cue ∧ (gaugeStep s).cck = s.cck ∧ (gaugeStep s).stc = s.stc ∧
      (gaugeStep s).free = s.free ∧ (gaugeStep s).pending = s.pending := by
  unfold gaugeStep
  (repeat' split) <;> simp

@[simp] theorem holdStep_frame (s : State) :
    (holdStep s).rds = s.rds ∧ (holdStep s).pru = s.pru ∧ (holdStep s).hli = s.hli ∧ (holdStep s).slk = s.slk ∧
      (holdStep s).cck = s.cck ∧ (holdStep s).stc = s.stc ∧ (holdStep s).free = s.free ∧
      (holdStep s).pending = s.pending := by
  unfold holdStep
  simp [foldl_same State.rds, foldl_same State.pru, foldl_same State.hli, foldl_same State.slk, foldl_same
    State.cck, foldl_same State.stc, foldl_same State.free, foldl_same State.pending]

@[simp] theorem releaseStep_frame (s : State) :
    (releaseStep s).trg = s.trg ∧ (releaseStep s).pru = s.pru ∧ (releaseStep s).hli = s.hli ∧
      (releaseStep s).slk = s.slk ∧ (releaseStep s).cck = s.cck ∧ (releaseStep s).stc = s.stc ∧
      (releaseStep s).free = s.free ∧ (releaseStep s).pending = s.pending := by
  unfold releaseStep
  simp [foldl_same State.trg, foldl_same State.pru, foldl_same State.hli, foldl_same State.slk, foldl_same
    State.cck, foldl_same State.stc, foldl_same State.free, foldl_same State.pending]

@[simp] theorem deadlineStep_frame (s : State) :
    (deadlineStep s).trg = s.trg ∧ (deadlineStep s).pru = s.pru ∧ (deadlineStep s).hli = s.hli ∧
      (deadlineStep s).cck = s.cck ∧ (deadlineStep s).stc = s.stc ∧ (deadlineStep s).free = s.free ∧
      (deadlineStep s).pending = s.pending := by
  unfold deadlineStep
  simp [foldl_same State.trg, foldl_same State.pru, foldl_same State.hli, foldl_same State.cck, foldl_same
    State.stc, foldl_same State.free, foldl_same State.pending]

@[simp] theorem awayStep_frame (s : State) :
    (awayStep s).rds = s.rds ∧ (awayStep s).cue = s.cue ∧ (awayStep s).cck = s.cck ∧ (awayStep s).stc = s.stc ∧
      (awayStep s).free = s.free ∧ (awayStep s).pending = s.pending := by
  unfold awayStep
  simp [foldl_same State.rds, foldl_same State.cue, foldl_same State.cck, foldl_same State.stc, foldl_same
    State.free, foldl_same State.pending]

@[simp] theorem transitStep_frame (s : State) :
    (transitStep s).trg = s.trg ∧ (transitStep s).pkc = s.pkc ∧ (transitStep s).rds = s.rds ∧
      (transitStep s).pru = s.pru ∧ (transitStep s).slk = s.slk ∧ (transitStep s).cck = s.cck ∧
      (transitStep s).stc = s.stc ∧ (transitStep s).free = s.free ∧ (transitStep s).pending = s.pending := by
  unfold transitStep
  simp [foldl_same State.trg, foldl_same State.pkc, foldl_same State.rds, foldl_same State.pru, foldl_same
    State.slk, foldl_same State.cck, foldl_same State.stc, foldl_same State.free, foldl_same State.pending]

@[simp] theorem pocketTimerStep_frame (s : State) :
    (pocketTimerStep s).trg = s.trg ∧ (pocketTimerStep s).pru = s.pru ∧ (pocketTimerStep s).cue = s.cue ∧
      (pocketTimerStep s).hli = s.hli ∧ (pocketTimerStep s).slk = s.slk ∧ (pocketTimerStep s).cck = s.cck ∧
      (pocketTimerStep s).stc = s.stc ∧ (pocketTimerStep s).free = s.free ∧
      (pocketTimerStep s).pending = s.pending := by
  unfold pocketTimerStep
  simp [foldl_same State.trg, foldl_same State.pru, foldl_same State.cue, foldl_same State.hli, foldl_same
    State.slk, foldl_same State.cck, foldl_same State.stc, foldl_same State.free, foldl_same State.pending,
    apply_ite State.trg, apply_ite State.pru, apply_ite State.cue, apply_ite State.hli, apply_ite State.slk,
    apply_ite State.cck, apply_ite State.stc, apply_ite State.free, apply_ite State.pending]

@[simp] theorem expiryStep_frame (s : State) :
    (expiryStep s).cck = s.cck ∧ (expiryStep s).stc = s.stc ∧ (expiryStep s).free = s.free ∧
      (expiryStep s).pending = s.pending := by
  unfold expiryStep
  (repeat' split) <;> simp

@[simp] theorem queueStep_frame (before s : State) :
    (queueStep before s).trg = s.trg ∧ (queueStep before s).rds = s.rds ∧ (queueStep before s).cue = s.cue ∧
      (queueStep before s).hli = s.hli ∧ (queueStep before s).slk = s.slk ∧ (queueStep before s).cck = s.cck ∧
      (queueStep before s).stc = s.stc ∧ (queueStep before s).free = s.free ∧
      (queueStep before s).pending = s.pending := by
  unfold queueStep
  simp [foldl_same State.trg, foldl_same State.rds, foldl_same State.cue, foldl_same State.hli, foldl_same
    State.slk, foldl_same State.cck, foldl_same State.stc, foldl_same State.free, foldl_same State.pending]

@[simp] theorem restoreHeld_frame (s : State) :
    (restoreHeld s).cck = s.cck ∧ (restoreHeld s).stc = s.stc ∧ (restoreHeld s).free = s.free ∧
      (restoreHeld s).pending = s.pending := by
  unfold restoreHeld
  simp

@[simp] theorem endRestoring_frame (s : State) :
    (endRestoring s).cue = s.cue ∧ (endRestoring s).hli = s.hli ∧ (endRestoring s).slk = s.slk ∧
      (endRestoring s).free = s.free ∧ (endRestoring s).pending = s.pending := by
  unfold endRestoring
  (repeat' split) <;> simp

@[simp] theorem enterJoining_frame (s : State) :
    (enterJoining s).trg = s.trg ∧ (enterJoining s).pkc = s.pkc ∧ (enterJoining s).rds = s.rds ∧
      (enterJoining s).pru = s.pru ∧ (enterJoining s).cue = s.cue ∧ (enterJoining s).slk = s.slk ∧
      (enterJoining s).cck = s.cck ∧ (enterJoining s).free = s.free ∧ (enterJoining s).pending = s.pending := by
  unfold enterJoining
  (repeat' split) <;> simp

@[simp] theorem restore_frame (s : State) :
    (restore s).pending = s.pending := by
  unfold restore
  dsimp only
  (repeat' split) <;> simp

@[simp] theorem hunt_frame (r : Option ModuleReport) (s : State) :
    (hunt r s).pending = s.pending := by
  unfold hunt
  dsimp only
  split <;> simp

end Sys2Proof.Machine
end

