-- ==== Sys2Proof/Laws/Bounds.lean ====
section
/-! SUPPORT. For each shared operation one lemma: it keeps the bounds that the manual gives the node's tables. -/

namespace Sys2Proof.Machine

open Sys2Proof

theorem mem_insertEntry {e x : Entry} {l : List Entry} (h : x ∈ insertEntry e l) : x = e ∨ x ∈ l := by
  induction l with
  | nil => simpa [insertEntry] using h
  | cons y ys ih =>
    simp only [insertEntry] at h
    split at h
    · simp only [List.mem_cons] at h ⊢; tauto
    · split at h
      · simpa using h
      · simp only [List.mem_cons] at h ⊢; tauto

theorem insertEntry_ascending {e : Entry} {l : List Entry} (h : l.Pairwise (fun a b => a.tool < b.tool)) :
    (insertEntry e l).Pairwise (fun a b => a.tool < b.tool) := by
  induction l with
  | nil => simp [insertEntry]
  | cons y ys ih =>
    rw [List.pairwise_cons] at h
    simp only [insertEntry]
    split
    · next hy => exact List.pairwise_cons.2 ⟨fun z hz => hy ▸ h.1 z hz, h.2⟩
    · next hy =>
      split
      · next hlt =>
        refine List.pairwise_cons.2 ⟨fun z hz => ?_, List.pairwise_cons.2 h⟩
        rcases List.mem_cons.1 hz with rfl | hz
        · exact hlt
        · exact Nat.lt_trans hlt (h.1 z hz)
      · next hlt =>
        refine List.pairwise_cons.2 ⟨fun z hz => ?_, ih h.2⟩
        rcases mem_insertEntry hz with rfl | hz
        · exact Nat.lt_of_le_of_ne (Nat.le_of_not_lt hlt) hy
        · exact h.1 z hz

theorem map_ascending {f : Entry → Entry} (hf : ∀ e, (f e).tool = e.tool) {l : List Entry}
    (h : l.Pairwise (fun a b => a.tool < b.tool)) : (l.map f).Pairwise (fun a b => a.tool < b.tool) := by
  rw [List.pairwise_map]; simpa [hf] using h

theorem insertEntry_length {e : Entry} {l : List Entry} : (insertEntry e l).length ≤ l.length + 1 := by
  induction l with
  | nil => simp [insertEntry]
  | cons y ys ih => simp only [insertEntry]; split <;> (try split) <;> simp [ih]

/-- An entry stored under a tool that is in an ascending register replaces the one there. -/
theorem insertEntry_length_same {e x : Entry} {l : List Entry} (h : l.Pairwise (fun a b => a.tool < b.tool))
    (hx : x ∈ l) (ht : x.tool = e.tool) : (insertEntry e l).length = l.length := by
  induction l with
  | nil => cases hx
  | cons y ys ih =>
    rw [List.pairwise_cons] at h
    simp only [insertEntry]
    split
    · rfl
    · next hy =>
      rcases List.mem_cons.1 hx with rfl | hx
      · exact absurd ht hy
      · have := h.1 x hx
        rw [ht] at this
        rw [if_neg (Nat.lt_asymm this)]
        simp [ih h.2 hx]

variable {s : State}

theorem mem_of_entry? {t : ToolId} {e : Entry} (h : s.entry? t = some e) : e ∈ s.trg.entries ∧ e.tool = t :=
  ⟨List.mem_of_find?_eq_some h, by simpa using List.find?_some h⟩

/-- The entry of a tool is read from the register alone. -/
theorem entry?_of_trg {s' : State} (h : s'.trg = s.trg) (t : ToolId) : s'.entry? t = s.entry? t := by
  simp [State.entry?, h]

@[simp] theorem changeKind_tool (full kind : Nat) (e : Entry) : (e.changeKind full kind).tool = e.tool := rfl
@[simp] theorem withKind_tool (s : State) (kind : Nat) (e : Entry) : (Entry.withKind s kind e).tool = e.tool := by
  unfold Entry.withKind; split <;> simp
@[simp] theorem stockIn_tool (s : State) (p : PocketNo) (kind : Nat) (e : Entry) :
    (Entry.stockIn s p kind e).tool = e.tool := withKind_tool s kind e
@[simp] theorem toGauge_tool (s : State) (kind : Nat) (e : Entry) : (Entry.toGauge s kind e).tool = e.tool :=
  withKind_tool s kind e
@[simp] theorem settle_tool (full : Nat) (r : Record) (dup : Bool) (e : Entry) :
    (e.settle full r dup).tool = e.tool := rfl
@[simp] theorem atClose_tool (s : State) (fb heard : Option Record) (e : Entry) :
    (Entry.atClose s fb heard e).tool = e.tool := by
  unfold Entry.atClose; repeat' split
  all_goals rfl

theorem putEntry_bounded {x : Entry} (e : Entry) (h : s.Bounded) (hx : s.entry? e.tool = some x) :
    (putEntry e s).Bounded :=
  { h with
    register := insertEntry_ascending h.register
    entries := by
      have := mem_of_entry? hx
      simpa [putEntry, insertEntry_length_same h.register this.1 this.2] using h.entries }
theorem putEntry_bounded_of_room (e : Entry) (h : s.Bounded) (hl : s.trg.entries.length < 256) :
    (putEntry e s).Bounded :=
  { h with register := insertEntry_ascending h.register, entries := Nat.le_trans insertEntry_length hl }
@[simp] theorem dropEntry_bounded (t : ToolId) (h : s.Bounded) : (dropEntry t s).Bounded :=
  { h with register := h.register.filter _, entries := Nat.le_trans (List.length_filter_le _ _) h.entries }
@[simp] theorem touchHeard_bounded (t : ToolId) (h : s.Bounded) : (touchHeard t s).Bounded := { h with }
@[simp] theorem dropHeard_bounded (t : ToolId) (h : s.Bounded) : (dropHeard t s).Bounded := { h with }
@[simp] theorem dropCheck_bounded (t : ToolId) (h : s.Bounded) : (dropCheck t s).Bounded := { h with }
@[simp] theorem withdrawRecord_bounded (t : ToolId) (h : s.Bounded) : (withdrawRecord t s).Bounded :=
  { h with routine := Nat.le_trans (List.length_filter_le _ _) h.routine }
@[simp] theorem putPocket_bounded (p : PocketNo) (k : Pocket) (h : s.Bounded) : (putPocket p k s).Bounded :=
  { h with pockets := by simpa [putPocket] using h.pockets }
@[simp] theorem refreshIndicators_bounded (h : s.Bounded) : (refreshIndicators s).Bounded :=
  { h with pockets := by simpa [refreshIndicators] using h.pockets }
@[simp] theorem dropWaitingAt_bounded (x : Place) (h : s.Bounded) : (dropWaitingAt x s).Bounded := { h with }
@[simp] theorem putGiver_bounded (g : Giver) (h : s.Bounded) : (putGiver g s).Bounded :=
  { h with transfers := by simpa [putGiver] using h.transfers }
theorem offers_of_taker? {n : SeekNo} {k : Taker} (h : s.Bounded) (hk : s.taker? n = some k) : k.offers.length ≤ 4 :=
  h.offers k (List.mem_of_find?_eq_some hk)
theorem offers_of_takerAt? {p : PocketNo} {k : Taker} (h : s.Bounded) (hk : s.takerAt? p = some k) :
    k.offers.length ≤ 4 :=
  h.offers k (List.mem_of_find?_eq_some hk)
theorem putTaker_bounded (k : Taker) (h : s.Bounded) (hk : k.offers.length ≤ 4) : (putTaker k s).Bounded :=
  { h with
    transfers := by simpa [putTaker] using h.transfers
    offers := fun x hx => by
      obtain ⟨y, hy, rfl⟩ := List.mem_map.1 hx
      split
      · exact hk
      · exact h.offers y hy }
theorem addLapsed_length (x : StationId × SeekNo) (l : List (StationId × SeekNo)) : (addLapsed x l).length ≤ 8 := by
  simp only [addLapsed, List.length_drop]; omega
@[simp] theorem closeGiver_bounded (g : Giver) (h : s.Bounded) : (closeGiver g s).Bounded :=
  { h with transfers := Nat.le_trans (Nat.add_le_add_right (List.length_filter_le _ _) _) h.transfers,
           lapsed := addLapsed_length _ _ }
@[simp] theorem closeTaker_bounded (k : Taker) (h : s.Bounded) : (closeTaker k s).Bounded :=
  { h with
    transfers := Nat.le_trans (Nat.add_le_add_left (List.length_filter_le _ _) _) h.transfers
    offers := fun x hx => h.offers x (List.mem_filter.1 hx).1 }
@[simp] theorem recordStatus_bounded (x : SweepStatus) (h : s.Bounded) : (recordStatus x s).Bounded :=
  { h with statuses := by simpa [recordStatus] using h.statuses }
@[simp] theorem modModule_bounded (a : Nat) (f : Module → Module) (h : s.Bounded) : (modModule a f s).Bounded :=
  { h with modules := by simpa [modModule] using h.modules }
@[simp] theorem setFirst_bounded (x : Option FirstBurst) (h : s.Bounded) : (setFirst x s).Bounded := { h with }
@[simp] theorem setSend_bounded (x : Option Send) (h : s.Bounded) : (setSend x s).Bounded := { h with }
@[simp] theorem setNode_bounded (n : NodeState) (h : s.Bounded) : (setNode n s).Bounded := { h with }
@[simp] theorem stopSending_bounded (h : s.Bounded) : (stopSending s).Bounded :=
  { h with urgent := Nat.zero_le _, routine := Nat.zero_le _ }
@[simp] theorem dropOffers_bounded (src : StationId) (h : s.Bounded) : (dropOffers src s).Bounded :=
  { h with
    transfers := by simpa [dropOffers] using h.transfers
    offers := fun x hx => by
      obtain ⟨y, hy, rfl⟩ := List.mem_map.1 hx
      split
      · exact Nat.le_trans (List.length_filter_le _ _) (h.offers y hy)
      · exact h.offers y hy }
@[simp] theorem tickCalendar_bounded (h : s.Bounded) : (tickCalendar s).Bounded := { h with }
@[simp] theorem writeStamp_bounded (h : s.Bounded) : (writeStamp s).Bounded := { h with }
@[simp] theorem countTimers_bounded (h : s.Bounded) : (countTimers s).Bounded :=
  { h with register := map_ascending (f := Entry.second) (fun _ => rfl) h.register,
           entries := by simpa [countTimers] using h.entries,
           pockets := by simpa [countTimers] using h.pockets,
           transfers := by simpa [countTimers] using h.transfers,
           offers := fun x hx => by obtain ⟨y, hy, rfl⟩ := List.mem_map.1 hx; exact h.offers y hy,
           windows := by simpa [countTimers] using h.windows }
@[simp] theorem retryLatches_bounded (h : s.Bounded) : (retryLatches s).Bounded :=
  { h with pockets := by simpa [retryLatches] using h.pockets }
@[simp] theorem agePresets_bounded (n : Nat) (h : s.Bounded) : (agePresets n s).Bounded :=
  { h with register := map_ascending (f := Entry.older n) (fun _ => rfl) h.register,
           entries := by simpa [agePresets] using h.entries }
@[simp] theorem overrun_bounded (h : s.Bounded) : (overrun s).Bounded := { h with }
@[simp] theorem emptyStage_bounded (h : s.Bounded) : (emptyStage s).Bounded := { h with }
@[simp] theorem sequenceError_bounded (h : s.Bounded) : (sequenceError s).Bounded := { h with }
@[simp] theorem beginStart_bounded (h : s.Bounded) : (beginStart s).Bounded :=
  { h with modules := rfl, readerOnce := List.nodup_nil, readerRange := fun _ hp => absurd hp List.not_mem_nil,
           statuses := rfl, owed := Nat.zero_le _ }
@[simp] theorem restoreClear_bounded (h : s.Bounded) : (restoreClear s).Bounded :=
  { h with pockets := by simpa [restoreClear] using h.pockets, readerOnce := List.nodup_nil,
           readerRange := fun _ hp => absurd hp List.not_mem_nil, statuses := rfl,
           transfers := by simpa [restoreClear] using h.transfers,
           offers := fun x hx => by obtain ⟨y, _, rfl⟩ := List.mem_map.1 hx; exact Nat.zero_le _,
           lapsed := Nat.zero_le _, urgent := Nat.zero_le _, routine := Nat.zero_le _,
           notices := Nat.zero_le _, owed := Nat.zero_le _ }
@[simp] theorem restoreFailed_bounded (h : s.Bounded) : (restoreFailed s).Bounded :=
  { h with register := List.Pairwise.nil, entries := Nat.zero_le _, pockets := rfl,
           offers := fun _ hk => absurd hk List.not_mem_nil, presetQueue := Nat.zero_le _, transfers := Nat.zero_le _,
           lapsed := Nat.zero_le _, windows := Nat.zero_le _ }
@[simp] theorem transitCheckStep_bounded (h : s.Bounded) : (transitCheckStep s).Bounded :=
  { h with windows := Nat.le_trans (List.length_filter_le _ _) h.windows }
@[simp] theorem passTimers_bounded (n : Nat) (h : s.Bounded) : (passTimers n s).Bounded :=
  { h with register := map_ascending (f := Entry.pass n) (fun _ => rfl) h.register,
           entries := by simpa [passTimers] using h.entries,
           pockets := by simpa [passTimers] using h.pockets,
           transfers := by simpa [passTimers] using h.transfers,
           offers := fun x hx => by obtain ⟨y, hy, rfl⟩ := List.mem_map.1 hx; exact h.offers y hy }
@[simp] theorem checkStep_bounded (h : s.Bounded) : (checkStep s).Bounded := { h with }
@[simp] theorem hearRecord_bounded (r : Record) (h : s.Bounded) : (hearRecord r s).Bounded :=
  { h with windows := by simpa [hearRecord] using h.windows }
@[simp] theorem recheckWith_bounded (r : Record) (h : s.Bounded) : (recheckWith r s).Bounded := { h with }

theorem pushUrgent_bounded (f : Frame) (o : FrameOwner) (h : s.Bounded) (hu : s.hli.urgent.length < 8) :
    (pushUrgent f o s).Bounded :=
  { h with urgent := by simpa [pushUrgent] using hu }
theorem openWindow_bounded (w : Window) (h : s.Bounded) (hw : s.cue.windows.length < 4) : (openWindow w s).Bounded :=
  { h with windows := by simpa [openWindow] using hw }
@[simp] theorem owePulse_bounded (h : s.Bounded) : (owePulse s).Bounded := by
  unfold owePulse
  repeat' split
  all_goals first | exact h | exact { h with owed := Nat.min_le_left _ _ }

theorem foldl_bounded {α : Type} {f : State → α → State} (hf : ∀ s a, s.Bounded → (f s a).Bounded) (l : List α)
    (h : s.Bounded) : (l.foldl f s).Bounded := by
  induction l generalizing s with
  | nil => exact h
  | cons a l ih => exact ih (hf s a h)

/-- A state whose tables are those of another state but for a block that keeps the bounded fields is bounded with it. -/
theorem with_trg {x : Trg} (h : s.Bounded) (hx : x.entries = s.trg.entries) : ({ s with trg := x }).Bounded :=
  { h with register := by simpa [hx] using h.register, entries := by simpa [hx] using h.entries }
theorem with_pkc {x : Pkc} (h : s.Bounded) (hm : x.modules = s.pkc.modules) (hp : x.pockets = s.pkc.pockets) :
    ({ s with pkc := x }).Bounded :=
  { h with modules := by simpa [hm] using h.modules, pockets := by simpa [hp] using h.pockets }
theorem with_rds {x : Rds} (h : s.Bounded) (hq : x.queue = s.rds.queue) (ht : x.table = s.rds.table) :
    ({ s with rds := x }).Bounded :=
  { h with readerOnce := by simpa [hq] using h.readerOnce, readerRange := by simpa [hq] using h.readerRange,
           statuses := by simpa [ht] using h.statuses }
theorem with_pru {x : Pru} (h : s.Bounded) (hq : x.queue = s.pru.queue) : ({ s with pru := x }).Bounded :=
  { h with presetQueue := by simpa [hq] using h.presetQueue }
theorem with_waiting (w : List Waiting) (h : s.Bounded) :
    ({ s with cue := { s.cue with waiting := w } }).Bounded := { h with }
theorem with_hli {x : Hli} (h : s.Bounded) (hu : x.urgent = s.hli.urgent) (hr : x.routine.length ≤ 16) :
    ({ s with hli := x }).Bounded :=
  { h with urgent := by simpa [hu] using h.urgent, routine := hr }
theorem with_slk {x : Slk} (h : s.Bounded) (hn : x.notices = s.slk.notices) (ho : x.owed = s.slk.owed) :
    ({ s with slk := x }).Bounded :=
  { h with notices := by simpa [hn] using h.notices, owed := by simpa [ho] using h.owed }
theorem with_cck (x : Cck) (h : s.Bounded) : ({ s with cck := x }).Bounded := { h with }
theorem with_stc (x : Stc) (h : s.Bounded) : ({ s with stc := x }).Bounded := { h with }
theorem with_free (n : Nat) (h : s.Bounded) : ({ s with free := n }).Bounded := { h with }
theorem with_pending (l : List Instr) (h : s.Bounded) : ({ s with pending := l }).Bounded := { h with }
theorem with_closedWindow (t : ToolId) (h : s.Bounded) :
    ({ s with cue := { s.cue with windows := s.cue.windows.filter (fun w => w.tool != t) } }).Bounded :=
  { h with windows := Nat.le_trans (List.length_filter_le _ _) h.windows }

theorem modEntry_bounded (t : ToolId) (f : Entry → Entry) (h : s.Bounded) (hf : ∀ e, (f e).tool = e.tool) :
    (modEntry t f s).Bounded := by
  unfold modEntry
  split
  · next e he => exact putEntry_bounded _ h (by rw [hf, (mem_of_entry? he).2]; exact he)
  · exact h

theorem appendRoutine_length {f : Frame} {q : List Frame} (h : q.length ≤ 16) : (appendRoutine f q).length ≤ 16 := by
  unfold appendRoutine
  split
  · next hl => simpa using hl
  · split
    · next ha =>
      obtain ⟨x, hx, hr⟩ := List.any_eq_true.1 ha
      have := List.length_eraseP_of_mem hx hr
      simp only [List.length_append, List.length_cons, List.length_nil, this]
      omega
    · exact h

theorem placeRecord_length {r : Record} {q : List Frame} (h : q.length ≤ 16) : (placeRecord r q).length ≤ 16 := by
  unfold placeRecord
  split
  · simpa using h
  · exact appendRoutine_length h

@[simp] theorem handRecord_bounded (t : ToolId) (h : s.Bounded) : (handRecord t s).Bounded := by
  unfold handRecord
  repeat' split
  all_goals first | exact h | exact { h with routine := placeRecord_length h.routine }

@[simp] theorem handPlain_bounded (f : Frame) (o : FrameOwner) (h : s.Bounded) : (handPlain f o s).Bounded := by
  unfold handPlain
  split
  · next hu => exact pushUrgent_bounded f o h (by simp [State.urgentTakes, State.urgentSpace] at hu; exact hu.1)
  · exact h

@[simp] theorem sendLapse_bounded (dst : StationId) (n : SeekNo) (reason : LapseReason) (o : FrameOwner)
    (h : s.Bounded) : (sendLapse dst n reason o s).Bounded := by
  unfold sendLapse
  try dsimp only
  repeat' first | with_reducible assumption | split | with_reducible apply handPlain_bounded | exact { h with }

@[simp] theorem replaceNotice_length (n : Notice) (l : List Notice) : (replaceNotice n l).length = l.length := by
  induction l with
  | nil => rfl
  | cons x xs ih => simp only [replaceNotice]; split <;> simp [ih]

@[simp] theorem pushNotice_bounded (n : Notice) (h : s.Bounded) : (pushNotice n s).Bounded := by
  unfold pushNotice
  split
  · exact h
  · apply owePulse_bounded
    split
    · next hl => exact { h with notices := by simpa using hl }
    · split
      · exact { h with notices := by simpa using h.notices }
      · exact { h with notices := by have := h.notices; simp; omega }

@[simp] theorem noticeLimit_bounded (p : PocketNo) (t : ToolId) (h : s.Bounded) : (noticeLimit p t s).Bounded := by
  unfold noticeLimit
  try dsimp only
  repeat' first | with_reducible assumption | split | with_reducible apply pushNotice_bounded | exact { h with }

@[simp] theorem noticeNeedFailed_bounded (tk : Taker) (r : FailReason) (h : s.Bounded) :
    (noticeNeedFailed tk r s).Bounded := by
  unfold noticeNeedFailed
  try dsimp only
  repeat' first | with_reducible assumption | split | with_reducible apply pushNotice_bounded | exact { h with }

@[simp] theorem modPocket_bounded (p : PocketNo) (f : Pocket → Pocket) (h : s.Bounded) :
    (modPocket p f s).Bounded := by
  unfold modPocket
  try dsimp only
  repeat' first | with_reducible assumption | split | with_reducible apply putPocket_bounded | exact { h with }

@[simp] theorem setPresetQueue_bounded (q : List ToolId) (hq : q.length ≤ 32) (h : s.Bounded) :
    (setPresetQueue q s).Bounded :=
  refreshIndicators_bounded { h with presetQueue := hq }

@[simp] theorem presetRemove_bounded (t : ToolId) (h : s.Bounded) : (presetRemove t s).Bounded := by
  unfold presetRemove
  split
  · exact setPresetQueue_bounded _ (Nat.le_trans (List.length_filter_le _ _) h.presetQueue) h
  · exact h

@[simp] theorem presetReport_bounded (t : ToolId) (h : s.Bounded) : (presetReport t s).Bounded := by
  unfold presetReport
  repeat' split
  all_goals first
    | exact h
    | exact presetRemove_bounded t h
    | (next hl => exact setPresetQueue_bounded _ (by simpa using hl) h)

@[simp] theorem clearMark_bounded (p : PocketNo) (t : Option ToolId) (h : s.Bounded) : (clearMark p t s).Bounded := by
  unfold clearMark
  try dsimp only
  repeat' first
    | with_reducible assumption
    | split
    | with_reducible apply pushNotice_bounded
    | with_reducible apply modPocket_bounded
    | exact { h with }

@[simp] theorem clearEntryMark_bounded (e : Entry) (h : s.Bounded) : (clearEntryMark e s).Bounded := by
  unfold clearEntryMark
  try dsimp only
  repeat' first | with_reducible assumption | split | with_reducible apply clearMark_bounded | exact { h with }

theorem versioned_bounded (t : ToolId) (f : Entry → Entry) (h : s.Bounded) (hf : ∀ e, (f e).tool = e.tool) :
    (versioned t f s).Bounded := by
  unfold versioned
  split
  · exact h
  · next e he =>
    extract_lets e' e'' s1 s2
    have ht : e''.tool = t := by
      simp only [e'', e']; split <;> simp [hf, (mem_of_entry? he).2]
    have h2 : s2.Bounded := handRecord_bounded t (putEntry_bounded (x := e) _ (clearEntryMark_bounded e h)
      (by rw [ht, entry?_of_trg (clearEntryMark_frame e s).1]; exact he))
    split
    · exact h2
    · exact presetReport_bounded t h2

theorem present_lt {p : PocketNo} (hp : s.present p = true) : p < 48 := by
  simp only [State.present, Bool.and_eq_true, decide_eq_true_eq] at hp; exact hp.1

@[simp] theorem enqueueRead_bounded (p : PocketNo) (h : s.Bounded) : (enqueueRead p s).Bounded := by
  unfold enqueueRead
  split
  · exact h
  · next hq =>
    simp only [Bool.or_eq_true, Bool.not_eq_true', not_or, Bool.not_eq_false, List.contains_eq_mem,
      decide_eq_true_eq] at hq
    refine { h with readerOnce := ?_, readerRange := fun x hx => ?_ }
    · rw [List.nodup_append]
      exact ⟨h.readerOnce, by simp, fun a ha b hb => by simp at hb; rintro rfl; exact hq.1.2 (hb ▸ ha)⟩
    · rcases List.mem_append.1 hx with hx | hx
      · exact h.readerRange x hx
      · rw [List.mem_singleton.1 hx]; exact present_lt hq.1.1

@[simp] theorem requestRead_bounded (p : PocketNo) (h : s.Bounded) : (requestRead p s).Bounded := by
  unfold requestRead
  try dsimp only
  repeat' first
    | with_reducible assumption
    | split
    | with_reducible apply enqueueRead_bounded
    | with_reducible apply modPocket_bounded
    | exact { h with }

@[simp] theorem dropRead_bounded (p : PocketNo) (h : s.Bounded) : (dropRead p s).Bounded := by
  exact { h with readerOnce := h.readerOnce.filter _,
                 readerRange := fun x hx => h.readerRange x (List.mem_filter.1 hx).1 }

@[simp] theorem withdrawReads_bounded (p : PocketNo) (h : s.Bounded) : (withdrawReads p s).Bounded := by
  unfold withdrawReads
  exact modPocket_bounded _ _ (dropWaitingAt_bounded _ (with_rds (dropRead_bounded p h) rfl rfl))

@[simp] theorem disturbStage_bounded (p : PocketNo) (h : s.Bounded) : (disturbStage p s).Bounded := by
  unfold disturbStage
  try dsimp only
  repeat' first | with_reducible assumption | split | exact { h with }

@[simp] theorem openDoor_bounded (p : PocketNo) (h : s.Bounded) : (openDoor p s).Bounded := by
  unfold openDoor
  try dsimp only
  repeat' first
    | with_reducible assumption
    | split
    | with_reducible apply clearMark_bounded
    | with_reducible apply modPocket_bounded
    | with_reducible apply disturbStage_bounded
    | with_reducible apply withdrawReads_bounded
    | exact { h with }

@[simp] theorem unlatchOpens_bounded (p : PocketNo) (h : s.Bounded) : (unlatchOpens p s).Bounded := by
  unfold unlatchOpens
  try dsimp only
  repeat' first
    | with_reducible assumption
    | split
    | with_reducible apply clearMark_bounded
    | with_reducible apply modPocket_bounded
    | with_reducible apply disturbStage_bounded
    | with_reducible apply withdrawReads_bounded
    | exact { h with }

@[simp] theorem openLatch_bounded (p : PocketNo) (h : s.Bounded) : (openLatch p s).Bounded := by
  unfold openLatch
  try dsimp only
  repeat' first
    | with_reducible assumption
    | split
    | with_reducible apply modPocket_bounded
    | with_reducible apply unlatchOpens_bounded
    | exact { h with }

@[simp] theorem closing_bounded (p : PocketNo) (h : s.Bounded) : (closing p s).Bounded := by
  unfold closing
  try dsimp only
  repeat' first
    | with_reducible assumption
    | split
    | with_reducible apply requestRead_bounded
    | with_reducible apply modPocket_bounded
    | exact { h with }

@[simp] theorem suspendSweep_bounded  (h : s.Bounded) : (suspendSweep  s).Bounded := by
  unfold suspendSweep
  dsimp only
  split
  · refine { h with readerOnce := ?_, readerRange := ?_ }
    · dsimp only; split
      · exact h.readerOnce
      · exact h.readerOnce.filter _
    · dsimp only; split
      · exact h.readerRange
      · exact fun x hx => h.readerRange x (List.mem_filter.1 hx).1
  · exact { h with }

@[simp] theorem reportQuiet_bounded  (h : s.Bounded) : (reportQuiet  s).Bounded := by
  unfold reportQuiet
  try dsimp only
  repeat' first | with_reducible assumption | split | with_reducible apply suspendSweep_bounded | exact { h with }

@[simp] theorem startSweep_bounded (h : s.Bounded) : (startSweep  s).Bounded := by
  exact { h with statuses := rfl }

@[simp] theorem startIdleSweep_bounded (h : s.Bounded) : (startIdleSweep s).Bounded := by
  unfold startIdleSweep
  split
  · exact startSweep_bounded h
  · exact h

@[simp] theorem unreserve_bounded (p : PocketNo) (h : s.Bounded) : (unreserve p s).Bounded := by
  unfold unreserve
  try dsimp only
  repeat' first | with_reducible assumption | split | with_reducible apply modPocket_bounded | exact { h with }

@[simp] theorem relatchPresent_bounded (p : PocketNo) (h : s.Bounded) : (relatchPresent p s).Bounded := by
  unfold relatchPresent
  try dsimp only
  repeat' first | with_reducible assumption | split | with_reducible apply modPocket_bounded | exact { h with }

@[simp] theorem relatchGone_bounded (p : PocketNo) (h : s.Bounded) : (relatchGone p s).Bounded := by
  unfold relatchGone
  try dsimp only
  repeat' first | with_reducible assumption | split | with_reducible apply modPocket_bounded | exact { h with }

@[simp] theorem target_bounded (p : PocketNo) (n : SeekNo) (h : s.Bounded) : (target p n s).Bounded := by
  unfold target
  try dsimp only
  repeat' first
    | with_reducible assumption
    | split
    | with_reducible apply openLatch_bounded
    | with_reducible apply modPocket_bounded
    | exact { h with }

@[simp] theorem untarget_bounded (p : PocketNo) (h : s.Bounded) : (untarget p s).Bounded := by
  unfold untarget
  try dsimp only
  repeat' first
    | with_reducible assumption
    | split
    | with_reducible apply modPocket_bounded
    | with_reducible apply requestRead_bounded
    | exact { h with }

@[simp] theorem restock_bounded (t : ToolId) (h : s.Bounded) : (restock t s).Bounded :=
  modEntry_bounded t _ h (fun e => by split <;> rfl)

@[simp] theorem failTaker_bounded (k : Taker) (r : FailReason) (h : s.Bounded) : (failTaker k r s).Bounded := by
  unfold failTaker
  try dsimp only
  repeat' first
    | with_reducible assumption
    | split
    | with_reducible apply closeTaker_bounded
    | with_reducible apply untarget_bounded
    | with_reducible apply noticeNeedFailed_bounded
    | exact { h with }

@[simp] theorem sendResult_bounded (r : Result) (h : s.Bounded) : (sendResult r s).Bounded := by
  unfold sendResult
  try dsimp only
  repeat' first | with_reducible assumption | split | exact { h with }

@[simp] theorem abortBurst_bounded  (h : s.Bounded) : (abortBurst  s).Bounded := by
  unfold abortBurst
  split
  · exact sendResult_bounded _ (with_pru h rfl)
  · exact h

@[simp] theorem endBursts_bounded  (h : s.Bounded) : (endBursts  s).Bounded := by
  exact with_pru (abortBurst_bounded h) rfl

@[simp] theorem gaugeLeft_bounded (t : ToolId) (h : s.Bounded) : (gaugeLeft t s).Bounded := by
  unfold gaugeLeft
  repeat' first | exact h | split
  exact with_pru (endBursts_bounded h) rfl

@[simp] theorem displaceGauge_bounded (t : ToolId) (h : s.Bounded) : (displaceGauge t s).Bounded := by
  unfold displaceGauge
  try dsimp only
  repeat' first
    | with_reducible assumption
    | split
    | with_reducible apply gaugeLeft_bounded
    | with_reducible apply versioned_bounded
    | exact fun _ => by first | rfl | simp
    | exact { h with }

@[simp] theorem evictForRoom_bounded  (h : s.Bounded) : (evictForRoom  s).Bounded := by
  unfold evictForRoom
  try dsimp only
  repeat' first | with_reducible assumption | split | with_reducible apply dropEntry_bounded | exact { h with }

@[simp] theorem createEntry_bounded (e : Entry) (h : s.Bounded) : (createEntry e s).Bounded := by
  unfold createEntry
  split
  · next x hx => exact putEntry_bounded e h hx
  · dsimp only
    split
    · next hl => exact putEntry_bounded_of_room e (evictForRoom_bounded h) hl
    · exact evictForRoom_bounded h

theorem openTransitCheck_bounded (t : ToolId) (h : s.Bounded) (hw : s.cue.windows.length < 4) :
    (openTransitCheck t s).Bounded :=
  handPlain_bounded _ _ (openWindow_bounded _ h hw)

theorem openAdoption_bounded (t : ToolId) (kind : Nat) (x : Place) (h : s.Bounded)
    (hw : s.cue.windows.length < 4) : (openAdoption t kind x s).Bounded := by
  unfold openAdoption
  split
  · exact noticeLimit_bounded _ _ h
  · refine presetReport_bounded _ (handPlain_bounded _ _ (openWindow_bounded _ ?_ ?_))
    · repeat' first
        | with_reducible assumption
        | split
        | apply modPocket_bounded
        | apply dropHeard_bounded
        | apply createEntry_bounded
        | apply displaceGauge_bounded
    · cases x <;> dsimp only <;> split <;> simpa using hw

theorem takeWaiting_bounded (w : Waiting) (h : s.Bounded) (hw : s.cue.windows.length < 4) :
    (takeWaiting w s).Bounded := by
  have h1 := with_waiting (s.cue.waiting.filter (fun x => !decide (x = w))) h
  unfold takeWaiting
  dsimp only
  split
  · exact openTransitCheck_bounded _ h1 hw
  · split
    · split
      · exact requestRead_bounded _ h1
      · exact h1
    · exact openAdoption_bounded _ _ _ h1 hw

@[simp] theorem serveWaiting_bounded (l : List Waiting) (h : s.Bounded) : (serveWaiting l s).Bounded := by
  induction l generalizing s with
  | nil => exact h
  | cons w ws ih =>
    unfold serveWaiting
    split
    · next hw => exact ih (takeWaiting_bounded w h hw)
    · exact h

@[simp] theorem closeWindow_bounded (t : ToolId) (h : s.Bounded) : (closeWindow t s).Bounded := by
  unfold closeWindow
  split
  · exact serveWaiting_bounded _ (with_closedWindow t h)
  · exact h

@[simp] theorem closeTransitCheck_bounded (t : ToolId) (h : s.Bounded) : (closeTransitCheck t s).Bounded := by
  unfold closeTransitCheck
  dsimp only
  split
  · exact with_waiting _ h
  · exact closeWindow_bounded t (with_waiting _ h)

@[simp] theorem beginTransitCheck_bounded (t : ToolId) (h : s.Bounded) : (beginTransitCheck t s).Bounded := by
  unfold beginTransitCheck
  split
  · next hw => exact openTransitCheck_bounded t h hw
  · exact with_waiting _ h

@[simp] theorem foreignArrival_bounded (t : ToolId) (kind : Nat) (x : Place) (h : s.Bounded) :
    (foreignArrival t kind x s).Bounded := by
  unfold foreignArrival
  split
  · split
    · exact modPocket_bounded _ _ h
    · exact h
  · split
    · next hw => exact openAdoption_bounded t kind x h hw
    · dsimp only
      split
      · exact modPocket_bounded _ _ (with_waiting _ h)
      · exact with_waiting _ h

@[simp] theorem settleAdoption_bounded (t : ToolId) (fallback heard : Option Record) (h : s.Bounded) :
    (settleAdoption t fallback heard s).Bounded := by
  exact serveWaiting_bounded _ (presetReport_bounded t (handRecord_bounded t
    (modEntry_bounded t _ (with_closedWindow t h) (fun _ => atClose_tool _ _ _ _))))

theorem urgentTakes_lt (hu : s.urgentTakes = true) : s.hli.urgent.length < 8 := by
  simp only [State.urgentTakes, State.urgentSpace, Bool.and_eq_true, decide_eq_true_eq] at hu
  exact hu.1

theorem takeNext_bounded (l : List Offer) (k : Taker) (h : s.Bounded) (hl : l.length ≤ 4) :
    (takeNext l k s).Bounded := by
  induction l generalizing k with
  | nil => exact failTaker_bounded _ _ h
  | cons o rest ih =>
    unfold takeNext
    dsimp only
    split
    · next hu => exact pushUrgent_bounded _ _ (putTaker_bounded _ h (Nat.le_of_succ_le hl)) (urgentTakes_lt hu)
    · exact ih _ (Nat.le_of_succ_le hl)

theorem fallBack_bounded (k : Taker) (h : s.Bounded) (hk : k.offers.length ≤ 4) : (fallBack k s).Bounded := by
  unfold fallBack
  try dsimp only
  repeat' first
    | with_reducible assumption
    | split
    | with_reducible apply requestRead_bounded
    | with_reducible apply takeNext_bounded
    | exact { h with }

@[simp] theorem handSeek_bounded (k : Taker) (h : s.Bounded) : (handSeek k s).Bounded := by
  unfold handSeek
  split
  · next hu => exact pushUrgent_bounded _ _ h (urgentTakes_lt hu)
  · exact failTaker_bounded _ _ h

@[simp] theorem endOffered_bounded (g : Giver) (h : s.Bounded) : (endOffered g s).Bounded := by
  unfold endOffered
  try dsimp only
  repeat' first
    | with_reducible assumption
    | split
    | with_reducible apply unreserve_bounded
    | with_reducible apply closeGiver_bounded
    | with_reducible apply restock_bounded
    | exact { h with }

@[simp] theorem handOffer_bounded (g : Giver) (h : s.Bounded) : (handOffer g s).Bounded := by
  unfold handOffer
  split
  · next hu => exact pushUrgent_bounded _ _ h (urgentTakes_lt hu)
  · exact endOffered_bounded _ h

@[simp] theorem readGiverPocket_bounded (g : Giver) (h : s.Bounded) : (readGiverPocket g s).Bounded := by
  unfold readGiverPocket
  try dsimp only
  repeat' first | with_reducible assumption | split | with_reducible apply requestRead_bounded | exact { h with }

@[simp] theorem startWithdrawing_bounded (g : Giver) (h : s.Bounded) : (startWithdrawing g s).Bounded := by
  unfold startWithdrawing
  try dsimp only
  repeat' first
    | with_reducible assumption
    | split
    | with_reducible apply readGiverPocket_bounded
    | with_reducible apply putGiver_bounded
    | exact { h with }

@[simp] theorem lapseGiver_bounded (g : Giver) (h : s.Bounded) : (lapseGiver g s).Bounded := by
  unfold lapseGiver
  try dsimp only
  repeat' first
    | with_reducible assumption
    | split
    | with_reducible apply endOffered_bounded
    | with_reducible apply startWithdrawing_bounded
    | with_reducible apply closeTransitCheck_bounded
    | with_reducible apply closeGiver_bounded
    | with_reducible apply versioned_bounded
    | exact fun _ => by first | rfl | simp
    | exact { h with }

@[simp] theorem lapseSeeker_bounded (g : Giver) (h : s.Bounded) : (lapseSeeker g s).Bounded := by
  unfold lapseSeeker
  try dsimp only
  repeat' first | with_reducible assumption | split | with_reducible apply sendLapse_bounded | exact { h with }

@[simp] theorem withdrawGiver_bounded (c : GiverCause) (t : ToolId) (h : s.Bounded) :
    (withdrawGiver c t s).Bounded := by
  unfold withdrawGiver
  try dsimp only
  repeat' first
    | with_reducible assumption
    | split
    | with_reducible apply endOffered_bounded
    | with_reducible apply lapseSeeker_bounded
    | with_reducible apply startWithdrawing_bounded
    | with_reducible apply closeGiver_bounded
    | with_reducible apply restock_bounded
    | with_reducible apply closeTransitCheck_bounded
    | exact { h with }

theorem versionedCondition_bounded (t : ToolId) (f : Entry → Entry) (h : s.Bounded) (hf : ∀ e, (f e).tool = e.tool) :
    (versionedCondition t f s).Bounded := by
  unfold versionedCondition
  try dsimp only
  repeat' first
    | with_reducible assumption
    | split
    | with_reducible apply withdrawGiver_bounded
    | with_reducible apply versioned_bounded
    | exact fun _ => by first | rfl | simp
    | exact { h with }

@[simp] theorem vacateEntry_bounded (e : Entry) (h : s.Bounded) : (vacateEntry e s).Bounded := by
  unfold vacateEntry
  try dsimp only
  repeat' first | with_reducible assumption | split | with_reducible apply modPocket_bounded | exact { h with }

@[simp] theorem vacateMoved_bounded (q : PocketNo) (t : ToolId) (h : s.Bounded) : (vacateMoved q t s).Bounded := by
  unfold vacateMoved
  try dsimp only
  repeat' first
    | with_reducible assumption
    | split
    | with_reducible apply clearMark_bounded
    | with_reducible apply modPocket_bounded
    | with_reducible apply requestRead_bounded
    | exact { h with }

@[simp] theorem endGaugeBursts_bounded (t : ToolId) (h : s.Bounded) : (endGaugeBursts t s).Bounded := by
  unfold endGaugeBursts
  try dsimp only
  repeat' first | with_reducible assumption | split | with_reducible apply endBursts_bounded | exact { h with }

@[simp] theorem deleteEntry_bounded (t : ToolId) (h : s.Bounded) : (deleteEntry t s).Bounded := by
  unfold deleteEntry
  try dsimp only
  repeat' first
    | with_reducible assumption
    | split
    | with_reducible apply clearEntryMark_bounded
    | with_reducible apply withdrawGiver_bounded
    | with_reducible apply withdrawRecord_bounded
    | with_reducible apply dropEntry_bounded
    | with_reducible apply vacateEntry_bounded
    | with_reducible apply presetRemove_bounded
    | with_reducible apply endGaugeBursts_bounded
    | with_reducible apply closeWindow_bounded
    | with_reducible apply closeTransitCheck_bounded
    | exact { h with }

@[simp] theorem yieldTo_bounded (r : Record) (h : s.Bounded) : (yieldTo r s).Bounded := by
  unfold yieldTo
  split
  · exact h
  · next e he =>
    extract_lets s1 s2 s3 s4 s5
    have h2 : s2.Bounded := dropCheck_bounded _ (touchHeard_bounded _ (putEntry_bounded (x := e) _
      (clearEntryMark_bounded e h) (by rw [entry?_of_trg (clearEntryMark_frame e s).1]; exact he)))
    have h4 : s4.Bounded :=
      vacateEntry_bounded _ (withdrawGiver_bounded _ _ (withdrawRecord_bounded _ (presetRemove_bounded _ h2)))
    have h5 : s5.Bounded := by
      simp only [s5]; split
      · exact endGaugeBursts_bounded _ h4
      · exact h4
    exact closeTransitCheck_bounded _ h5

@[simp] theorem conflictFound_bounded (t : ToolId) (h : s.Bounded) : (conflictFound t s).Bounded := by
  unfold conflictFound
  try dsimp only
  repeat' first
    | with_reducible assumption
    | split
    | with_reducible apply handRecord_bounded
    | with_reducible apply modEntry_bounded
    | with_reducible apply versionedCondition_bounded
    | exact fun _ => by first | rfl | simp
    | exact { h with }

@[simp] theorem conflictReceived_bounded (t : ToolId) (h : s.Bounded) : (conflictReceived t s).Bounded := by
  unfold conflictReceived
  split
  · exact h
  · next e he =>
    have h1 : (dropCheck t s).Bounded := dropCheck_bounded t h
    dsimp only
    split
    · exact h1
    · exact withdrawGiver_bounded _ _ (presetRemove_bounded _ (putEntry_bounded (x := e) _ (clearEntryMark_bounded e h1)
        (by rw [(mem_of_entry? he).2, entry?_of_trg (clearEntryMark_frame e _).1]; exact he)))

@[simp] theorem reassert_bounded (r : Record) (h : s.Bounded) : (reassert r s).Bounded := by
  unfold reassert
  split
  · exact h
  · next e he =>
    exact handRecord_bounded _ (putEntry_bounded (x := e) _ (clearEntryMark_bounded e h)
      (by rw [(mem_of_entry? he).2, entry?_of_trg (clearEntryMark_frame e s).1]; exact he))

@[simp] theorem retag_bounded (t : ToolId) (kind : Nat) (h : s.Bounded) : (retag t kind s).Bounded := by
  unfold retag
  try dsimp only
  repeat' first
    | with_reducible assumption
    | split
    | with_reducible apply versionedCondition_bounded
    | exact fun _ => by first | rfl | simp
    | exact { h with }

@[simp] theorem settleHolding_bounded (held : Bool) (r : Record) (h : s.Bounded) :
    (settleHolding held r s).Bounded := by
  unfold settleHolding
  try dsimp only
  repeat' first
    | with_reducible assumption
    | split
    | with_reducible apply conflictFound_bounded
    | with_reducible apply reassert_bounded
    | with_reducible apply yieldTo_bounded
    | exact { h with }

@[simp] theorem beginCheck_bounded (p : PocketNo) (r : Record) (h : s.Bounded) : (beginCheck p r s).Bounded := by
  unfold beginCheck
  try dsimp only
  repeat' first | with_reducible assumption | split | with_reducible apply enqueueRead_bounded | exact { h with }

@[simp] theorem createCached_bounded (r : Record) (h : s.Bounded) : (createCached r s).Bounded := by
  unfold createCached
  try dsimp only
  repeat' first
    | with_reducible assumption
    | split
    | with_reducible apply touchHeard_bounded
    | with_reducible apply createEntry_bounded
    | exact { h with }

theorem mergeCached_bounded (e : Entry) (r : Record) (h : s.Bounded) (he : s.entry? r.tool = some e) :
    (mergeCached e r s).Bounded := by
  unfold mergeCached
  split
  · exact touchHeard_bounded _ (putEntry_bounded _ h he)
  · split
    · exact touchHeard_bounded _ (putEntry_bounded _ h (by rw [(mem_of_entry? he).2]; exact he))
    · exact h

@[simp] theorem mergeSuperseding_bounded (e : Entry) (r : Record) (h : s.Bounded) :
    (mergeSuperseding e r s).Bounded := by
  unfold mergeSuperseding
  try dsimp only
  repeat' first
    | with_reducible assumption
    | split
    | with_reducible apply settleHolding_bounded
    | with_reducible apply beginCheck_bounded
    | exact { h with }

@[simp] theorem mergeByVersion_bounded (e : Entry) (r : Record) (h : s.Bounded) : (mergeByVersion e r s).Bounded := by
  unfold mergeByVersion
  split
  · exact mergeSuperseding_bounded e r h
  · exact handRecord_bounded _ h

@[simp] theorem mergeCustody_bounded (e : Entry) (r : Record) (h : s.Bounded) : (mergeCustody e r s).Bounded := by
  unfold mergeCustody
  repeat' first
    | with_reducible assumption
    | split
    | with_reducible apply conflictReceived_bounded
    | with_reducible apply recheckWith_bounded
    | with_reducible apply mergeByVersion_bounded

@[simp] theorem mergeRecord_bounded (r : Record) (h : s.Bounded) : (mergeRecord r s).Bounded := by
  unfold mergeRecord
  try dsimp only
  repeat' first
    | with_reducible assumption
    | split
    | with_reducible apply hearRecord_bounded
    | with_reducible apply createCached_bounded
    | with_reducible apply mergeCached_bounded
    | with_reducible apply yieldTo_bounded
    | with_reducible apply mergeCustody_bounded
    | with_reducible apply dropCheck_bounded
    | exact { h with }

@[simp] theorem settleCheck_bounded (c : PresenceCheck) (o : Outcome) (h : s.Bounded) :
    (settleCheck c o s).Bounded := by
  unfold settleCheck
  try dsimp only
  repeat' first
    | with_reducible assumption
    | split
    | with_reducible apply hearRecord_bounded
    | with_reducible apply mergeRecord_bounded
    | with_reducible apply settleHolding_bounded
    | exact { h with }

@[simp] theorem leavePlace_bounded (t : ToolId) (h : s.Bounded) : (leavePlace t s).Bounded := by
  unfold leavePlace
  try dsimp only
  repeat' first
    | with_reducible assumption
    | split
    | with_reducible apply withdrawGiver_bounded
    | with_reducible apply vacateMoved_bounded
    | with_reducible apply gaugeLeft_bounded
    | exact { h with }

@[simp] theorem forceAway_bounded (p : PocketNo) (t : ToolId) (h : s.Bounded) : (forceAway p t s).Bounded := by
  unfold forceAway
  try dsimp only
  repeat' first
    | with_reducible assumption
    | split
    | with_reducible apply versioned_bounded
    | with_reducible apply noticeLimit_bounded
    | with_reducible apply deleteEntry_bounded
    | exact fun _ => by first | rfl | simp
    | exact { h with }

@[simp] theorem cacheReceived_bounded (src : StationId) (t : ToolId) (v : Version) (h : s.Bounded) :
    (cacheReceived src t v s).Bounded := by
  unfold cacheReceived
  try dsimp only
  repeat' first
    | with_reducible assumption
    | split
    | with_reducible apply touchHeard_bounded
    | with_reducible apply modEntry_bounded
    | with_reducible apply withdrawRecord_bounded
    | with_reducible apply presetRemove_bounded
    | exact fun _ => by first | rfl | simp
    | exact { h with }

@[simp] theorem takerArrival_bounded (k : Taker) (o : Offer) (q : PocketNo) (kind : Nat) (h : s.Bounded) :
    (takerArrival k o q kind s).Bounded := by
  unfold takerArrival
  have h0 : ({ s with free := s.free + 1 }).Bounded := with_free _ h
  extract_lets t src s1 s2 s3 e s4 s5 s6 s7 s8
  have h2 : s2.Bounded := by
    simp only [s2]; split
    · exact closeWindow_bounded _ h0
    · exact h0
  have h3 : s3.Bounded := leavePlace_bounded _ h2
  have h4 : s4.Bounded := handRecord_bounded _ (dropHeard_bounded _ (createEntry_bounded _ h3))
  have h5 : s5.Bounded := by
    simp only [s5]; split
    · exact h4
    · exact untarget_bounded _ h4
  have h6 : s6.Bounded := modPocket_bounded _ _ h5
  have h7 : s7.Bounded := handPlain_bounded _ _ (closeTaker_bounded _ h6)
  exact presetReport_bounded _ (pushNotice_bounded _ h7)

@[simp] theorem reportReturn_bounded (e : Entry) (h : s.Bounded) : (reportReturn e s).Bounded := by
  unfold reportReturn
  split
  · exact presetReport_bounded _ h
  · exact h

@[simp] theorem settleTag_bounded (p : PocketNo) (u : ToolId) (kind : Nat) (h : s.Bounded) :
    (settleTag p u kind s).Bounded := by
  unfold settleTag
  repeat' split
  · exact reportReturn_bounded _ (modPocket_bounded _ _
      (versioned_bounded _ _ (leavePlace_bounded _ h) (fun _ => stockIn_tool _ _ _ _)))
  · exact foreignArrival_bounded _ _ _ h
  · exact foreignArrival_bounded _ _ _ h

@[simp] theorem arriveInsert_bounded (p : PocketNo) (u : ToolId) (kind : Nat) (h : s.Bounded) :
    (arriveInsert p u kind s).Bounded := by
  unfold arriveInsert
  try dsimp only
  repeat' first
    | with_reducible assumption
    | split
    | with_reducible apply takerArrival_bounded
    | with_reducible apply settleTag_bounded
    | exact { h with }

@[simp] theorem emptyVerified_bounded (p : PocketNo) (h : s.Bounded) : (emptyVerified p s).Bounded := by
  unfold emptyVerified
  try dsimp only
  repeat' first | with_reducible assumption | split | with_reducible apply modPocket_bounded | exact { h with }

@[simp] theorem insertTag_bounded (p : PocketNo) (l : Latch) (u : ToolId) (kind : Nat) (h : s.Bounded) :
    (insertTag p l u kind s).Bounded := by
  unfold insertTag
  try dsimp only
  repeat' first
    | with_reducible assumption
    | split
    | with_reducible apply arriveInsert_bounded
    | with_reducible apply modPocket_bounded
    | exact { h with }

@[simp] theorem unverify_bounded (p : PocketNo) (h : s.Bounded) : (unverify p s).Bounded := by
  unfold unverify
  try dsimp only
  repeat' first | with_reducible assumption | split | with_reducible apply modPocket_bounded | exact { h with }

@[simp] theorem insertOutcome_bounded (p : PocketNo) (o : Outcome) (h : s.Bounded) :
    (insertOutcome p o s).Bounded := by
  unfold insertOutcome
  try dsimp only
  repeat' first
    | with_reducible assumption
    | split
    | with_reducible apply emptyVerified_bounded
    | with_reducible apply arriveInsert_bounded
    | with_reducible apply unverify_bounded
    | exact { h with }

@[simp] theorem vacatedOutcome_bounded (p : PocketNo) (v : Vacated) (o : Outcome) (h : s.Bounded) :
    (vacatedOutcome p v o s).Bounded := by
  unfold vacatedOutcome
  try dsimp only
  repeat' first
    | with_reducible assumption
    | split
    | with_reducible apply emptyVerified_bounded
    | with_reducible apply modPocket_bounded
    | with_reducible apply conflictFound_bounded
    | with_reducible apply arriveInsert_bounded
    | with_reducible apply unverify_bounded
    | exact { h with }

@[simp] theorem removeOutcome_bounded (p : PocketNo) (t : ToolId) (o : Outcome) (h : s.Bounded) :
    (removeOutcome p t o s).Bounded := by
  unfold removeOutcome
  try dsimp only
  repeat' first
    | with_reducible assumption
    | split
    | with_reducible apply emptyVerified_bounded
    | with_reducible apply versioned_bounded
    | with_reducible apply modPocket_bounded
    | with_reducible apply insertTag_bounded
    | with_reducible apply unverify_bounded
    | exact fun _ => by first | rfl | simp
    | exact { h with }

@[simp] theorem toolMissing_bounded (p : PocketNo) (t : ToolId) (h : s.Bounded) : (toolMissing p t s).Bounded := by
  unfold toolMissing
  try dsimp only
  repeat' first
    | with_reducible assumption
    | split
    | with_reducible apply emptyVerified_bounded
    | with_reducible apply forceAway_bounded
    | with_reducible apply withdrawGiver_bounded
    | exact { h with }

@[simp] theorem recheckOutcome_bounded (p : PocketNo) (t : ToolId) (o : Outcome) (h : s.Bounded) :
    (recheckOutcome p t o s).Bounded := by
  unfold recheckOutcome
  try dsimp only
  repeat' first
    | with_reducible assumption
    | split
    | with_reducible apply toolMissing_bounded
    | with_reducible apply modPocket_bounded
    | with_reducible apply insertTag_bounded
    | with_reducible apply unverify_bounded
    | exact { h with }

@[simp] theorem targetOutcome_bounded (p : PocketNo) (o : Outcome) (h : s.Bounded) :
    (targetOutcome p o s).Bounded := by
  unfold targetOutcome
  try dsimp only
  repeat' first
    | with_reducible assumption
    | split
    | with_reducible apply takerArrival_bounded
    | with_reducible apply pushNotice_bounded
    | with_reducible apply modPocket_bounded
    | exact { h with }

@[simp] theorem removal_bounded (g : Giver) (q : PocketNo) (h : s.Bounded) : (removal g q s).Bounded := by
  unfold removal
  try dsimp only
  repeat' first
    | with_reducible assumption
    | split
    | with_reducible apply versioned_bounded
    | with_reducible apply relatchGone_bounded
    | with_reducible apply modPocket_bounded
    | with_reducible apply handPlain_bounded
    | with_reducible apply putGiver_bounded
    | exact fun _ => by first | rfl | simp
    | exact { h with }

@[simp] theorem giverBack_bounded (g : Giver) (q : PocketNo) (h : s.Bounded) : (giverBack g q s).Bounded := by
  unfold giverBack
  try dsimp only
  repeat' first
    | with_reducible assumption
    | split
    | with_reducible apply closeGiver_bounded
    | with_reducible apply restock_bounded
    | with_reducible apply relatchPresent_bounded
    | exact { h with }

@[simp] theorem giverAway_bounded (g : Giver) (q : PocketNo) (h : s.Bounded) : (giverAway g q s).Bounded := by
  unfold giverAway
  try dsimp only
  repeat' first
    | with_reducible assumption
    | split
    | with_reducible apply closeGiver_bounded
    | with_reducible apply relatchGone_bounded
    | with_reducible apply modPocket_bounded
    | with_reducible apply versioned_bounded
    | exact fun _ => by first | rfl | simp
    | exact { h with }

@[simp] theorem afterRemoval_bounded (q : PocketNo) (u : ToolId) (kind : Nat) (h : s.Bounded) :
    (afterRemoval q u kind s).Bounded := by
  unfold afterRemoval
  try dsimp only
  repeat' first | with_reducible assumption | split | with_reducible apply insertTag_bounded | exact { h with }

@[simp] theorem releasingOutcome_bounded (g : Giver) (q : PocketNo) (o : Outcome) (h : s.Bounded) :
    (releasingOutcome g q o s).Bounded := by
  unfold releasingOutcome
  try dsimp only
  repeat' first
    | with_reducible assumption
    | split
    | with_reducible apply giverBack_bounded
    | with_reducible apply afterRemoval_bounded
    | with_reducible apply giverAway_bounded
    | with_reducible apply unverify_bounded
    | with_reducible apply sendLapse_bounded
    | with_reducible apply removal_bounded
    | exact { h with }

@[simp] theorem ownLogic_bounded (p : PocketNo) (o : Outcome) (h : s.Bounded) : (ownLogic p o s).Bounded := by
  unfold ownLogic
  try dsimp only
  repeat' first
    | with_reducible assumption
    | split
    | with_reducible apply vacatedOutcome_bounded
    | with_reducible apply insertOutcome_bounded
    | with_reducible apply removeOutcome_bounded
    | with_reducible apply recheckOutcome_bounded
    | with_reducible apply targetOutcome_bounded
    | with_reducible apply releasingOutcome_bounded
    | exact { h with }

@[simp] theorem advanceSweep_bounded  (h : s.Bounded) : (advanceSweep  s).Bounded := by
  unfold advanceSweep
  try dsimp only
  repeat' first | with_reducible assumption | split | with_reducible apply pushNotice_bounded | exact { h with }

@[simp] theorem sweepOutcome_bounded (p : PocketNo) (own : Bool) (o : Outcome) (h : s.Bounded) :
    (sweepOutcome p own o s).Bounded := by
  unfold sweepOutcome
  refine advanceSweep_bounded ?_
  split
  · exact recordStatus_bounded _ h
  · split
    all_goals repeat' first
      | exact recordStatus_bounded _ h
      | split
      | apply insertTag_bounded
      | apply toolMissing_bounded

@[simp] theorem deliver_bounded (p : PocketNo) (o : Outcome) (h : s.Bounded) : (deliver p o s).Bounded := by
  unfold deliver
  extract_lets k s1 s2 own s3 due s4
  have h1 : s1.Bounded := by
    simp only [s1]; split
    · exact h
    · exact modPocket_bounded _ _ h
  have h2 : s2.Bounded := by
    simp only [s2]; split
    · exact ownLogic_bounded _ _ (modPocket_bounded _ _ h1)
    · exact h1
  have h3 : s3.Bounded := by
    simp only [s3]; split
    · exact sweepOutcome_bounded _ _ _ h2
    · exact h2
  have h4 : s4.Bounded := by
    refine foldl_bounded (fun s a hs => ?_) _ h3
    split
    · exact settleCheck_bounded _ _ hs
    · exact hs
  split
  · split
    · exact retag_bounded _ _ h4
    · exact h4
  · exact h4
  · exact h4

theorem grantRead_bounded (p : PocketNo) (rest : List PocketNo) (h : s.Bounded) (hn : rest.Nodup)
    (hr : ∀ x ∈ rest, x < 48) : (grantRead p rest s).Bounded := by
  unfold grantRead
  split
  · exact deliver_bounded _ _ { h with readerOnce := hn, readerRange := hr }
  · exact { h with readerOnce := hn, readerRange := hr }

@[simp] theorem visit_bounded  (h : s.Bounded) : (visit  s).Bounded := by
  unfold visit
  dsimp only
  repeat' split
  · exact advanceSweep_bounded (recordStatus_bounded _ h)
  · exact advanceSweep_bounded (recordStatus_bounded _ h)
  · exact advanceSweep_bounded (recordStatus_bounded _ (requestRead_bounded _ h))
  · exact enqueueRead_bounded _ (with_rds h rfl rfl)

theorem readerStep_bounded {s' : State} (h : s.Bounded) (hs : readerStep s = some s') : s'.Bounded := by
  unfold readerStep at hs
  split at hs
  · simp at hs
  · split at hs
    · next hq =>
      have hr := h.readerOnce; have hp := h.readerRange
      rw [hq] at hr hp
      obtain rfl := Option.some.inj hs
      exact grantRead_bounded _ _ h (List.nodup_cons.1 hr).2 (fun x hx => hp x (List.mem_cons_of_mem _ hx))
    · split at hs
      · obtain rfl := Option.some.inj hs; exact visit_bounded h
      · simp at hs

@[simp] theorem readerRun_bounded (n : Nat) (h : s.Bounded) : (readerRun n s).Bounded := by
  induction n generalizing s with
  | zero => exact h
  | succ n ih =>
    unfold readerRun
    split
    · next hs => exact ih (readerStep_bounded h hs)
    · exact h

@[simp] theorem settleReader_bounded  (h : s.Bounded) : (settleReader  s).Bounded := by
  unfold settleReader
  try dsimp only
  repeat' first | with_reducible assumption | split | with_reducible apply readerRun_bounded | exact { h with }

@[simp] theorem failRead_bounded (p : PocketNo) (h : s.Bounded) : (failRead p s).Bounded := by
  unfold failRead
  try dsimp only
  repeat' first
    | with_reducible assumption
    | split
    | with_reducible apply deliver_bounded
    | with_reducible apply dropRead_bounded
    | exact { h with }

@[simp] theorem failGiverAt_bounded (p : PocketNo) (h : s.Bounded) : (failGiverAt p s).Bounded := by
  unfold failGiverAt
  try dsimp only
  repeat' first
    | with_reducible assumption
    | split
    | with_reducible apply modPocket_bounded
    | with_reducible apply withdrawGiver_bounded
    | exact { h with }

@[simp] theorem failTakerAt_bounded (p : PocketNo) (h : s.Bounded) : (failTakerAt p s).Bounded := by
  unfold failTakerAt
  try dsimp only
  repeat' first
    | with_reducible assumption
    | split
    | with_reducible apply sendLapse_bounded
    | with_reducible apply modPocket_bounded
    | with_reducible apply target_bounded
    | with_reducible apply closeTaker_bounded
    | with_reducible apply noticeNeedFailed_bounded
    | exact { h with }

@[simp] theorem pocketFault_bounded (p : PocketNo) (h : s.Bounded) : (pocketFault p s).Bounded := by
  unfold pocketFault
  try dsimp only
  repeat' first
    | with_reducible assumption
    | split
    | with_reducible apply failRead_bounded
    | with_reducible apply modPocket_bounded
    | with_reducible apply disturbStage_bounded
    | with_reducible apply dropWaitingAt_bounded
    | with_reducible apply failTakerAt_bounded
    | with_reducible apply failGiverAt_bounded
    | exact { h with }

@[simp] theorem silence_bounded (a : Nat) (h : s.Bounded) : (silence a s).Bounded := by
  unfold silence
  try dsimp only
  repeat' first
    | with_reducible assumption
    | split
    | with_reducible apply modModule_bounded
    | with_reducible apply reportQuiet_bounded
    | with_reducible apply pocketFault_bounded
    | (apply foldl_bounded; intro s a hs; try dsimp only)
    | exact { h with }

@[simp] theorem closeDoor_bounded (p : PocketNo) (h : s.Bounded) : (closeDoor p s).Bounded := by
  unfold closeDoor
  try dsimp only
  repeat' first
    | with_reducible assumption
    | split
    | with_reducible apply closing_bounded
    | with_reducible apply modPocket_bounded
    | exact { h with }

@[simp] theorem answerDoor_bounded (p : PocketNo) (d : LineDoor) (h : s.Bounded) : (answerDoor p d s).Bounded := by
  unfold answerDoor
  try dsimp only
  repeat' first
    | with_reducible assumption
    | split
    | with_reducible apply openDoor_bounded
    | with_reducible apply closeDoor_bounded
    | exact { h with }

@[simp] theorem quietLost_bounded  (h : s.Bounded) : (quietLost  s).Bounded := by
  unfold quietLost
  try dsimp only
  repeat' first | with_reducible assumption | split | with_reducible apply suspendSweep_bounded | exact { h with }

@[simp] theorem returnModule_bounded (a : Nat) (doors : List LineDoor) (h : s.Bounded) :
    (returnModule a doors s).Bounded := by
  unfold returnModule
  try dsimp only
  repeat' first
    | with_reducible assumption
    | split
    | with_reducible apply modModule_bounded
    | with_reducible apply modPocket_bounded
    | with_reducible apply answerDoor_bounded
    | with_reducible apply reportQuiet_bounded
    | with_reducible apply quietLost_bounded
    | (apply foldl_bounded; intro s a hs; try dsimp only)
    | exact { h with }

@[simp] theorem startRelease_bounded (p : PocketNo) (h : s.Bounded) : (startRelease p s).Bounded := by
  unfold startRelease
  try dsimp only
  repeat' first
    | with_reducible assumption
    | split
    | with_reducible apply openLatch_bounded
    | with_reducible apply modPocket_bounded
    | exact { h with }

@[simp] theorem askRelease_bounded (p : PocketNo) (t : ToolId) (h : s.Bounded) : (askRelease p t s).Bounded := by
  unfold askRelease
  try dsimp only
  repeat' first
    | with_reducible assumption
    | split
    | with_reducible apply startRelease_bounded
    | with_reducible apply noticeLimit_bounded
    | exact { h with }

@[simp] theorem pressCloses_bounded (p : PocketNo) (h : s.Bounded) : (pressCloses p s).Bounded := by
  unfold pressCloses
  try dsimp only
  repeat' first | with_reducible assumption | split | with_reducible apply closing_bounded | exact { h with }

@[simp] theorem pressEffect_bounded (p : PocketNo) (key : Bool) (h : s.Bounded) : (pressEffect p key s).Bounded := by
  unfold pressEffect
  try dsimp only
  repeat' first
    | with_reducible assumption
    | split
    | with_reducible apply openLatch_bounded
    | with_reducible apply modPocket_bounded
    | with_reducible apply pressCloses_bounded
    | with_reducible apply askRelease_bounded
    | with_reducible apply requestRead_bounded
    | exact { h with }

@[simp] theorem dropPress_bounded (p : PocketNo) (h : s.Bounded) : (dropPress p s).Bounded := by
  exact with_pkc (modPocket_bounded _ _ h) rfl rfl

@[simp] theorem consumePress_bounded (p : PocketNo) (h : s.Bounded) : (consumePress p s).Bounded := by
  exact with_pkc (modPocket_bounded _ _ h) rfl rfl

@[simp] theorem pocketTimerEnds_bounded (p : PocketNo) (h : s.Bounded) : (pocketTimerEnds p s).Bounded := by
  unfold pocketTimerEnds
  try dsimp only
  repeat' first
    | with_reducible assumption
    | split
    | with_reducible apply closing_bounded
    | with_reducible apply modPocket_bounded
    | exact { h with }

@[simp] theorem endRead_bounded (p : PocketNo) (o : Outcome) (h : s.Bounded) : (endRead p o s).Bounded := by
  unfold endRead
  try dsimp only
  repeat' first
    | with_reducible assumption
    | split
    | with_reducible apply settleReader_bounded
    | with_reducible apply deliver_bounded
    | exact { h with }

@[simp] theorem failAttempt_bounded (r : Read) (h : s.Bounded) : (failAttempt r s).Bounded := by
  unfold failAttempt
  try dsimp only
  repeat' first | with_reducible assumption | split | with_reducible apply endRead_bounded | exact { h with }

@[simp] theorem becomeGauge_bounded (t : ToolId) (kind : Nat) (h : s.Bounded) : (becomeGauge t kind s).Bounded := by
  unfold becomeGauge
  try dsimp only
  repeat' first
    | with_reducible assumption
    | split
    | with_reducible apply displaceGauge_bounded
    | with_reducible apply versionedCondition_bounded
    | exact fun _ => by first | rfl | simp
    | exact { h with }

@[simp] theorem gaugeFromPocket_bounded (t : ToolId) (kind : Nat) (q : Option PocketNo) (h : s.Bounded) :
    (gaugeFromPocket t kind q s).Bounded := by
  unfold gaugeFromPocket
  try dsimp only
  repeat' first
    | with_reducible assumption
    | split
    | with_reducible apply withdrawGiver_bounded
    | with_reducible apply vacateMoved_bounded
    | with_reducible apply becomeGauge_bounded
    | with_reducible apply noticeLimit_bounded
    | with_reducible apply deleteEntry_bounded
    | exact { h with }

@[simp] theorem takeToGauge_bounded (t : ToolId) (kind : Nat) (h : s.Bounded) : (takeToGauge t kind s).Bounded := by
  unfold takeToGauge
  try dsimp only
  repeat' first
    | with_reducible assumption
    | split
    | with_reducible apply foreignArrival_bounded
    | with_reducible apply becomeGauge_bounded
    | with_reducible apply withdrawGiver_bounded
    | with_reducible apply gaugeFromPocket_bounded
    | with_reducible apply retag_bounded
    | exact { h with }

@[simp] theorem tagGone_bounded  (h : s.Bounded) : (tagGone  s).Bounded := by
  unfold tagGone
  split
  · exact h
  · refine with_pru (dropWaitingAt_bounded _ ?_) rfl
    have h1 := endBursts_bounded h
    repeat' first
      | with_reducible assumption
      | split
      | apply versioned_bounded
      | exact fun _ => rfl

@[simp] theorem newGaugeTool_bounded (t : ToolId) (kind : Nat) (h : s.Bounded) : (newGaugeTool t kind s).Bounded := by
  unfold newGaugeTool
  try dsimp only
  repeat' first | with_reducible assumption | split | with_reducible apply takeToGauge_bounded | exact { h with }

@[simp] theorem gaugeKind_bounded (t : ToolId) (kind : Nat) (h : s.Bounded) : (gaugeKind t kind s).Bounded := by
  unfold gaugeKind
  try dsimp only
  repeat' first | with_reducible assumption | split | with_reducible apply retag_bounded | exact { h with }

@[simp] theorem headTag_bounded (t : ToolId) (kind : Nat) (h : s.Bounded) : (headTag t kind s).Bounded := by
  unfold headTag
  try dsimp only
  repeat' first
    | with_reducible assumption
    | split
    | with_reducible apply newGaugeTool_bounded
    | with_reducible apply gaugeKind_bounded
    | with_reducible apply tagGone_bounded
    | exact { h with }

@[simp] theorem concludePreset_bounded (t : ToolId) (k : KindEntry) (v : FirstBurst) (h : s.Bounded) :
    (concludePreset t k v s).Bounded := by
  unfold concludePreset
  try dsimp only
  repeat' first
    | with_reducible assumption
    | split
    | with_reducible apply presetReport_bounded
    | with_reducible apply versioned_bounded
    | with_reducible apply sendResult_bounded
    | exact fun _ => by first | rfl | simp
    | exact { h with }

@[simp] theorem concludeReduced_bounded (t : ToolId) (k : KindEntry) (v : FirstBurst) (h : s.Bounded) :
    (concludeReduced t k v s).Bounded := by
  unfold concludeReduced
  try dsimp only
  repeat' first
    | with_reducible assumption
    | split
    | with_reducible apply sendResult_bounded
    | with_reducible apply setFirst_bounded
    | with_reducible apply concludePreset_bounded
    | exact { h with }

@[simp] theorem concludeSettled_bounded (g : GaugeTool) (b : Burst) (h : s.Bounded) :
    (concludeSettled g b s).Bounded := by
  unfold concludeSettled
  try dsimp only
  repeat' first
    | with_reducible assumption
    | split
    | with_reducible apply sendResult_bounded
    | with_reducible apply setFirst_bounded
    | with_reducible apply concludeReduced_bounded
    | exact { h with }

@[simp] theorem concludeBurst_bounded (b : Burst) (h : s.Bounded) : (concludeBurst b s).Bounded := by
  unfold concludeBurst
  try dsimp only
  repeat' first
    | with_reducible assumption
    | split
    | with_reducible apply concludeSettled_bounded
    | with_reducible apply sendResult_bounded
    | with_reducible apply setFirst_bounded
    | exact { h with }

@[simp] theorem promote_bounded (kind : Nat) (h : s.Bounded) : (promote kind s).Bounded := by
  unfold promote
  split
  · exact h
  · split
    · exact h
    · refine setPresetQueue_bounded _ ?_ ?_
      · simp only [promoted, List.length_cons, List.length_take]; omega
      · repeat' first
          | with_reducible assumption
          | split
          | apply versioned_bounded
          | exact fun _ => rfl

@[simp] theorem drive_bounded (f : Frame) (o : FrameOwner) (k : Nat) (h : s.Bounded) : (drive f o k s).Bounded := by
  unfold drive
  try dsimp only
  repeat' first | with_reducible assumption | split | with_reducible apply setSend_bounded | exact { h with }

@[simp] theorem beginRoutine_bounded  (h : s.Bounded) : (beginRoutine  s).Bounded := by
  unfold beginRoutine
  split
  · exact h
  · next f q hq =>
    refine drive_bounded _ _ _ { h with routine := ?_ }
    have := h.routine
    rw [hq, List.length_cons] at this
    exact Nat.le_of_succ_le this

@[simp] theorem beginRun_bounded  (h : s.Bounded) : (beginRun  s).Bounded := by
  unfold beginRun
  split
  · exact beginRoutine_bounded h
  · next u q hq =>
    refine drive_bounded _ _ _ { h with urgent := ?_ }
    have := h.urgent
    rw [hq, List.length_cons] at this
    exact Nat.le_of_succ_le this

@[simp] theorem beginJoining_bounded  (h : s.Bounded) : (beginJoining  s).Bounded := by
  unfold beginJoining
  split
  · exact drive_bounded _ _ _ { h with routine := Nat.le_trans (List.eraseP_sublist.length_le) h.routine }
  · exact h

@[simp] theorem beginSend_bounded  (h : s.Bounded) : (beginSend  s).Bounded := by
  unfold beginSend
  try dsimp only
  repeat' first
    | with_reducible assumption
    | split
    | with_reducible apply beginJoining_bounded
    | with_reducible apply beginRun_bounded
    | exact { h with }

@[simp] theorem takerSendFailed_bounded (f : Frame) (n : SeekNo) (h : s.Bounded) :
    (takerSendFailed f n s).Bounded := by
  unfold takerSendFailed
  split
  · exact h
  · next k hk =>
    have ho := offers_of_taker? h hk
    repeat' first
      | with_reducible assumption
      | split
      | with_reducible apply failTaker_bounded
      | with_reducible apply fallBack_bounded

@[simp] theorem giverSendFailed_bounded (f : Frame) (seeker : StationId) (n : SeekNo) (h : s.Bounded) :
    (giverSendFailed f seeker n s).Bounded := by
  unfold giverSendFailed
  try dsimp only
  repeat' first | with_reducible assumption | split | with_reducible apply endOffered_bounded | exact { h with }

@[simp] theorem sendFailed_bounded (f : Frame) (o : FrameOwner) (h : s.Bounded) : (sendFailed f o s).Bounded := by
  unfold sendFailed
  try dsimp only
  repeat' first
    | with_reducible assumption
    | split
    | with_reducible apply takerSendFailed_bounded
    | with_reducible apply giverSendFailed_bounded
    | exact { h with }

@[simp] theorem collide_bounded (x : Send) (h : s.Bounded) : (collide x s).Bounded := by
  unfold collide
  split
  · exact setSend_bounded _ h
  · exact sendFailed_bounded _ _ (setSend_bounded _ h)

@[simp] theorem endTransfers_bounded  (h : s.Bounded) : (endTransfers  s).Bounded := by
  unfold endTransfers
  try dsimp only
  repeat' first
    | with_reducible assumption
    | split
    | with_reducible apply lapseGiver_bounded
    | with_reducible apply failTaker_bounded
    | (apply foldl_bounded; intro s a hs; try dsimp only)
    | exact { h with }

@[simp] theorem enterConflict_bounded  (h : s.Bounded) : (enterConflict  s).Bounded := by
  unfold enterConflict
  try dsimp only
  repeat' first
    | with_reducible assumption
    | split
    | with_reducible apply endTransfers_bounded
    | with_reducible apply stopSending_bounded
    | with_reducible apply setNode_bounded
    | with_reducible apply startIdleSweep_bounded
    | exact { h with }

@[simp] theorem purgeCached_bounded (src : StationId) (h : s.Bounded) : (purgeCached src s).Bounded := by
  unfold purgeCached
  try dsimp only
  repeat' first
    | with_reducible assumption
    | split
    | with_reducible apply dropEntry_bounded
    | (apply foldl_bounded; intro s a hs; try dsimp only)
    | exact { h with }

@[simp] theorem counterpartReset_bounded (src : StationId) (h : s.Bounded) : (counterpartReset src s).Bounded := by
  unfold counterpartReset
  try dsimp only
  repeat' first
    | with_reducible assumption
    | split
    | with_reducible apply lapseGiver_bounded
    | with_reducible apply failTaker_bounded
    | with_reducible apply purgeCached_bounded
    | with_reducible apply dropOffers_bounded
    | (apply foldl_bounded; intro s a hs; try dsimp only)
    | exact { h with }

@[simp] theorem repeatFrame_bounded (f : Frame) (h : s.Bounded) : (repeatFrame f s).Bounded := by
  unfold repeatFrame
  try dsimp only
  repeat' first | with_reducible assumption | split | with_reducible apply handPlain_bounded | exact { h with }

@[simp] theorem resync_bounded (src : StationId) (h : s.Bounded) : (resync src s).Bounded := by
  unfold resync
  try dsimp only
  repeat' first
    | with_reducible assumption
    | split
    | with_reducible apply repeatFrame_bounded
    | (apply foldl_bounded; intro s a hs; try dsimp only)
    | exact { h with }

@[simp] theorem seekUnfilled_bounded (w : Want) (h : s.Bounded) : (seekUnfilled w s).Bounded := by
  unfold seekUnfilled
  try dsimp only
  repeat' first | with_reducible assumption | split | with_reducible apply promote_bounded | exact { h with }

theorem openGiver_bounded (g : Giver) (q : PocketNo) (h : s.Bounded) (ht : s.openTransfers < 8) :
    (openGiver g q s).Bounded := by
  unfold openGiver
  extract_lets s1 s2
  have h2 : s2.Bounded := modEntry_bounded g.tool _ (modPocket_bounded q _ h) (fun _ => rfl)
  refine handOffer_bounded g { h2 with transfers := ?_ }
  have hc : s2.cue = s.cue := by simp [s2, s1]
  simp only [State.openTransfers] at ht
  show (s2.cue.givers ++ [g]).length + s2.cue.takers.length ≤ 8
  rw [hc, List.length_append, List.length_singleton]
  omega

@[simp] theorem answerSeek_bounded (src : StationId) (n : SeekNo) (w : Want) (m : SeekMode) (minLife : Nat)
    (h : s.Bounded) : (answerSeek src n w m minLife s).Bounded := by
  unfold answerSeek
  split
  · exact seekUnfilled_bounded w h
  · split
    · next hm =>
      simp only [State.mayOffer, Bool.and_eq_true, decide_eq_true_eq] at hm
      split
      · exact openGiver_bounded _ _ h hm.1.1
      · exact h
    · exact h

theorem placeOffer_length (o : Offer) (l : List Offer) : (placeOffer o l).length ≤ 4 := by
  simp only [placeOffer, List.length_take]; omega

@[simp] theorem takeOffer_bounded (src : StationId) (r : Option Record) (k : Taker) (h : s.Bounded) :
    (takeOffer src r k s).Bounded := by
  unfold takeOffer
  repeat' split
  all_goals first
    | exact h
    | exact putTaker_bounded _ h (placeOffer_length _ _)
    | exact repeatFrame_bounded _ h

@[simp] theorem release_bounded (g : Giver) (h : s.Bounded) : (release g s).Bounded := by
  unfold release
  try dsimp only
  repeat' first
    | with_reducible assumption
    | split
    | with_reducible apply putGiver_bounded
    | with_reducible apply modEntry_bounded
    | with_reducible apply openLatch_bounded
    | with_reducible apply modPocket_bounded
    | exact fun _ => by first | rfl | simp
    | exact { h with }

@[simp] theorem lateTake_bounded (src : StationId) (n : SeekNo) (h : s.Bounded) : (lateTake src n s).Bounded := by
  unfold lateTake
  try dsimp only
  repeat' first | with_reducible assumption | split | with_reducible apply sendLapse_bounded | exact { h with }

@[simp] theorem takeTaken_bounded (src : StationId) (n : SeekNo) (h : s.Bounded) : (takeTaken src n s).Bounded := by
  unfold takeTaken
  try dsimp only
  repeat' first
    | with_reducible assumption
    | split
    | with_reducible apply release_bounded
    | with_reducible apply repeatFrame_bounded
    | with_reducible apply lateTake_bounded
    | exact { h with }

theorem dropOffer_bounded (src : StationId) (k : Taker) (h : s.Bounded) (hk : k.offers.length ≤ 4) :
    (dropOffer src k s).Bounded :=
  putTaker_bounded _ h (Nat.le_trans (List.length_filter_le _ _) hk)

theorem takerLapse_bounded (src : StationId) (k : Taker) (h : s.Bounded) (hk : k.offers.length ≤ 4) :
    (takerLapse src k s).Bounded := by
  unfold takerLapse
  try dsimp only
  repeat' first
    | with_reducible assumption
    | split
    | with_reducible apply dropOffer_bounded
    | with_reducible apply fallBack_bounded
    | with_reducible apply failTaker_bounded
    | exact { h with }

@[simp] theorem giverLapse_bounded (src : StationId) (n : SeekNo) (h : s.Bounded) : (giverLapse src n s).Bounded := by
  unfold giverLapse
  try dsimp only
  repeat' first | with_reducible assumption | split | with_reducible apply lapseGiver_bounded | exact { h with }

@[simp] theorem takerReleased_bounded (src : StationId) (n : SeekNo) (t : ToolId) (h : s.Bounded) :
    (takerReleased src n t s).Bounded := by
  unfold takerReleased
  split
  · next k hk =>
    split
    · exact putTaker_bounded _ h (show k.offers.length ≤ 4 from offers_of_taker? h hk)
    · exact h
  · exact h

@[simp] theorem giverPocketGone_bounded (g : Giver) (h : s.Bounded) : (giverPocketGone g s).Bounded := by
  unfold giverPocketGone
  try dsimp only
  repeat' first
    | with_reducible assumption
    | split
    | with_reducible apply relatchGone_bounded
    | with_reducible apply modPocket_bounded
    | exact { h with }

@[simp] theorem received_bounded (g : Giver) (v : Version) (h : s.Bounded) : (received g v s).Bounded := by
  unfold received
  try dsimp only
  repeat' first
    | with_reducible assumption
    | split
    | with_reducible apply cacheReceived_bounded
    | with_reducible apply closeTransitCheck_bounded
    | with_reducible apply closeGiver_bounded
    | with_reducible apply giverPocketGone_bounded
    | exact { h with }

theorem windowEnds_bounded (k : Taker) (h : s.Bounded) (hk : k.offers.length ≤ 4) : (windowEnds k s).Bounded := by
  unfold windowEnds
  try dsimp only
  repeat' first
    | with_reducible assumption
    | split
    | with_reducible apply failTaker_bounded
    | with_reducible apply takeNext_bounded
    | with_reducible apply target_bounded
    | exact { h with }

@[simp] theorem releaseEnds_bounded (g : Giver) (h : s.Bounded) : (releaseEnds g s).Bounded := by
  unfold releaseEnds
  try dsimp only
  repeat' first
    | with_reducible assumption
    | split
    | with_reducible apply readGiverPocket_bounded
    | with_reducible apply putGiver_bounded
    | exact { h with }

@[simp] theorem closeGiverOf_bounded (t : ToolId) (h : s.Bounded) : (closeGiverOf t s).Bounded := by
  unfold closeGiverOf
  try dsimp only
  repeat' first | with_reducible assumption | split | with_reducible apply closeGiver_bounded | exact { h with }

@[simp] theorem transitLost_bounded (t : ToolId) (h : s.Bounded) : (transitLost t s).Bounded := by
  unfold transitLost
  try dsimp only
  repeat' first
    | with_reducible assumption
    | split
    | with_reducible apply closeWindow_bounded
    | with_reducible apply closeGiverOf_bounded
    | with_reducible apply versioned_bounded
    | exact fun _ => by first | rfl | simp
    | exact { h with }

@[simp] theorem ageReview_bounded  (h : s.Bounded) : (ageReview  s).Bounded := by
  unfold ageReview
  try dsimp only
  repeat' first
    | with_reducible assumption
    | split
    | with_reducible apply versionedCondition_bounded
    | (apply foldl_bounded; intro s a hs; try dsimp only)
    | exact fun _ => by first | rfl | simp
    | exact { h with }

@[simp] theorem alarmAct_bounded (a : AlarmAction) (h : s.Bounded) : (alarmAct a s).Bounded := by
  unfold alarmAct
  try dsimp only
  repeat' first
    | with_reducible assumption
    | split
    | with_reducible apply startIdleSweep_bounded
    | with_reducible apply ageReview_bounded
    | exact { h with }

@[simp] theorem actAlarms_bounded (l : List AlarmAction) (h : s.Bounded) : (actAlarms l s).Bounded := by
  unfold actAlarms
  try dsimp only
  repeat' first
    | with_reducible assumption
    | split
    | with_reducible apply alarmAct_bounded
    | (apply foldl_bounded; intro s a hs; try dsimp only)
    | exact { h with }

@[simp] theorem minuteEvent_bounded  (h : s.Bounded) : (minuteEvent  s).Bounded := by
  unfold minuteEvent
  try dsimp only
  repeat' first
    | with_reducible assumption
    | split
    | with_reducible apply writeStamp_bounded
    | with_reducible apply ageReview_bounded
    | with_reducible apply agePresets_bounded
    | with_reducible apply actAlarms_bounded
    | exact { h with }

@[simp] theorem secondEvent_bounded  (h : s.Bounded) : (secondEvent  s).Bounded := by
  unfold secondEvent
  try dsimp only
  repeat' first
    | with_reducible assumption
    | split
    | with_reducible apply countTimers_bounded
    | with_reducible apply retryLatches_bounded
    | with_reducible apply settleReader_bounded
    | with_reducible apply minuteEvent_bounded
    | exact { h with }

@[simp] theorem readLevel_bounded (low : Bool) (h : s.Bounded) : (readLevel low s).Bounded := by
  unfold readLevel
  try dsimp only
  repeat' first | with_reducible assumption | split | exact { h with }

@[simp] theorem setClock_bounded (c : Calendar) (h : s.Bounded) : (setClock c s).Bounded := by
  unfold setClock
  try dsimp only
  repeat' first | with_reducible assumption | split | with_reducible apply writeStamp_bounded | exact { h with }

theorem respond_bounded (code : Nat) (a : Answer) (h : a.state.Bounded) : (respond code a).Bounded := with_slk h rfl rfl

theorem takeCommand_bounded (code : Nat) (f : State → Answer) (h : s.Bounded)
    (hf : s.running = true → (f s).state.Bounded) (hp : s.stc.powered = true) : (takeCommand code f s).Bounded := by
  unfold takeCommand
  split
  · exact h
  · exact respond_bounded _ _ h
  · exact respond_bounded _ _ h
  all_goals first
    | exact respond_bounded _ _ h
    | (next hn => exact respond_bounded _ _ (hf (by simp [State.running, hn, hp])))

theorem command_bounded (code : Nat) (f : State → Answer) (h : s.Bounded)
    (hf : s.running = true → (f s).state.Bounded) : (command code f s).Bounded := by
  unfold command
  split
  · exact h
  · next hr =>
    split
    · exact overrun_bounded h
    · exact takeCommand_bounded code f h hf (by simp [State.receiverOn] at hr; exact hr.1)

@[simp] theorem cancelTaker_bounded (k : Taker) (h : s.Bounded) : (cancelTaker k s).Bounded := by
  unfold cancelTaker
  try dsimp only
  repeat' first
    | with_reducible assumption
    | split
    | with_reducible apply closeTaker_bounded
    | with_reducible apply untarget_bounded
    | with_reducible apply sendLapse_bounded
    | exact { h with }

@[simp] theorem lifeOut_bounded (p : PocketNo) (t : ToolId) (h : s.Bounded) : (lifeOut p t s).Bounded := by
  unfold lifeOut
  try dsimp only
  repeat' first
    | with_reducible assumption
    | split
    | with_reducible apply modEntry_bounded
    | with_reducible apply modPocket_bounded
    | with_reducible apply presetReport_bounded
    | with_reducible apply pushNotice_bounded
    | exact fun _ => by first | rfl | simp
    | exact { h with }

@[simp] theorem reportDrift_bounded (p : PocketNo) (t : ToolId) (h : s.Bounded) : (reportDrift p t s).Bounded := by
  unfold reportDrift
  try dsimp only
  repeat' first
    | with_reducible assumption
    | split
    | with_reducible apply pushNotice_bounded
    | with_reducible apply modPocket_bounded
    | exact { h with }

theorem countUse_bounded (p : PocketNo) (e : Entry) (sec : Nat) (h : s.Bounded) (he : s.entry? e.tool = some e) :
    (countUse p e sec s).Bounded := by
  unfold countUse
  have h0 : (putEntry (e.cut sec) s).Bounded := putEntry_bounded (x := e) _ h he
  dsimp only
  repeat' first
    | with_reducible assumption
    | split
    | with_reducible apply pushNotice_bounded
    | with_reducible apply lifeOut_bounded
    | with_reducible apply handRecord_bounded
    | with_reducible apply reportDrift_bounded

@[simp] theorem clampUse_bounded (sec : Nat) (h : s.Bounded) : (clampUse sec s).Bounded := by
  unfold clampUse
  try dsimp only
  repeat' first | with_reducible assumption | split | exact { h with }

@[simp] theorem freeCondition_bounded (t : ToolId) (h : s.Bounded) : (freeCondition t s).Bounded := by
  unfold freeCondition
  try dsimp only
  repeat' first
    | with_reducible assumption
    | split
    | with_reducible apply versionedCondition_bounded
    | exact fun _ => by first | rfl | simp
    | exact { h with }

@[simp] theorem freeTool_bounded (p : PocketNo) (t : ToolId) (h : s.Bounded) : (freeTool p t s).Bounded := by
  unfold freeTool
  try dsimp only
  repeat' first
    | with_reducible assumption
    | split
    | with_reducible apply startRelease_bounded
    | with_reducible apply freeCondition_bounded
    | with_reducible apply modPocket_bounded
    | exact { h with }

@[simp] theorem rereadPocket_bounded (p : PocketNo) (h : s.Bounded) : (rereadPocket p s).Bounded := by
  unfold rereadPocket
  try dsimp only
  repeat' first
    | with_reducible assumption
    | split
    | with_reducible apply requestRead_bounded
    | with_reducible apply modPocket_bounded
    | exact { h with }

@[simp] theorem dropVacated_bounded (t : ToolId) (h : s.Bounded) : (dropVacated t s).Bounded := by
  unfold dropVacated
  try dsimp only
  repeat' first
    | with_reducible assumption
    | split
    | with_reducible apply requestRead_bounded
    | with_reducible apply modPocket_bounded
    | (apply foldl_bounded; intro s a hs; try dsimp only)
    | exact { h with }

@[simp] theorem forgetWaiting_bounded (t : ToolId) (h : s.Bounded) : (forgetWaiting t s).Bounded := by
  unfold forgetWaiting
  try dsimp only
  repeat' first
    | with_reducible assumption
    | split
    | with_reducible apply requestRead_bounded
    | (apply foldl_bounded; intro s a hs; try dsimp only)
    | exact { h with }

@[simp] theorem gaugeAgain_bounded (t : ToolId) (h : s.Bounded) : (gaugeAgain t s).Bounded := by
  unfold gaugeAgain
  try dsimp only
  repeat' first | with_reducible assumption | split | with_reducible apply foreignArrival_bounded | exact { h with }

@[simp] theorem forgetEntry_bounded (e : Entry) (h : s.Bounded) : (forgetEntry e s).Bounded := by
  unfold forgetEntry
  try dsimp only
  repeat' first
    | with_reducible assumption
    | split
    | with_reducible apply forgetWaiting_bounded
    | with_reducible apply deleteEntry_bounded
    | with_reducible apply rereadPocket_bounded
    | with_reducible apply dropVacated_bounded
    | with_reducible apply gaugeAgain_bounded
    | exact { h with }

@[simp] theorem readConfig_bounded (c : Option NodeConfig) (h : s.Bounded) : (readConfig c s).Bounded := by
  unfold readConfig
  try dsimp only
  repeat' first | with_reducible assumption | split | exact { h with }

@[simp] theorem settleProbe_bounded (a : Nat) (r : Option ModuleReport) (h : s.Bounded) :
    (settleProbe a r s).Bounded := by
  unfold settleProbe
  try dsimp only
  repeat' first
    | with_reducible assumption
    | split
    | with_reducible apply modModule_bounded
    | with_reducible apply modPocket_bounded
    | (apply foldl_bounded; intro s a hs; try dsimp only)
    | exact { h with }

@[simp] theorem renameEntries_bounded (own : StationId) (h : s.Bounded) : (renameEntries own s).Bounded := by
  unfold renameEntries
  try dsimp only
  repeat' first
    | with_reducible assumption
    | split
    | with_reducible apply versioned_bounded
    | (apply foldl_bounded; intro s a hs; try dsimp only)
    | exact fun _ => by first | rfl | simp
    | exact { h with }

@[simp] theorem stationIdStep_bounded  (h : s.Bounded) : (stationIdStep  s).Bounded := by
  unfold stationIdStep
  try dsimp only
  repeat' first
    | with_reducible assumption
    | split
    | with_reducible apply endTransfers_bounded
    | with_reducible apply purgeCached_bounded
    | with_reducible apply renameEntries_bounded
    | exact { h with }

@[simp] theorem seekingStep_bounded  (h : s.Bounded) : (seekingStep  s).Bounded := by
  unfold seekingStep
  try dsimp only
  repeat' first
    | with_reducible assumption
    | split
    | with_reducible apply failTaker_bounded
    | (apply foldl_bounded; intro s a hs; try dsimp only)
    | exact { h with }

@[simp] theorem outageStep_bounded  (h : s.Bounded) : (outageStep  s).Bounded := by
  unfold outageStep
  try dsimp only
  repeat' first
    | with_reducible assumption
    | split
    | with_reducible apply passTimers_bounded
    | with_reducible apply agePresets_bounded
    | exact { h with }

@[simp] theorem clampLife_bounded (t : ToolId) (h : s.Bounded) : (clampLife t s).Bounded := by
  unfold clampLife
  split
  · exact h
  · next e he =>
    dsimp only
    split
    · exact versioned_bounded _ _ h (fun _ => rfl)
    · exact putEntry_bounded (x := e) _ h (by rw [(mem_of_entry? he).2]; exact he)

@[simp] theorem lifeStep_bounded  (h : s.Bounded) : (lifeStep  s).Bounded := by
  unfold lifeStep
  try dsimp only
  repeat' first
    | with_reducible assumption
    | split
    | with_reducible apply clampLife_bounded
    | (apply foldl_bounded; intro s a hs; try dsimp only)
    | exact { h with }

@[simp] theorem closeAdoption_bounded (w : Window) (h : s.Bounded) : (closeAdoption w s).Bounded := by
  unfold closeAdoption
  try dsimp only
  repeat' first | with_reducible assumption | split | with_reducible apply settleAdoption_bounded | exact { h with }

@[simp] theorem adoptionStep_bounded  (h : s.Bounded) : (adoptionStep  s).Bounded := by
  unfold adoptionStep
  try dsimp only
  repeat' first
    | with_reducible assumption
    | split
    | with_reducible apply closeAdoption_bounded
    | (apply foldl_bounded; intro s a hs; try dsimp only)
    | exact { h with }

@[simp] theorem closeMisfitGiver_bounded (g : Giver) (h : s.Bounded) : (closeMisfitGiver g s).Bounded := by
  unfold closeMisfitGiver
  try dsimp only
  repeat' first
    | with_reducible assumption
    | split
    | with_reducible apply closeGiver_bounded
    | with_reducible apply restock_bounded
    | with_reducible apply lapseSeeker_bounded
    | exact { h with }

@[simp] theorem closeMisfitTaker_bounded (k : Taker) (h : s.Bounded) : (closeMisfitTaker k s).Bounded := by
  unfold closeMisfitTaker
  try dsimp only
  repeat' first
    | with_reducible assumption
    | split
    | with_reducible apply sendLapse_bounded
    | with_reducible apply modPocket_bounded
    | with_reducible apply target_bounded
    | with_reducible apply noticeNeedFailed_bounded
    | with_reducible apply closeTaker_bounded
    | exact { h with }

@[simp] theorem closeMisfits_bounded  (h : s.Bounded) : (closeMisfits  s).Bounded := by
  unfold closeMisfits
  try dsimp only
  repeat' first
    | with_reducible assumption
    | split
    | with_reducible apply closeMisfitGiver_bounded
    | with_reducible apply closeMisfitTaker_bounded
    | (apply foldl_bounded; intro s a hs; try dsimp only)
    | exact { h with }

@[simp] theorem testMark_bounded (p : PocketNo) (h : s.Bounded) : (testMark p s).Bounded := by
  unfold testMark
  try dsimp only
  repeat' first | with_reducible assumption | split | with_reducible apply clearMark_bounded | exact { h with }

@[simp] theorem pocketStep_bounded  (h : s.Bounded) : (pocketStep  s).Bounded := by
  unfold pocketStep
  refine foldl_bounded (fun s p h => testMark_bounded p h) _ { closeMisfits_bounded h with pockets := ?_ }
  simp

@[simp] theorem gaugeStep_bounded  (h : s.Bounded) : (gaugeStep  s).Bounded := by
  unfold gaugeStep
  try dsimp only
  repeat' first
    | with_reducible assumption
    | split
    | with_reducible apply versioned_bounded
    | exact fun _ => by first | rfl | simp

@[simp] theorem holdStep_bounded  (h : s.Bounded) : (holdStep  s).Bounded := by
  unfold holdStep
  try dsimp only
  repeat' first
    | with_reducible assumption
    | split
    | with_reducible apply endOffered_bounded
    | (apply foldl_bounded; intro s a hs; try dsimp only)
    | exact { h with }

@[simp] theorem releaseStep_bounded  (h : s.Bounded) : (releaseStep  s).Bounded := by
  unfold releaseStep
  try dsimp only
  repeat' first
    | with_reducible assumption
    | split
    | with_reducible apply releaseEnds_bounded
    | (apply foldl_bounded; intro s a hs; try dsimp only)
    | exact { h with }

@[simp] theorem deadlineStep_bounded  (h : s.Bounded) : (deadlineStep  s).Bounded := by
  unfold deadlineStep
  try dsimp only
  repeat' first
    | with_reducible assumption
    | split
    | with_reducible apply failTaker_bounded
    | (apply foldl_bounded; intro s a hs; try dsimp only)
    | exact { h with }

@[simp] theorem awayStep_bounded  (h : s.Bounded) : (awayStep  s).Bounded := by
  unfold awayStep
  try dsimp only
  repeat' first
    | with_reducible assumption
    | split
    | with_reducible apply versioned_bounded
    | (apply foldl_bounded; intro s a hs; try dsimp only)
    | exact fun _ => by first | rfl | simp
    | exact { h with }

@[simp] theorem transitStep_bounded  (h : s.Bounded) : (transitStep  s).Bounded := by
  unfold transitStep
  try dsimp only
  repeat' first
    | with_reducible assumption
    | split
    | with_reducible apply beginTransitCheck_bounded
    | (apply foldl_bounded; intro s a hs; try dsimp only)
    | exact { h with }

@[simp] theorem pocketTimerStep_bounded  (h : s.Bounded) : (pocketTimerStep  s).Bounded := by
  refine foldl_bounded (fun s p h => ?_) _ h
  split
  · exact pocketTimerEnds_bounded p h
  · exact h

@[simp] theorem expiryStep_bounded  (h : s.Bounded) : (expiryStep  s).Bounded := by
  unfold expiryStep
  try dsimp only
  repeat' first
    | with_reducible assumption
    | split
    | with_reducible apply pocketTimerStep_bounded
    | with_reducible apply transitStep_bounded
    | with_reducible apply awayStep_bounded
    | with_reducible apply deadlineStep_bounded
    | with_reducible apply releaseStep_bounded
    | with_reducible apply holdStep_bounded
    | exact { h with }

theorem queueStep_bounded (before : State) (hb : before.Bounded) (h : s.Bounded) : (queueStep before s).Bounded :=
  foldl_bounded (fun _ t h => presetReport_bounded t h) _
    (setPresetQueue_bounded _ (Nat.le_trans (List.length_filter_le _ _) hb.presetQueue) h)

@[simp] theorem restoreHeld_bounded  (h : s.Bounded) : (restoreHeld  s).Bounded := by
  unfold restoreHeld
  have h1 := outageStep_bounded (transitCheckStep_bounded (seekingStep_bounded (stationIdStep_bounded h)))
  exact queueStep_bounded _ h1 (expiryStep_bounded (gaugeStep_bounded (pocketStep_bounded (checkStep_bounded
    (adoptionStep_bounded (lifeStep_bounded h1))))))

@[simp] theorem endRestoring_bounded  (h : s.Bounded) : (endRestoring  s).Bounded := by
  unfold endRestoring
  refine { writeStamp_bounded (refreshIndicators_bounded h) with readerOnce := ?_, readerRange := ?_, statuses := rfl }
  · exact List.nodup_range.filter _
  · intro p hp
    exact List.mem_range.1 (List.mem_filter.1 hp).1

@[simp] theorem enterJoining_bounded  (h : s.Bounded) : (enterJoining  s).Bounded :=
  { h with routine := appendRoutine_length h.routine }

@[simp] theorem restore_bounded  (h : s.Bounded) : (restore  s).Bounded := by
  unfold restore
  dsimp only
  refine settleReader_bounded (enterJoining_bounded (endRestoring_bounded ?_))
  have h1 : ∀ g, (restoreClear { s with pkc := { s.pkc with gauge := g } }).Bounded := fun g =>
    restoreClear_bounded (with_pkc h rfl rfl)
  split
  · exact restoreHeld_bounded (h1 _)
  · exact restoreFailed_bounded (h1 _)

@[simp] theorem hunt_bounded (r : Option ModuleReport) (h : s.Bounded) : (hunt r s).Bounded := by
  unfold hunt
  dsimp only
  split
  · exact with_stc _ (settleProbe_bounded _ _ h)
  · exact restore_bounded (with_stc _ (settleProbe_bounded _ _ h))

end Sys2Proof.Machine
end

