-- ==== Sys2Proof/Laws/State.lean ====
section
/-! SUPPORT. The fields of the state after each primitive update; the parts of the state an update does not touch stand in Frame.lean. -/

namespace Sys2Proof.Machine

open Sys2Proof

@[simp] theorem putEntry_entries (e : Entry) (s : State) :
    (putEntry e s).trg.entries = insertEntry e s.trg.entries := rfl
@[simp] theorem putEntry_heard (e : Entry) (s : State) : (putEntry e s).trg.heard = s.trg.heard := rfl
@[simp] theorem putEntry_checks (e : Entry) (s : State) : (putEntry e s).trg.checks = s.trg.checks := rfl
@[simp] theorem putEntry_stamp (e : Entry) (s : State) : (putEntry e s).trg.stamp = s.trg.stamp := rfl

@[simp] theorem dropEntry_entries (t : ToolId) (s : State) :
    (dropEntry t s).trg.entries = s.trg.entries.filter (fun e => e.tool != t) := rfl
@[simp] theorem dropEntry_heard (t : ToolId) (s : State) :
    (dropEntry t s).trg.heard = s.trg.heard.filter (· != t) := rfl
@[simp] theorem dropEntry_checks (t : ToolId) (s : State) : (dropEntry t s).trg.checks = s.trg.checks := rfl
@[simp] theorem dropEntry_stamp (t : ToolId) (s : State) : (dropEntry t s).trg.stamp = s.trg.stamp := rfl

@[simp] theorem touchHeard_entries (t : ToolId) (s : State) : (touchHeard t s).trg.entries = s.trg.entries := rfl
@[simp] theorem touchHeard_heard (t : ToolId) (s : State) :
    (touchHeard t s).trg.heard = t :: s.trg.heard.filter (· != t) := rfl
@[simp] theorem touchHeard_checks (t : ToolId) (s : State) : (touchHeard t s).trg.checks = s.trg.checks := rfl
@[simp] theorem touchHeard_stamp (t : ToolId) (s : State) : (touchHeard t s).trg.stamp = s.trg.stamp := rfl

@[simp] theorem dropHeard_entries (t : ToolId) (s : State) : (dropHeard t s).trg.entries = s.trg.entries := rfl
@[simp] theorem dropHeard_heard (t : ToolId) (s : State) :
    (dropHeard t s).trg.heard = s.trg.heard.filter (· != t) := rfl
@[simp] theorem dropHeard_checks (t : ToolId) (s : State) : (dropHeard t s).trg.checks = s.trg.checks := rfl
@[simp] theorem dropHeard_stamp (t : ToolId) (s : State) : (dropHeard t s).trg.stamp = s.trg.stamp := rfl

@[simp] theorem dropCheck_entries (t : ToolId) (s : State) : (dropCheck t s).trg.entries = s.trg.entries := rfl
@[simp] theorem dropCheck_heard (t : ToolId) (s : State) : (dropCheck t s).trg.heard = s.trg.heard := rfl
@[simp] theorem dropCheck_checks (t : ToolId) (s : State) :
    (dropCheck t s).trg.checks = s.trg.checks.filter (fun c => c.tool != t) := rfl
@[simp] theorem dropCheck_stamp (t : ToolId) (s : State) : (dropCheck t s).trg.stamp = s.trg.stamp := rfl

@[simp] theorem writeStamp_entries (s : State) : (writeStamp s).trg.entries = s.trg.entries := rfl
@[simp] theorem writeStamp_heard (s : State) : (writeStamp s).trg.heard = s.trg.heard := rfl
@[simp] theorem writeStamp_checks (s : State) : (writeStamp s).trg.checks = s.trg.checks := rfl
@[simp] theorem writeStamp_stamp (s : State) : (writeStamp s).trg.stamp = s.cck.cal.toStamp := rfl

@[simp] theorem putPocket_modules (p : PocketNo) (k : Pocket) (s : State) :
    (putPocket p k s).pkc.modules = s.pkc.modules := rfl
@[simp] theorem putPocket_pockets (p : PocketNo) (k : Pocket) (s : State) :
    (putPocket p k s).pkc.pockets = s.pkc.pockets.set p { k with indicator := k.derivedIndicator s.presetHead } := rfl
@[simp] theorem putPocket_gauge (p : PocketNo) (k : Pocket) (s : State) :
    (putPocket p k s).pkc.gauge = s.pkc.gauge := rfl
@[simp] theorem putPocket_lastServed (p : PocketNo) (k : Pocket) (s : State) :
    (putPocket p k s).pkc.lastServed = s.pkc.lastServed := rfl
@[simp] theorem putPocket_walk (p : PocketNo) (k : Pocket) (s : State) :
    (putPocket p k s).pkc.walk = s.pkc.walk := rfl

@[simp] theorem modPocket_modules (p : PocketNo) (f : Pocket → Pocket) (s : State) :
    (modPocket p f s).pkc.modules = s.pkc.modules := rfl
@[simp] theorem modPocket_pockets (p : PocketNo) (f : Pocket → Pocket) (s : State) :
    (modPocket p f s).pkc.pockets =
      s.pkc.pockets.set p { f (s.pocket p) with indicator := (f (s.pocket p)).derivedIndicator s.presetHead } := rfl
@[simp] theorem modPocket_gauge (p : PocketNo) (f : Pocket → Pocket) (s : State) :
    (modPocket p f s).pkc.gauge = s.pkc.gauge := rfl
@[simp] theorem modPocket_lastServed (p : PocketNo) (f : Pocket → Pocket) (s : State) :
    (modPocket p f s).pkc.lastServed = s.pkc.lastServed := rfl
@[simp] theorem modPocket_walk (p : PocketNo) (f : Pocket → Pocket) (s : State) :
    (modPocket p f s).pkc.walk = s.pkc.walk := rfl

@[simp] theorem refreshIndicators_modules (s : State) : (refreshIndicators s).pkc.modules = s.pkc.modules := rfl
@[simp] theorem refreshIndicators_pockets (s : State) :
    (refreshIndicators s).pkc.pockets =
      s.pkc.pockets.map (fun k => { k with indicator := k.derivedIndicator s.presetHead }) := rfl
@[simp] theorem refreshIndicators_gauge (s : State) : (refreshIndicators s).pkc.gauge = s.pkc.gauge := rfl
@[simp] theorem refreshIndicators_lastServed (s : State) :
    (refreshIndicators s).pkc.lastServed = s.pkc.lastServed := rfl
@[simp] theorem refreshIndicators_walk (s : State) : (refreshIndicators s).pkc.walk = s.pkc.walk := rfl

@[simp] theorem modModule_modules (a : Nat) (f : Module → Module) (s : State) :
    (modModule a f s).pkc.modules = s.pkc.modules.set a (f (s.pkc.modules.getD a Module.none)) := rfl
@[simp] theorem modModule_pockets (a : Nat) (f : Module → Module) (s : State) :
    (modModule a f s).pkc.pockets = s.pkc.pockets := rfl
@[simp] theorem modModule_gauge (a : Nat) (f : Module → Module) (s : State) :
    (modModule a f s).pkc.gauge = s.pkc.gauge := rfl
@[simp] theorem modModule_lastServed (a : Nat) (f : Module → Module) (s : State) :
    (modModule a f s).pkc.lastServed = s.pkc.lastServed := rfl
@[simp] theorem modModule_walk (a : Nat) (f : Module → Module) (s : State) :
    (modModule a f s).pkc.walk = s.pkc.walk := rfl

@[simp] theorem dropRead_queue (p : PocketNo) (s : State) :
    (dropRead p s).rds.queue = s.rds.queue.filter (· != p) := rfl
@[simp] theorem dropRead_inFlight (p : PocketNo) (s : State) :
    (dropRead p s).rds.inFlight = if s.rds.inFlight.map (·.pocket) = some p then none else s.rds.inFlight := rfl
@[simp] theorem dropRead_sweep (p : PocketNo) (s : State) : (dropRead p s).rds.sweep = s.rds.sweep := rfl
@[simp] theorem dropRead_cursor (p : PocketNo) (s : State) : (dropRead p s).rds.cursor = s.rds.cursor := rfl
@[simp] theorem dropRead_awaiting (p : PocketNo) (s : State) : (dropRead p s).rds.awaiting = s.rds.awaiting := rfl
@[simp] theorem dropRead_table (p : PocketNo) (s : State) : (dropRead p s).rds.table = s.rds.table := rfl

@[simp] theorem recordStatus_queue (x : SweepStatus) (s : State) : (recordStatus x s).rds.queue = s.rds.queue := rfl
@[simp] theorem recordStatus_inFlight (x : SweepStatus) (s : State) :
    (recordStatus x s).rds.inFlight = s.rds.inFlight := rfl
@[simp] theorem recordStatus_sweep (x : SweepStatus) (s : State) : (recordStatus x s).rds.sweep = s.rds.sweep := rfl
@[simp] theorem recordStatus_cursor (x : SweepStatus) (s : State) :
    (recordStatus x s).rds.cursor = s.rds.cursor := rfl
@[simp] theorem recordStatus_awaiting (x : SweepStatus) (s : State) : (recordStatus x s).rds.awaiting = false := rfl
@[simp] theorem recordStatus_table (x : SweepStatus) (s : State) :
    (recordStatus x s).rds.table = s.rds.table.set s.rds.cursor x := rfl

@[simp] theorem startSweep_queue (s : State) : (startSweep s).rds.queue = s.rds.queue := rfl
@[simp] theorem startSweep_inFlight (s : State) : (startSweep s).rds.inFlight = s.rds.inFlight := rfl
@[simp] theorem startSweep_sweep (s : State) :
    (startSweep s).rds.sweep = if s.quiet then .active else .suspended := rfl
@[simp] theorem startSweep_cursor (s : State) : (startSweep s).rds.cursor = 0 := rfl
@[simp] theorem startSweep_awaiting (s : State) : (startSweep s).rds.awaiting = false := rfl
@[simp] theorem startSweep_table (s : State) : (startSweep s).rds.table = List.replicate 48 .none := rfl

@[simp] theorem setPresetQueue_gauge (q : List ToolId) (s : State) :
    (setPresetQueue q s).pru.gauge = s.pru.gauge := rfl
@[simp] theorem setPresetQueue_burst (q : List ToolId) (s : State) :
    (setPresetQueue q s).pru.burst = s.pru.burst := rfl
@[simp] theorem setPresetQueue_first (q : List ToolId) (s : State) :
    (setPresetQueue q s).pru.first = s.pru.first := rfl
@[simp] theorem setPresetQueue_queue (q : List ToolId) (s : State) : (setPresetQueue q s).pru.queue = q := rfl
@[simp] theorem setPresetQueue_tx (q : List ToolId) (s : State) : (setPresetQueue q s).pru.tx = s.pru.tx := rfl
@[simp] theorem setPresetQueue_txWait (q : List ToolId) (s : State) :
    (setPresetQueue q s).pru.txWait = s.pru.txWait := rfl

@[simp] theorem setFirst_gauge (x : Option FirstBurst) (s : State) : (setFirst x s).pru.gauge = s.pru.gauge := rfl
@[simp] theorem setFirst_burst (x : Option FirstBurst) (s : State) : (setFirst x s).pru.burst = s.pru.burst := rfl
@[simp] theorem setFirst_first (x : Option FirstBurst) (s : State) : (setFirst x s).pru.first = x := rfl
@[simp] theorem setFirst_queue (x : Option FirstBurst) (s : State) : (setFirst x s).pru.queue = s.pru.queue := rfl
@[simp] theorem setFirst_tx (x : Option FirstBurst) (s : State) : (setFirst x s).pru.tx = s.pru.tx := rfl
@[simp] theorem setFirst_txWait (x : Option FirstBurst) (s : State) : (setFirst x s).pru.txWait = s.pru.txWait := rfl

@[simp] theorem dropWaitingAt_givers (x : Place) (s : State) : (dropWaitingAt x s).cue.givers = s.cue.givers := rfl
@[simp] theorem dropWaitingAt_takers (x : Place) (s : State) : (dropWaitingAt x s).cue.takers = s.cue.takers := rfl
@[simp] theorem dropWaitingAt_lapsed (x : Place) (s : State) : (dropWaitingAt x s).cue.lapsed = s.cue.lapsed := rfl
@[simp] theorem dropWaitingAt_seekCounter (x : Place) (s : State) :
    (dropWaitingAt x s).cue.seekCounter = s.cue.seekCounter := rfl
@[simp] theorem dropWaitingAt_windows (x : Place) (s : State) : (dropWaitingAt x s).cue.windows = s.cue.windows := rfl
@[simp] theorem dropWaitingAt_waiting (x : Place) (s : State) :
    (dropWaitingAt x s).cue.waiting = s.cue.waiting.filter (fun w => !w.isAt x) := rfl

@[simp] theorem openWindow_givers (w : Window) (s : State) : (openWindow w s).cue.givers = s.cue.givers := rfl
@[simp] theorem openWindow_takers (w : Window) (s : State) : (openWindow w s).cue.takers = s.cue.takers := rfl
@[simp] theorem openWindow_lapsed (w : Window) (s : State) : (openWindow w s).cue.lapsed = s.cue.lapsed := rfl
@[simp] theorem openWindow_seekCounter (w : Window) (s : State) :
    (openWindow w s).cue.seekCounter = s.cue.seekCounter := rfl
@[simp] theorem openWindow_windows (w : Window) (s : State) :
    (openWindow w s).cue.windows = s.cue.windows ++ [w] := rfl
@[simp] theorem openWindow_waiting (w : Window) (s : State) : (openWindow w s).cue.waiting = s.cue.waiting := rfl

@[simp] theorem putGiver_givers (g : Giver) (s : State) :
    (putGiver g s).cue.givers =
      s.cue.givers.map (fun x => if x.seeker = g.seeker ∧ x.seek = g.seek then g else x) := rfl
@[simp] theorem putGiver_takers (g : Giver) (s : State) : (putGiver g s).cue.takers = s.cue.takers := rfl
@[simp] theorem putGiver_lapsed (g : Giver) (s : State) : (putGiver g s).cue.lapsed = s.cue.lapsed := rfl
@[simp] theorem putGiver_seekCounter (g : Giver) (s : State) :
    (putGiver g s).cue.seekCounter = s.cue.seekCounter := rfl
@[simp] theorem putGiver_windows (g : Giver) (s : State) : (putGiver g s).cue.windows = s.cue.windows := rfl
@[simp] theorem putGiver_waiting (g : Giver) (s : State) : (putGiver g s).cue.waiting = s.cue.waiting := rfl

@[simp] theorem putTaker_givers (k : Taker) (s : State) : (putTaker k s).cue.givers = s.cue.givers := rfl
@[simp] theorem putTaker_takers (k : Taker) (s : State) :
    (putTaker k s).cue.takers = s.cue.takers.map (fun x => if x.seek = k.seek then k else x) := rfl
@[simp] theorem putTaker_lapsed (k : Taker) (s : State) : (putTaker k s).cue.lapsed = s.cue.lapsed := rfl
@[simp] theorem putTaker_seekCounter (k : Taker) (s : State) :
    (putTaker k s).cue.seekCounter = s.cue.seekCounter := rfl
@[simp] theorem putTaker_windows (k : Taker) (s : State) : (putTaker k s).cue.windows = s.cue.windows := rfl
@[simp] theorem putTaker_waiting (k : Taker) (s : State) : (putTaker k s).cue.waiting = s.cue.waiting := rfl

@[simp] theorem closeGiver_givers (g : Giver) (s : State) :
    (closeGiver g s).cue.givers = s.cue.givers.filter (fun x => !(x.seeker == g.seeker && x.seek == g.seek)) := rfl
@[simp] theorem closeGiver_takers (g : Giver) (s : State) : (closeGiver g s).cue.takers = s.cue.takers := rfl
@[simp] theorem closeGiver_lapsed (g : Giver) (s : State) :
    (closeGiver g s).cue.lapsed = addLapsed (g.seeker, g.seek) s.cue.lapsed := rfl
@[simp] theorem closeGiver_seekCounter (g : Giver) (s : State) :
    (closeGiver g s).cue.seekCounter = s.cue.seekCounter := rfl
@[simp] theorem closeGiver_windows (g : Giver) (s : State) : (closeGiver g s).cue.windows = s.cue.windows := rfl
@[simp] theorem closeGiver_waiting (g : Giver) (s : State) : (closeGiver g s).cue.waiting = s.cue.waiting := rfl

@[simp] theorem closeTaker_givers (k : Taker) (s : State) : (closeTaker k s).cue.givers = s.cue.givers := rfl
@[simp] theorem closeTaker_takers (k : Taker) (s : State) :
    (closeTaker k s).cue.takers = s.cue.takers.filter (fun x => x.seek != k.seek) := rfl
@[simp] theorem closeTaker_lapsed (k : Taker) (s : State) : (closeTaker k s).cue.lapsed = s.cue.lapsed := rfl
@[simp] theorem closeTaker_seekCounter (k : Taker) (s : State) :
    (closeTaker k s).cue.seekCounter = s.cue.seekCounter := rfl
@[simp] theorem closeTaker_windows (k : Taker) (s : State) : (closeTaker k s).cue.windows = s.cue.windows := rfl
@[simp] theorem closeTaker_waiting (k : Taker) (s : State) : (closeTaker k s).cue.waiting = s.cue.waiting := rfl

@[simp] theorem withdrawRecord_urgent (t : ToolId) (s : State) : (withdrawRecord t s).hli.urgent = s.hli.urgent := rfl
@[simp] theorem withdrawRecord_routine (t : ToolId) (s : State) :
    (withdrawRecord t s).hli.routine = s.hli.routine.filter (fun f => !f.isRecordOf t) := rfl
@[simp] theorem withdrawRecord_send (t : ToolId) (s : State) : (withdrawRecord t s).hli.send = s.hli.send := rfl
@[simp] theorem withdrawRecord_joinTimer (t : ToolId) (s : State) :
    (withdrawRecord t s).hli.joinTimer = s.hli.joinTimer := rfl

@[simp] theorem pushUrgent_urgent (f : Frame) (o : FrameOwner) (s : State) :
    (pushUrgent f o s).hli.urgent = s.hli.urgent ++ [⟨f, o⟩] := rfl
@[simp] theorem pushUrgent_routine (f : Frame) (o : FrameOwner) (s : State) :
    (pushUrgent f o s).hli.routine = s.hli.routine := rfl
@[simp] theorem pushUrgent_send (f : Frame) (o : FrameOwner) (s : State) :
    (pushUrgent f o s).hli.send = s.hli.send := rfl
@[simp] theorem pushUrgent_joinTimer (f : Frame) (o : FrameOwner) (s : State) :
    (pushUrgent f o s).hli.joinTimer = s.hli.joinTimer := rfl

@[simp] theorem setSend_urgent (x : Option Send) (s : State) : (setSend x s).hli.urgent = s.hli.urgent := rfl
@[simp] theorem setSend_routine (x : Option Send) (s : State) : (setSend x s).hli.routine = s.hli.routine := rfl
@[simp] theorem setSend_send (x : Option Send) (s : State) : (setSend x s).hli.send = x := rfl
@[simp] theorem setSend_joinTimer (x : Option Send) (s : State) : (setSend x s).hli.joinTimer = s.hli.joinTimer := rfl

@[simp] theorem stopSending_urgent (s : State) : (stopSending s).hli.urgent = [] := rfl
@[simp] theorem stopSending_routine (s : State) : (stopSending s).hli.routine = [] := rfl
@[simp] theorem stopSending_send (s : State) : (stopSending s).hli.send = none := rfl
@[simp] theorem stopSending_joinTimer (s : State) : (stopSending s).hli.joinTimer = s.hli.joinTimer := rfl

@[simp] theorem overrun_reply (s : State) : (overrun s).slk.reply = s.slk.reply := rfl
@[simp] theorem overrun_sticky (s : State) : (overrun s).slk.sticky = { s.slk.sticky with overrun := true } := rfl
@[simp] theorem overrun_stage (s : State) : (overrun s).slk.stage = s.slk.stage := rfl
@[simp] theorem overrun_token (s : State) : (overrun s).slk.token = s.slk.token := rfl
@[simp] theorem overrun_notices (s : State) : (overrun s).slk.notices = s.slk.notices := rfl
@[simp] theorem overrun_owed (s : State) : (overrun s).slk.owed = s.slk.owed := rfl
@[simp] theorem overrun_pulse (s : State) : (overrun s).slk.pulse = s.slk.pulse := rfl

@[simp] theorem emptyStage_reply (s : State) : (emptyStage s).slk.reply = s.slk.reply := rfl
@[simp] theorem emptyStage_sticky (s : State) : (emptyStage s).slk.sticky = s.slk.sticky := rfl
@[simp] theorem emptyStage_stage (s : State) : (emptyStage s).slk.stage = none := rfl
@[simp] theorem emptyStage_token (s : State) : (emptyStage s).slk.token = s.slk.token := rfl
@[simp] theorem emptyStage_notices (s : State) : (emptyStage s).slk.notices = s.slk.notices := rfl
@[simp] theorem emptyStage_owed (s : State) : (emptyStage s).slk.owed = s.slk.owed := rfl
@[simp] theorem emptyStage_pulse (s : State) : (emptyStage s).slk.pulse = s.slk.pulse := rfl

@[simp] theorem sequenceError_reply (s : State) : (sequenceError s).slk.reply = s.slk.reply := rfl
@[simp] theorem sequenceError_sticky (s : State) :
    (sequenceError s).slk.sticky = { s.slk.sticky with seqError := true } := rfl
@[simp] theorem sequenceError_stage (s : State) : (sequenceError s).slk.stage = none := rfl
@[simp] theorem sequenceError_token (s : State) : (sequenceError s).slk.token = s.slk.token := rfl
@[simp] theorem sequenceError_notices (s : State) : (sequenceError s).slk.notices = s.slk.notices := rfl
@[simp] theorem sequenceError_owed (s : State) : (sequenceError s).slk.owed = s.slk.owed := rfl
@[simp] theorem sequenceError_pulse (s : State) : (sequenceError s).slk.pulse = s.slk.pulse := rfl

@[simp] theorem tickCalendar_cal (s : State) : (tickCalendar s).cck.cal = s.cck.cal.tick := rfl
@[simp] theorem tickCalendar_trust (s : State) : (tickCalendar s).cck.trust = (s.cck.trust && !s.cck.cal.atEnd) := rfl
@[simp] theorem tickCalendar_latch (s : State) : (tickCalendar s).cck.latch = s.cck.latch := rfl
@[simp] theorem tickCalendar_low (s : State) : (tickCalendar s).cck.low = s.cck.low := rfl

@[simp] theorem setNode_node (n : NodeState) (s : State) : (setNode n s).stc.node = n := rfl
@[simp] theorem setNode_powered (n : NodeState) (s : State) : (setNode n s).stc.powered = s.stc.powered := rfl
@[simp] theorem setNode_config (n : NodeState) (s : State) : (setNode n s).stc.config = s.stc.config := rfl
@[simp] theorem setNode_report (n : NodeState) (s : State) : (setNode n s).stc.report = s.stc.report := rfl
@[simp] theorem setNode_refusedOnce (n : NodeState) (s : State) :
    (setNode n s).stc.refusedOnce = s.stc.refusedOnce := rfl
@[simp] theorem setNode_huntNext (n : NodeState) (s : State) : (setNode n s).stc.huntNext = s.stc.huntNext := rfl
@[simp] theorem setNode_recordedId (n : NodeState) (s : State) :
    (setNode n s).stc.recordedId = s.stc.recordedId := rfl

/-- Reading a pocket after its record was changed. -/
theorem pocket_modPocket (p q : PocketNo) (f : Pocket → Pocket) (s : State) (hp : p < s.pkc.pockets.length) :
    (modPocket p f s).pocket q =
      if q = p then { f (s.pocket p) with indicator := (f (s.pocket p)).derivedIndicator s.presetHead } else s.pocket q := by
  by_cases h : q = p
  · subst h
    simp [State.pocket, List.getD_eq_getElem?_getD, hp]
  · have h' : p ≠ q := fun e => h e.symm
    simp [State.pocket, List.getD_eq_getElem?_getD, h, List.getElem?_set, h']

/-- Changing one pocket leaves the others as they were. -/
theorem pocket_modPocket_ne {p q : PocketNo} (h : q ≠ p) (f : Pocket → Pocket) (s : State) :
    (modPocket p f s).pocket q = s.pocket q := by
  have h' : p ≠ q := fun e => h e.symm
  simp [State.pocket, List.getD_eq_getElem?_getD, List.getElem?_set, h']

@[simp] theorem retryLatches_modules (s : State) : (retryLatches s).pkc.modules = s.pkc.modules := rfl
@[simp] theorem retryLatches_gauge (s : State) : (retryLatches s).pkc.gauge = s.pkc.gauge := rfl
@[simp] theorem retryLatches_lastServed (s : State) : (retryLatches s).pkc.lastServed = s.pkc.lastServed := rfl
@[simp] theorem retryLatches_walk (s : State) : (retryLatches s).pkc.walk = s.pkc.walk := rfl

/-- The re-commanded latch is all of a pocket that changes. -/
@[simp] theorem relatched_with_latch (k : Pocket) : { k.relatched with latch := k.latch } = k := by
  unfold Pocket.relatched; split <;> rfl

/-- Only a pocket in FAULT is re-commanded. -/
theorem relatched_of_ne {k : Pocket} (h : k.state ≠ .fault) : k.relatched = k := by
  unfold Pocket.relatched; split
  · next hf _ => exact absurd hf h
  · rfl

/-- Reading a pocket after the latches in a lock fault were commanded once more. -/
theorem pocket_retryLatches (s : State) (p : PocketNo) :
    (retryLatches s).pocket p = if s.moduleActive p then (s.pocket p).relatched else s.pocket p := by
  have hv : Pocket.vacant.relatched = Pocket.vacant := relatched_of_ne (by decide)
  simp only [State.pocket, retryLatches, List.getD_eq_getElem?_getD, List.getElem?_mapIdx]
  cases s.pkc.pockets[p]? <;> simp [hv]

/-- Where no pocket is in a lock fault, no latch is commanded anew. -/
theorem retryLatches_idle {s : State} (h : ∀ p, s.moduleActive p = true → (s.pocket p).state ≠ .fault) :
    retryLatches s = s := by
  have hp : s.pkc.pockets.mapIdx (fun p k => if s.moduleActive p then k.relatched else k) = s.pkc.pockets := by
    refine List.ext_getElem? fun p => ?_
    rw [List.getElem?_mapIdx]
    cases hk : s.pkc.pockets[p]? with
    | none => rfl
    | some k =>
      have : s.pocket p = k := by simp [State.pocket, List.getD_eq_getElem?_getD, hk]
      by_cases hm : s.moduleActive p = true
      · simp [hm, relatched_of_ne (this ▸ h p hm)]
      · simp [hm]
  simp only [retryLatches, hp]

/-- The entry of a tool in a list after another entry was inserted. -/
theorem find_insertEntry (e : Entry) (t : ToolId) (l : List Entry) (h : l.Pairwise (fun a b => a.tool < b.tool)) :
    (insertEntry e l).find? (fun x => x.tool == t) = if t = e.tool then some e else l.find? (fun x => x.tool == t) := by
  induction l with
  | nil =>
    by_cases ht : t = e.tool
    · simp [insertEntry, ht]
    · simp only [insertEntry, List.find?_cons, beq_eq_false_iff_ne.2 (fun h2 => ht h2.symm), ht, if_false, List.find?_nil]
  | cons x xs ih =>
    rw [List.pairwise_cons] at h
    unfold insertEntry
    by_cases ht : t = e.tool
    · subst ht
      split
      · simp
      · next hx =>
        split
        · simp
        · simp [ih h.2, beq_eq_false_iff_ne.2 hx]
    · have hne : (e.tool == t) = false := beq_eq_false_iff_ne.2 (fun h2 => ht h2.symm)
      split
      · next hx => simp [List.find?_cons, hne, hx, ht]
      · split
        · simp [List.find?_cons, hne, ht]
        · simp [List.find?_cons, ih h.2, ht]

/-- Reading an entry after one was stored. -/
theorem entry_putEntry (e : Entry) (t : ToolId) (s : State) (h : s.trg.entries.Pairwise (fun a b => a.tool < b.tool)) :
    (putEntry e s).entry? t = if t = e.tool then some e else s.entry? t :=
  find_insertEntry e t s.trg.entries h

end Sys2Proof.Machine
end

