-- ==== Sys2Proof/Tests/Slice0.lean ====
section
/-! SUPPORT. Tests of single commands against the worked examples of the manual, ill-formed commands that WellFormed refuses, and, for every
statement with hypotheses, a state and operands that meet them. -/

namespace Sys2Proof.Tests

open Sys2Proof Sys2Proof.Machine

-- One theorem after another: a thread for each of them would keep a stack of its own.
set_option Elab.async false

/-! ### A small node -/

/-- A kind of one burst. -/
def kindOne : KindEntry :=
  { unattended := true, nominalLength := 1523000, tolLength := 1000, nominalRadius := 62500, tolRadius := 100,
    runoutLimit := 50, alpha := 1150, bursts := 1, band := 20, fullLife := 240, reserve := 30, wearRate := 35,
    wearLimit := 400, ageLimit := 10080 }

/-- The configuration of station 5: kind 0 of one burst, kind 1 of two; modules 2 and 3 are magazine modules. -/
def conf : NodeConfig :=
  { station := 5, banks := [.crib, .crib, .magazine, .magazine, .crib, .crib], headFitted := true, attention := .level,
    mask := List.replicate 9 false, kinds := [some kindOne, some { kindOne with bursts := 2 }], alarms := [],
    clamped := false }

/-- A module with locks and eight lines. -/
def modl (b : BankKind) (door : Bool) : Module :=
  { state := .active, bank := b, lock := true, door := door, indicator := true, lines := 8 }

/-- Station 5 in RUN: modules 0 (crib, doors), 1 (crib, no doors), 2 (magazine, doors), 3 (magazine, no doors); every
present pocket EMPTY; a read of pocket 31 in flight. -/
def base : State :=
  { State.reset with
    pkc := { modules := [modl .crib true, modl .crib false, modl .magazine true, modl .magazine false, Module.none, Module.none],
             pockets := List.replicate 32 { Pocket.vacant with state := .empty, verified := true } ++
               List.replicate 16 Pocket.vacant,
             gauge := .empty, lastServed := 47, walk := none },
    rds := { Rds.empty with inFlight := some ⟨31, 0⟩ },
    cck := { cal := ⟨2028, 3, 1, 2, 10, 0, 3⟩, trust := true, latch := false, low := false },
    stc := { node := .run, powered := true, config := some conf, report := .held, refusedOnce := false, huntNext := 5,
             recordedId := 5 } }

/-- An entry of kind 0 with a FULL preset and life 100. -/
def ent (t : ToolId) (c : Custody) (p : Option PocketNo) : Entry :=
  { tool := t, kind := 0, version := 7, custodian := 5, custody := c, heard := none, destination := none, pocket := p,
    condition := .ready, preset := some ⟨.full, 1523306, 62535, 10, 5, 9⟩, life := 100, remainder := 0, used := 0,
    conflict := false, awayTimer := none }

/-- Tool t STOCKED in pocket p. -/
def stock (p : PocketNo) (t : ToolId) (s : State) : State :=
  modPocket p (Pocket.occupied t) (putEntry (ent t .stocked (some p)) s)

/-- The state a command leaves. -/
def after (c : Instr) (s : State) : State :=
  match exec c s with
  | .next t => t
  | .fault _ => s
  | .refused _ => s

/-- The record of a tool at station 30. -/
def theirs (t : ToolId) (v : Version) (h : HeardCustody) : Record :=
  { tool := t, kind := 0, version := v, custodian := 30, heard := h, destination := none, condition := .ready,
    preset := some ⟨.full, 1523306, 62535, 10, 5, 9⟩, life := 100, remainder := 0, used := 0, conflict := false }

/-- A giver transfer toward station 30, seek 52. -/
def giving (x : GiverState) (p : Option PocketNo) (timer : Option Nat) : Giver :=
  { state := x, seeker := 30, seek := 52, want := .kind 0, mode := .attended, minLife := 60, tool := 1, pocket := p,
    timer := timer, expired := false, withdrawing := false, lastFrame := .take 30 52 }

/-- The offer of tool 1 by station 30. -/
def offered : Offer := ⟨30, theirs 1 21 .stocked⟩

/-- A taker transfer for pocket 16, seek 52. -/
def taking (x : TakerState) (timer : Nat) (os : List Offer) (c : Option Offer) : Taker :=
  { state := x, seek := 52, pocket := 16, want := .kind 0, mode := .attended, minLife := 60, timer := timer,
    offers := os, current := c, lastFrame := .take 30 52 }

/-- The state with one giver transfer. -/
def withGiver (g : Giver) (s : State) : State := { s with cue := { s.cue with givers := [g] } }

/-- The state with one taker transfer. -/
def withTaker (k : Taker) (s : State) : State := { s with cue := { s.cue with takers := [k] } }

/-- The state with the one claim window. -/
def withWindow (w : Window) (s : State) : State := { s with cue := { s.cue with windows := [w] } }

/-- The state in another node state. -/
def inNode (n : NodeState) (s : State) : State := { s with stc := { s.stc with node := n } }

theorem base_bounded : base.Bounded := by constructor <;> decide +kernel
theorem base_takes : base.takesCommands := ⟨rfl, rfl⟩
theorem base_busy : base.readerBusy := ⟨rfl, rfl⟩
theorem base_elsewhere {p : PocketNo} (h : p ≠ 31) : base.readerElsewhere p := ⟨⟨_, rfl, fun e => h e.symm⟩, rfl⟩

/-! ### Witnesses: the machine, the starts, the clock -/

theorem witness_FrontCommandRuns :
    ({ base with pending := [.clear, .status] } : State).pending = .clear :: [.status] ∧ base.pending = [] := by
  decide

theorem witness_StepKeepsBounds :
    base.Bounded ∧ step { base with pending := [.status] } = .next (after .status base) :=
  ⟨base_bounded, rfl⟩

theorem witness_StepKeepsSilence :
    (inNode .idConflict base).Silent ∧
      step { inNode .idConflict base with pending := [.hold 0 true] } = .next (after (.hold 0 true) (inNode .idConflict base)) :=
  ⟨fun _ => ⟨rfl, rfl, rfl⟩, rfl⟩

theorem witness_StepKeepsCalendar :
    base.cck.cal.Valid ∧ (after (.secondEvent false) base).cck.cal ≠ base.cck.cal := by
  refine ⟨⟨?_, ?_⟩, ?_⟩ <;> decide +kernel

theorem witness_CalendarAdvances :
    Calendar.Valid ⟨2199, 12, 31, 23, 59, 58, 2⟩ ∧ Calendar.atEnd ⟨2199, 12, 31, 23, 59, 58, 2⟩ = false ∧
      Calendar.Valid ⟨2000, 12, 31, 23, 59, 59, 0⟩ ∧ Calendar.atEnd ⟨2000, 12, 31, 23, 59, 59, 0⟩ = false ∧
      Calendar.atEnd ⟨2199, 12, 31, 23, 59, 59, 2⟩ = true := by
  refine ⟨⟨?_, ?_⟩, ?_, ⟨?_, ?_⟩, ?_, ?_⟩ <;> decide +kernel

theorem witness_NodeStateChanges :
    exec .idConflict base = .next (after .idConflict base) ∧ (after .idConflict base).stc ≠ base.stc :=
  ⟨rfl, by decide +kernel⟩

theorem witness_ClockChanges :
    exec (.secondEvent false) base = .next (after (.secondEvent false) base) ∧
      (after (.secondEvent false) base).cck.cal ≠ base.cck.cal :=
  ⟨rfl, by decide +kernel⟩

theorem witness_HallRoundTrip :
    (Instr.takeReceived 250 255).wf = true ∧ (encodeHall 1 (.takeReceived 250 255)).isSome = true ∧
      hallSource (.takeReceived 250 255) = some 250 ∧ hallReaches 1 (.takeReceived 250 255) :=
  ⟨rfl, rfl, rfl, trivial⟩

theorem witness_LinkRoundTrip :
    (Instr.unknownCommand 0x10 [0]).wf = true ∧ (encodeLink (.unknownCommand 0x10 [0])).isSome = true ∧
      (Instr.use 255 65535).wf = true ∧ (encodeLink (.use 255 65535)).isSome = true := by decide +kernel

theorem witness_HeadRoundTrip :
    (Instr.burstStart 255 true (some (-32767))).wf = true ∧
      (encodeHead (.burstStart 255 true (some (-32767)))).isSome = true ∧
      (Instr.sample 0 (-2147483648) 2147483647 false).wf = true ∧
      (encodeHead (.sample 0 (-2147483648) 2147483647 false)).isSome = true := by decide +kernel

/-- An accepted image of station 1, every other field 0. -/
def image : List Byte :=
  be 2 2463 ++ [1] ++ List.replicate 2462 0 ++ be 2 (crc16 ([1] ++ List.replicate 2462 0)).toNat

set_option maxRecDepth 100000 in
theorem witness_ImageInRanges : imageAccepted image = true := by decide +kernel

theorem witness_SuppliesAct : base.stc.powered = true ∧ (after .mainPowerLoss base).stc.powered = false := by decide +kernel

/-- A node in LOADING. -/
def loading : State := State.reset

/-- A node in HUNTING at address a. -/
def hunting (a : Nat) : State :=
  { inNode .hunting base with stc := { base.stc with node := .hunting, huntNext := a } }

theorem witness_ConfigAndHunt :
    (loading.stc.powered = true ∧ loading.stc.node = .loading ∧ readImage none = none ∧ loading.stc.refusedOnce = false) ∧
      ((after (.configRead none) loading).stc.refusedOnce = true ∧ (after (.configRead none) loading).stc.node = .loading) ∧
      base.stc.node ≠ .loading ∧
      ((hunting 4).stc.powered = true ∧ (hunting 4).stc.node = .hunting ∧ (hunting 4).stc.huntNext < 5 ∧
        (hunting 4).pkc.pockets.length = 48) := by
  decide +kernel

theorem witness_HuntEndsInJoining :
    ((hunting 5).stc.powered = true ∧ (hunting 5).stc.node = .hunting ∧ (hunting 5).stc.huntNext = 5 ∧
      (hunting 5).stc.report = .held) ∧
    ({ hunting 5 with stc := { (hunting 5).stc with report := .failed } } : State).stc.report = .failed := by
  decide +kernel

/-- A node in JOINING whose join timer stands at 0, a door open. -/
def joined : State :=
  modPocket 0 (fun k => { k with door := .opened }) { inNode .joining base with hli := { base.hli with joinTimer := some 0 } }

theorem witness_JoinTimerExpires :
    joined.running = true ∧ joined.stc.node = .joining ∧ joined.hli.joinTimer = some 0 ∧ joined.quiet = false ∧
      joined.rds.inFlight.isSome = true ∧ base.stc.node ≠ .joining := by
  decide +kernel

/-- One second before the end of a minute, the clock not trusted. -/
def lastSecond : State := { base with cck := { base.cck with cal := ⟨2028, 3, 1, 2, 10, 59, 3⟩, trust := false } }

theorem witness_SecondEventActs :
    loading.running = false ∧ (base.running = true ∧ base.cck.cal.tick.second ≠ 0 ∧ base.readerBusy) ∧
      (lastSecond.running = true ∧ lastSecond.cck.cal.tick.second = 0 ∧ lastSecond.cck.trust = false ∧
        lastSecond.readerBusy) := by
  refine ⟨?_, ⟨?_, ?_, ⟨?_, ?_⟩⟩, ?_, ?_, ?_, ⟨?_, ?_⟩⟩ <;> decide +kernel

/-! ### Witnesses: modules, latches, doors, presses, reads -/

theorem witness_ModuleFallsSilent :
    base.running = true ∧ base.pkc.modules.length = 6 ∧ base.pkc.pockets.length = 48 ∧
      (base.pkc.modules.getD 0 Module.none).state = .active ∧ base.rds.sweep = .idle ∧
      (∃ r, base.rds.inFlight = some r ∧ r.pocket / 8 ≠ 0) ∧ base.rds.queue = [] ∧ base.cue.waiting = [] ∧
      base.slk.stage = none ∧ base.cue.givers = [] ∧ base.cue.takers = [] := by
  refine ⟨?_, ?_, ?_, ?_, ?_, ⟨_, rfl, ?_⟩, ?_, ?_, ?_, ?_, ?_⟩ <;> decide +kernel

/-- Module 1, without doors, is SILENT; pocket 15 stood STOCKED with tool 1 under an open release. -/
def silent : State :=
  modModule 1 (fun m => { m with state := .silent })
    (modPocket 15 (fun k => { k with state := .fault, saved := some .stocked, openRelease := true }) (stock 15 1 base))

theorem witness_ModuleAnswers :
    (silent.running = true ∧ silent.pkc.modules.length = 6 ∧ silent.pkc.pockets.length = 48 ∧
      (silent.pkc.modules.getD 1 Module.none).state = .silent ∧ (silent.pkc.modules.getD 1 Module.none).door = false ∧
      (silent.pocket 15).state = .fault ∧ (silent.pocket 15).saved = some .stocked) ∧ silent.readerBusy ∧
    (silent.pkc.modules.getD 0 Module.none).state ≠ .silent := by
  refine ⟨?_, ⟨?_, ?_⟩, ?_⟩ <;> decide +kernel

theorem elsewhere_of {s : State} {p : PocketNo} (h : s.rds = base.rds) (hp : p ≠ 31) : s.readerElsewhere p := by
  unfold State.readerElsewhere
  rw [h]
  exact base_elsewhere hp

theorem witness_LatchFaultsAndReturns :
    (base.running = true ∧ base.present 0 = true ∧ base.moduleActive 0 = true ∧ base.hasLock 0 = true ∧
      (base.pocket 0).state ≠ .fault ∧ base.rds.queue = [] ∧ base.cue.waiting = [] ∧ base.slk.stage = none ∧
      base.cue.givers = [] ∧ base.cue.takers = []) ∧ base.readerElsewhere 0 ∧
    (∀ t : State, t = modPocket 23 (fun k => { k with state := .fault, saved := some .awaiting }) base →
      t.present 23 = true ∧ t.moduleActive 23 = true ∧ t.hasLock 23 = true ∧ (t.pocket 23).state = .fault ∧
        (t.pocket 23).saved = some .awaiting ∧ t.readerElsewhere 23) := by
  refine ⟨?_, base_elsewhere (by decide), ?_⟩
  · decide +kernel
  · rintro t rfl
    refine ⟨?_, ?_, ?_, ?_, ?_, elsewhere_of rfl (by decide)⟩ <;> decide +kernel

/-- Pocket 16 LOADED with tool 1, its door OPEN or CLOSED. -/
def loaded (d : Door) : State :=
  modPocket 16 (fun k => { k with door := d, mark := some ⟨7, 1523306, 62535, false⟩ }) (stock 16 1 base)

theorem witness_DoorsAct :
    ((loaded .closed).doorEvents 16 = true ∧ (loaded .closed).pkc.pockets.length = 48 ∧
      (loaded .closed).masked .recordChanged = false ∧ (loaded .closed).slk.notices.length < 16 ∧
      ((loaded .closed).pocket 16).mark.isSome = true) ∧ (loaded .closed).readerElsewhere 16 ∧
    ((loaded .opened).doorEvents 16 = true ∧ ((loaded .opened).pocket 16).door = .opened ∧
      (loaded .opened).pkc.pockets.length = 48 ∧ ((loaded .opened).pocket 16).state = .stocked) ∧
      (loaded .opened).readerElsewhere 16 ∧
    ((modPocket 7 (fun k => { k with door := .opened }) base).doorEvents 7 = true ∧
      ((modPocket 7 (fun k => { k with door := .opened }) base).pocket 7).state = .empty) := by
  refine ⟨?_, elsewhere_of rfl (by decide), ?_, elsewhere_of rfl (by decide), ?_⟩ <;> decide +kernel

/-- A press is pending at pocket p. -/
def pressed (p : PocketNo) (s : State) : State := modPocket p (fun k => { k with press := true }) s

/-- Pocket p holds tool 1 with a press pending and the condition given. -/
def pressedStock (p : PocketNo) (c : Condition) : State :=
  pressed p (putEntry { ent 1 .stocked (some p) with condition := c } (stock p 1 base))

theorem witness_PressesAreServed :
    (base.running = true ∧ base.present 0 = true ∧ base.moduleActive 0 = true ∧ (base.pocket 0).state ≠ .fault ∧
      base.present 32 = false ∧ base.nextPress = none) ∧
    ((pressed 0 base).pkc.walk = none ∧ (pressed 0 base).nextPress = some 0 ∧ (pressed 0 base).pkc.pockets.length = 48 ∧
      ((pressed 0 base).pocket 0).state = .empty ∧ ((pressed 0 base).pocket 0).latch = .locked) ∧
      (pressed 0 base).readerElsewhere 0 ∧
    ((pressedStock 0 .ready).nextPress = some 0 ∧ ((pressedStock 0 .ready).pocket 0).state = .stocked ∧
      ((pressedStock 0 .ready).pocket 0).openRelease = false ∧ ((pressedStock 0 .ready).pocket 0).contents = some 1 ∧
      (pressedStock 0 .ready).entry? 1 = some (ent 1 .stocked (some 0))) ∧
    ((pressedStock 8 .expired).nextPress = some 8 ∧ ((pressedStock 8 .expired).pocket 8).state = .stocked ∧
      ((pressedStock 8 .expired).pocket 8).openRelease = false ∧ ((pressedStock 8 .expired).pocket 8).latch = .locked ∧
      ((pressedStock 8 .expired).pocket 8).contents = some 1 ∧ ((pressedStock 8 .expired).pocket 8).hold = false ∧
      (pressedStock 8 .expired).isCrib 8 = true ∧ (pressedStock 8 .expired).departureRoom = true) ∧
    (∀ t : State, t = modPocket 1 (Pocket.toChecking .insert) (pressed 1 base) →
      t.nextPress = some 1 ∧ (t.pocket 1).state = .checking ∧ (t.pocket 1).readRequested = false) := by
  refine ⟨?_, ?_, elsewhere_of rfl (by decide), ?_, ?_, ?_⟩
  · decide +kernel
  · decide +kernel
  · decide +kernel
  · decide +kernel
  · rintro t rfl
    decide +kernel

/-- Pocket p is OPEN_FOR_STOCK with its timer at 0, its door CLOSED. -/
def timedOut (p : PocketNo) : State :=
  modPocket p (fun k => { k with state := .openForStock, latch := .opened, timer := some 0, timerRunning := true }) base

/-- Pocket p holds tool 1 under an open release whose timer stands at 0. -/
def releasedOut (p : PocketNo) : State :=
  modPocket p (fun k => { k with openRelease := true, latch := .opened, timer := some 0, timerRunning := true })
    (stock p 1 base)

theorem witness_PocketTimerExpires :
    (base.pkc.pockets.length = 48 ∧ (base.pocket 0).timerDue = false) ∧
    ((timedOut 0).running = true ∧ (timedOut 0).pkc.pockets.length = 48 ∧ ((timedOut 0).pocket 0).timerDue = true ∧
      (timedOut 0).hasDoor 0 = true ∧ ((timedOut 0).pocket 0).door = .closed) ∧ (timedOut 0).readerElsewhere 0 ∧
    ((releasedOut 8).running = true ∧ (releasedOut 8).pkc.pockets.length = 48 ∧
      ((releasedOut 8).pocket 8).timerDue = true ∧ (releasedOut 8).hasDoor 8 = false) ∧
      (releasedOut 8).readerElsewhere 8 := by
  refine ⟨?_, ?_, elsewhere_of rfl (by decide), ?_, elsewhere_of rfl (by decide)⟩ <;> decide +kernel

/-- A CHECKING pocket with the check and contents given, its read in flight. -/
def checking (p : PocketNo) (c : Check) (t : Option ToolId) (fails : Nat) : State :=
  { modPocket p (fun k => { k.toChecking c with contents := t, readRequested := true, verified := false }) base with
    rds := { base.rds with inFlight := some ⟨p, fails⟩ } }

theorem checking_bounded {p : PocketNo} {c : Check} {t : Option ToolId} {n : Nat} : (checking p c t n).Bounded :=
  { base_bounded with pockets := by simpa [checking, modPocket, putPocket] using base_bounded.pockets }

theorem witness_InsertReadEnds :
    ((∀ s : State, s = { base with rds := Rds.empty } → s.rds.inFlight = none) ∧ base.running = true ∧
      base.rds.inFlight = some ⟨31, 0⟩ ∧ toolIdValid 0 = false ∧ toolIdValid 281474976710655 = false) ∧
    ((checking 0 .insert none 2).running = true ∧ (checking 0 .insert none 2).rds.inFlight = some ⟨0, 2⟩ ∧
      (checking 0 .insert none 2).rds.queue = [] ∧ (checking 0 .insert none 2).rds.sweep = .idle ∧
      (checking 0 .insert none 2).rds.awaiting = false ∧ (checking 0 .insert none 2).trg.checks = [] ∧
      (checking 0 .insert none 2).pkc.pockets.length = 48 ∧ ((checking 0 .insert none 2).pocket 0).state = .checking ∧
      ((checking 0 .insert none 2).pocket 0).check = some .insert ∧
      ((checking 0 .insert none 2).pocket 0).readRequested = true ∧
      ((checking 0 .insert none 2).pocket 0).vacated = none) := by
  refine ⟨⟨?_, ?_⟩, ?_⟩
  · rintro s rfl; rfl
  · decide +kernel
  · decide +kernel

/-- The state with one more entry. -/
def withEntry (e : Entry) (s : State) : State := putEntry e s

theorem withEntry_bounded {e : Entry} {s : State} (h : s.Bounded) (he : s.trg.entries = []) : (withEntry e s).Bounded := by
  refine { h with register := ?_, entries := ?_ } <;> simp [withEntry, putEntry, he, insertEntry]

/-- Tool 1 AWAY is read in pocket 0. -/
def returning : State := withEntry { ent 1 .away none with awayTimer := some 5 } (checking 0 .insert none 0)

theorem witness_ReturnIsStocked :
    returning.Bounded ∧ returning.running = true ∧ returning.stc.node ≠ .idConflict ∧
      returning.rds.inFlight = some ⟨0, 0⟩ ∧ returning.rds.queue = [] ∧ returning.rds.sweep = .idle ∧
      returning.rds.awaiting = false ∧ returning.trg.checks = [] ∧ (returning.pocket 0).state = .checking ∧
      (returning.pocket 0).check = some .insert ∧ (returning.pocket 0).readRequested = true ∧
      (returning.pocket 0).vacated = none ∧ toolIdValid 1 = true ∧
      returning.entry? 1 = some { ent 1 .away none with awayTimer := some 5 } ∧
      returning.pru.queue.contains 1 = false ∧ returning.windowOpen 1 = false ∧ returning.takerFor? 0 1 = none := by
  refine ⟨withEntry_bounded checking_bounded rfl, ?_⟩
  decide +kernel

/-- The release of tool 1 from pocket 0 is read. -/
def removing : State := withEntry (ent 1 .stocked (some 0)) (checking 0 .remove (some 1) 0)

theorem witness_RemovalSettles :
    removing.Bounded ∧ removing.running = true ∧ removing.rds.inFlight = some ⟨0, 0⟩ ∧ removing.rds.queue = [] ∧
      removing.rds.sweep = .idle ∧ removing.rds.awaiting = false ∧ removing.trg.checks = [] ∧
      (removing.pocket 0).state = .checking ∧ (removing.pocket 0).check = some .remove ∧
      (removing.pocket 0).readRequested = true ∧ (removing.pocket 0).contents = some 1 ∧ (removing.pocket 0).mark = none ∧
      toolIdValid 1 = true ∧ removing.entry? 1 = some (ent 1 .stocked (some 0)) ∧ removing.windowOpen 1 = false := by
  refine ⟨withEntry_bounded checking_bounded rfl, ?_⟩
  decide +kernel

theorem witness_AdoptionOpens :
    (checking 0 .insert none 0).Bounded ∧ (checking 0 .insert none 0).running = true ∧
      (checking 0 .insert none 0).stc.node ≠ .idConflict ∧ (checking 0 .insert none 0).rds.inFlight = some ⟨0, 0⟩ ∧
      ((checking 0 .insert none 0).pocket 0).readRequested = true ∧ toolIdValid 281474976710654 = true ∧
      (checking 0 .insert none 0).entry? 281474976710654 = none ∧ (checking 0 .insert none 0).trg.entries.length < 256 ∧
      (checking 0 .insert none 0).takerFor? 0 281474976710654 = none ∧
      (checking 0 .insert none 0).cue.windows.length < 4 ∧ (checking 0 .insert none 0).cue.waiting = [] ∧
      (checking 0 .insert none 0).hli.urgent.length < 8 ∧ (checking 0 .insert none 0).pru.queue.length < 32 ∧
      (checking 0 .insert none 0).pru.queue.contains 281474976710654 = false := by
  refine ⟨checking_bounded, ?_⟩
  decide +kernel

/-- No pocket is present and the reader is free. -/
def hollow : State :=
  { base with pkc := { base.pkc with pockets := List.replicate 48 Pocket.vacant }, rds := Rds.empty }

theorem witness_SweepRuns :
    (∀ t : State, t = { base with rds := { base.rds with sweep := .active } } → t.rds.sweep ≠ .idle ∧ t.takesCommands) ∧
    (∀ t : State, t = modPocket 0 (fun k => { k with door := .opened }) base →
      t.takesCommands ∧ t.rds.sweep = .idle ∧ t.quiet = false ∧ t.rds.inFlight.isSome = true) ∧
    (hollow.takesCommands ∧ hollow.rds.sweep = .idle ∧ hollow.rds.inFlight = none ∧ hollow.rds.queue = [] ∧
      hollow.pkc.pockets = List.replicate 48 Pocket.vacant) := by
  refine ⟨?_, ?_, ⟨rfl, rfl⟩, rfl, rfl, rfl, rfl⟩
  · rintro t rfl; exact ⟨by decide, rfl, rfl⟩
  · rintro t rfl; exact ⟨⟨rfl, rfl⟩, by decide +kernel, by decide +kernel, by decide +kernel⟩

/-! ### Witnesses: the presetter head and the hall line -/

/-- Tool 1 AWAY. -/
def absentTool : State := withEntry (ent 1 .away none) base

theorem absent_bounded : absentTool.Bounded := withEntry_bounded base_bounded rfl

/-- A burst of kind 0's or kind 1's tool 1 with the samples of slots 0..3 given. -/
def burst (edge : Bool) (l : List SampleSlot) : Burst :=
  { tool := some 1, n := 4, edge := edge, temperature := 2100, provisional := false,
    slots := l.map some ++ List.replicate (32 - l.length) none }

/-- Four valid samples. -/
def samples : List SampleSlot := [⟨1523402, 62512, true⟩, ⟨1523418, 62530, true⟩, ⟨1523410, 62540, true⟩, ⟨1523395, 62525, true⟩]

/-- Tool 1 of the kind on the gauge, with the burst given in progress. -/
def gauging (kind : Nat) (b : Option Burst) (f : Option FirstBurst) : State :=
  withEntry { ent 1 .atGauge none with kind := kind }
    { base with pru := { base.pru with gauge := some ⟨1, kind⟩, burst := b, first := f } }

theorem gauging_bounded {kind : Nat} {b : Option Burst} {f : Option FirstBurst} : (gauging kind b f).Bounded :=
  withEntry_bounded { base_bounded with } rfl

theorem witness_DiscardedIsNothing : (inNode .configFault base).headReads = false := by decide

theorem witness_GaugeFollowsTag :
    (toolIdValid 0 = false ∧ 64 ≤ 64) ∧
    ((absentTool.headReads = true ∧ toolIdValid 1 = true ∧ (ent 1 .away none).kind < 64 ∧ absentTool.pru.gauge = none ∧
      absentTool.trg.entries.all (fun x => !decide (x.custody = .atGauge)) = true ∧
      absentTool.entry? 1 = some (ent 1 .away none) ∧ absentTool.adoptionOpen 1 = false) ∧ absentTool.readerBusy) ∧
    (base.headReads = true ∧ base.pru.gauge = none) ∧
    (gauging 0 (some (burst true samples)) none).Bounded ∧
    ((gauging 0 (some (burst true samples)) none).headReads = true ∧
      (gauging 0 (some (burst true samples)) none).pru.gauge = some ⟨1, 0⟩ ∧
      (gauging 0 (some (burst true samples)) none).entry? 1 = some (ent 1 .atGauge none) ∧
      (gauging 0 (some (burst true samples)) none).windowOpen 1 = false ∧
      (gauging 0 (some (burst true samples)) none).cue.waiting = [] ∧
      (gauging 0 (some (burst true samples)) none).pru.tx = none) := by
  refine ⟨?_, ⟨?_, rfl, rfl⟩, ?_, gauging_bounded, ?_⟩ <;> decide +kernel

theorem witness_BurstOpens :
    (gauging 0 none none).headReads = true ∧ (gauging 0 none none).pru.burst = none ∧
      ((gauging 0 (some (burst true samples)) none).pru.burst.isSome = true ∧
        (gauging 0 (some (burst true samples)) none).pru.tx = none) ∧
      (∀ t : State, t = { gauging 0 (some (burst true samples)) none with
          pru := { (gauging 0 (some (burst true samples)) none).pru with tx := some ⟨.again, 1, 1, 1⟩ } } →
        t.headReads = true ∧ t.pru.burst.isSome = true ∧ t.pru.tx.isSome = true) := by
  refine ⟨?_, ?_, ?_, ?_⟩
  · decide +kernel
  · decide +kernel
  · decide +kernel
  · rintro t rfl; decide +kernel

theorem witness_SampleStored :
    (gauging 0 (some (burst true [])) none).headReads = true ∧
      (gauging 0 (some (burst true [])) none).pru.burst = some (burst true []) ∧ 3 < (burst true []).n ∧
      (burst true []).n ≤ 4 ∧ (gauging 0 none none).headReads = true ∧ (gauging 0 none none).pru.burst = none := by
  decide +kernel

theorem witness_BurstConcludes :
    (gauging 0 (some (burst true samples)) none).Bounded ∧ (gauging 0 (some (burst true samples)) none).headReads = true ∧
      (gauging 0 (some (burst true samples)) none).pru.burst = some (burst true samples) ∧
      (burst true samples).tool.isSome = true ∧ (gauging 0 (some (burst true samples)) none).pru.gauge = some ⟨1, 0⟩ ∧
      (gauging 0 (some (burst true samples)) none).pru.tx = none ∧
      (gauging 0 (some (burst true samples)) none).entry? 1 = some (ent 1 .atGauge none) ∧
      (gauging 0 (some (burst true samples)) none).windowOpen 1 = false ∧
      (gauging 0 (some (burst true samples)) none).kind? 0 = some kindOne ∧ kindOne.bursts = 1 ∧
      4 ≤ (burst true samples).valid.length := by
  refine ⟨gauging_bounded, ?_⟩
  decide +kernel

/-- The first burst of tool 1 with the length given. -/
def firstOf (cl : Nat) : FirstBurst := ⟨1, cl, 62533, 28, true, false⟩

theorem witness_BurstEndsOtherwise :
    ((gauging 0 none none).headReads = true ∧ (gauging 0 none none).pru.burst = none) ∧
    (∀ t : State, t = { base with pru := { base.pru with burst := some (burst true []) } } →
      t.headReads = true ∧ t.pru.burst = some (burst true []) ∧ t.pru.tx = none ∧ t.pru.gauge = none) ∧
    ((gauging 2 (some (burst true [])) none).gaugeSettled 1 = true ∧ (gauging 2 (some (burst true [])) none).kind? 2 = none) ∧
    ((gauging 0 (some (burst true (samples.take 3))) none).kind? 0 = some kindOne ∧
      (burst true (samples.take 3)).valid.length < 4) ∧
    ((gauging 1 (some (burst true samples)) none).kind? 1 = some { kindOne with bursts := 2 } ∧
      (gauging 1 (some (burst true samples)) none).gaugeSettled 1 = true ∧ 4 ≤ (burst true samples).valid.length ∧
      (gauging 1 (some (burst true samples)) none).pru.first = none) ∧
    ((gauging 1 (some (burst true samples)) (some (firstOf 1500000))).pru.first = some (firstOf 1500000) ∧
      20 < absDiff 1500000 ((burst true samples).reduce 1 kindOne.alpha (burst true samples).valid).cl) ∧
    ((gauging 1 (some (burst true samples)) (some (firstOf 1523420))).pru.first = some (firstOf 1523420) ∧
      absDiff 1523420 ((burst true samples).reduce 1 kindOne.alpha (burst true samples).valid).cl ≤ 20 ∧
      absDiff 62533 ((burst true samples).reduce 1 kindOne.alpha (burst true samples).valid).cr ≤ 20 ∧
      (gauging 1 (some (burst true samples)) (some (firstOf 1523420))).entry? 1 =
        some { ent 1 .atGauge none with kind := 1 }) ∧
    (gauging 1 (some (burst true samples)) (some (firstOf 1523420))).Bounded := by
  refine ⟨?_, ?_, ?_, ?_, ?_, ?_, ?_, gauging_bounded⟩
  · decide +kernel
  · rintro t rfl; decide +kernel
  · decide +kernel
  · decide +kernel
  · decide +kernel
  · decide +kernel
  · decide +kernel

/-- The queues and the send of the hall line as given. -/
def line (u : List Urgent) (r : List Frame) (x : Option Send) (s : State) : State :=
  { s with hli := { s.hli with urgent := u, routine := r, send := x } }

/-- A SEEK of taker transfer 52 at its attempt k. -/
def seekSend (k : Nat) (o : FrameOwner) : Send := ⟨.seek 52 (.kind 0) .attended 60, o, k, .driving⟩

theorem witness_FramesAreSent :
    (∀ t : State, t = line [⟨.whereis 1, .unowned⟩] [] none base →
      t.running = true ∧ t.hli.send = none ∧ t.stc.node = .run ∧ t.hli.urgent = [⟨.whereis 1, .unowned⟩]) ∧
    (∀ t : State, t = line [] [.whereis 1] none base → t.hli.urgent = [] ∧ t.hli.routine = [.whereis 1]) ∧
    (∀ t : State, t = line [] [.announce base.joinReport] none (inNode .joining base) →
      t.running = true ∧ t.stc.node = .joining ∧ t.hli.routine = [.announce base.joinReport]) ∧
    ((inNode .joining base).hli.routine.all (fun f => !f.isAnnounce) = true ∧
      (inNode .idConflict base).running = true ∧ (inNode .idConflict base).hli.send = none) ∧
    (∀ t : State, t = line [] [] (some { seekSend 1 (.taker 52) with phase := .quietWait }) base →
      t.hli.send = some ⟨.seek 52 (.kind 0) .attended 60, .taker 52, 1, .quietWait⟩) ∧
    (∀ t : State, t = line [] [] (some (seekSend 7 (.taker 52))) base →
      t.running = true ∧ t.hli.send = some ⟨.seek 52 (.kind 0) .attended 60, .taker 52, 7, .driving⟩ ∧ t.readerBusy) ∧
    (∀ t : State, t = line [] [] (some { seekSend 7 (.taker 52) with phase := .backoff 7 }) base →
      t.hli.send = some ⟨.seek 52 (.kind 0) .attended 60, .taker 52, 7, .backoff 7⟩) ∧
    (∀ t : State, t = withTaker (taking .seeking 2 [] none) (line [] [] (some (seekSend 8 (.taker 52))) base) →
      t.hli.send = some ⟨.seek 52 (.kind 0) .attended 60, .taker 52, 8, .driving⟩ ∧ t.readerBusy ∧
        t.taker? 52 = some (taking .seeking 2 [] none) ∧ (taking .seeking 2 [] none).state = .seeking) := by
  refine ⟨?_, ?_, ?_, ?_, ?_, ?_, ?_, ?_⟩
  · rintro t rfl; decide
  · rintro t rfl; decide
  · rintro t rfl; exact ⟨rfl, rfl, rfl⟩
  · decide
  · rintro t rfl; rfl
  · rintro t rfl; exact ⟨rfl, rfl, rfl, rfl⟩
  · rintro t rfl; rfl
  · rintro t rfl; exact ⟨rfl, ⟨rfl, rfl⟩, rfl, rfl⟩

theorem witness_ConflictEnters :
    base.running = true ∧ base.stc.node = .run ∧ base.readerBusy ∧ base.cue.givers = [] ∧ base.cue.takers = [] ∧
      (inNode .idConflict base).stc.node = .idConflict ∧ (inNode .idConflict base).running = true :=
  ⟨rfl, rfl, ⟨rfl, rfl⟩, rfl, rfl, rfl, rfl⟩

/-- An ANNOUNCE of 48 pockets with the RAM-valid flag given. -/
def report (valid : Bool) : Announce :=
  { ramValid := valid, headFitted := true, locks := true, doors := true, crib := 40, magazine := 8, nodeState := 4 }

/-- A cached entry of tool 1 at station 30. -/
def cachedTool : State := withEntry (theirs 1 7 .stocked).cached base

theorem cachedTool_bounded : cachedTool.Bounded := withEntry_bounded base_bounded rfl

theorem witness_AnnounceActs :
    (48 < 40 + 9 ∧ cachedTool.Bounded) ∧
    (cachedTool.hallTaken 30 = true ∧ (report false).crib + (report false).magazine ≤ 48 ∧ (report false).nodeState = 4 ∧
      cachedTool.readerBusy ∧ (report false).ramValid = false ∧ cachedTool.giversOf 30 = [] ∧ cachedTool.takersOf 30 = []) ∧
    (∀ t : State, t = withGiver (giving .transit none none) base →
      t.Bounded ∧ t.hallTaken 30 = true ∧ t.giversOf 30 = [giving .transit none none] ∧ t.takersOf 30 = [] ∧
        t.frameQueued (.take 30 52) = false ∧ t.hli.urgent.length < 8 ∧ t.stc.node ≠ .idConflict) := by
  refine ⟨⟨by decide, cachedTool_bounded⟩, ⟨?_, ?_, ?_, ⟨rfl, rfl⟩, ?_, ?_, ?_⟩, ?_⟩
  · decide
  · decide
  · decide
  · decide
  · decide +kernel
  · decide +kernel
  · rintro t rfl
    exact ⟨{ base_bounded with transfers := by decide }, by decide +kernel⟩

/-- The TDR of a record as received. -/
def tdr (r : Record) : Tdr := r.toTdr

theorem witness_RecordsMerge :
    (recordOfTdr 30 { tdr (theirs 1 9 .stocked) with tool := 0 } = none) ∧
    (base.hallTaken 30 = true ∧ base.takeTdr 30 (tdr (theirs 1 9 .stocked)) = some (theirs 1 9 .stocked) ∧
      base.adoptionOpen 1 = false ∧ base.entry? 1 = none ∧ base.trg.entries.length < 256) ∧ base.readerBusy ∧
    (cachedTool.hallTaken 30 = true ∧ cachedTool.takeTdr 30 (tdr (theirs 1 8 .stocked)) = some (theirs 1 8 .stocked) ∧
      cachedTool.entry? 1 = some (theirs 1 7 .stocked).cached ∧ (theirs 1 7 .stocked).cached.custody = .foreign ∧
      versionNewer 8 7 = true) ∧ cachedTool.readerBusy ∧
    (absentTool.hallTaken 30 = true ∧ absentTool.takeTdr 30 (tdr (theirs 1 6 .stocked)) = some (theirs 1 6 .stocked) ∧
      absentTool.entry? 1 = some (ent 1 .away none) ∧ absentTool.adoptionOpen 1 = false ∧
      absentTool.transitChecking 1 = false ∧ (theirs 1 6 .stocked).conflict = false ∧ absentTool.checkPending 1 = false ∧
      versionNewer 6 7 = false ∧ (6 - 7 : Version).toNat ≠ 32768 ∧ absentTool.stc.node ≠ .idConflict ∧
      absentTool.hli.routine.length < 16) ∧ absentTool.readerBusy := by
  refine ⟨?_, ?_, ⟨rfl, rfl⟩, ?_, ⟨rfl, rfl⟩, ?_, ⟨rfl, rfl⟩⟩ <;> decide +kernel

theorem witness_WhereisAnswered :
    (absentTool.hallTaken 30 = true ∧ absentTool.entry? 2 = none) ∧
    (cachedTool.hallTaken 30 = true ∧ cachedTool.entry? 1 = some (theirs 1 7 .stocked).cached) ∧
    (absentTool.entry? 1 = some (ent 1 .away none) ∧ (ent 1 .away none).custody ≠ .foreign ∧
      absentTool.adoptionOpen 1 = false ∧ absentTool.stc.node ≠ .idConflict ∧
      absentTool.hli.routine.any (Frame.isRecordOf 1) = false) ∧
    (∀ t : State, t = line [] [.record (ent 1 .lost none).record] none absentTool →
      t.hli.routine.any (Frame.isRecordOf 1) = true) := by
  refine ⟨?_, ?_, ?_, ?_⟩
  · decide +kernel
  · decide +kernel
  · decide +kernel
  · rintro t rfl; rfl

/-! ### Witnesses: custody transfers and claim windows -/

/-- Tool 1 STOCKED in crib pocket 0. -/
def cribTool : State := stock 0 1 base

theorem stock_bounded {p : PocketNo} {t : ToolId} : (stock p t base).Bounded :=
  { base_bounded with
    register := by simp [stock, modPocket, putPocket, putEntry, base, State.reset, Trg.empty, insertEntry]
    entries := by simp [stock, modPocket, putPocket, putEntry, base, State.reset, Trg.empty, insertEntry]
    pockets := by simpa [stock, modPocket, putPocket, putEntry] using base_bounded.pockets }

theorem witness_SeekIsOffered :
    ((withGiver (giving .offered none none) base).giver? 30 52).isSome = true ∧ base.kind? 2 = none ∧ modeOfCode 2 = none ∧
    (modeOfCode 1 = some .unattended ∧ base.candidates (.tool 1) .unattended 60 = []) ∧
    (cribTool.hallTaken 30 = true ∧ cribTool.giver? 30 52 = none ∧ cribTool.knowsWant (.kind 0) = true ∧
      modeOfCode 0 = some .attended ∧ cribTool.candidates (.kind 0) .attended 100 = [ent 1 .stocked (some 0)] ∧
      cribTool.openTransfers < 8 ∧ cribTool.departureRoom = true ∧ cribTool.hli.urgent.length < 8 ∧
      cribTool.stc.node ≠ .idConflict ∧ cribTool.entry? 1 = some (ent 1 .stocked (some 0)) ∧
      cribTool.reservable 0 = true) := by
  decide +kernel

theorem witness_OfferIsRanked :
    (base.hallTaken 30 = true ∧ base.taker? 52 = none) ∧
    ((withTaker (taking .seeking 2 [] none) base).hallTaken 30 = true ∧
      (withTaker (taking .seeking 2 [] none) base).taker? 52 = some (taking .seeking 2 [] none) ∧
      recordOfTdr 30 { tdr (theirs 1 21 .stocked) with custodian := 31 } = none ∧
      recordOfTdr 30 (tdr { theirs 1 21 .stocked with life := 59 }) = some { theirs 1 21 .stocked with life := 59 } ∧
      59 < (taking .seeking 2 [] none).minLife ∧
      recordOfTdr 30 (tdr { theirs 1 21 .stocked with life := 60 }) = some { theirs 1 21 .stocked with life := 60 } ∧
      (theirs 1 21 .stocked).heard = .stocked ∧ (theirs 1 21 .stocked).condition = .ready ∧
      wantAccepts (.kind 0) 1 0 = true ∧ (taking .seeking 2 [] none).mode = .attended) := by
  decide +kernel

/-- Tool 1 of pocket 0 under a giver transfer in OFFERED. -/
def offering : State :=
  withGiver (giving .offered (some 0) (some 0))
    (modPocket 0 (fun k => { k with state := .reserved }) (withEntry (ent 1 .reserved (some 0)) base))

theorem offering_bounded : offering.Bounded := by constructor <;> decide +kernel

theorem witness_TakeReleases :
    (offering.Bounded ∧ offering.readerBusy ∧ offering.readerElsewhere 0) ∧
    (offering.hallTaken 30 = true ∧ offering.giver? 30 52 = some (giving .offered (some 0) (some 0)) ∧
      offering.entry? 1 = some (ent 1 .reserved (some 0)) ∧ (offering.pocket 0).latch = .locked) ∧
    (withGiver (giving .releasing (some 0) (some 9)) base).giver? 30 52 = some (giving .releasing (some 0) (some 9)) ∧
    (base.giver? 30 52 = none ∧ base.hli.urgent.length < 8 ∧ base.stc.node ≠ .idConflict) := by
  refine ⟨⟨offering_bounded, ⟨rfl, rfl⟩, elsewhere_of rfl (by decide)⟩, ?_, ?_, ?_⟩ <;> decide +kernel

theorem witness_LapseEnds :
    (base.hallTaken 30 = true ∧ base.giver? 30 52 = none ∧ base.taker? 52 = none) ∧ base.readerBusy ∧
    ((withTaker (taking .seeking 2 [offered] none) base).giver? 30 52 = none ∧
      (withTaker (taking .seeking 2 [offered] none) base).taker? 52 = some (taking .seeking 2 [offered] none)) ∧
    (offering.Bounded ∧ offering.readerBusy) ∧
    (offering.giver? 30 52 = some (giving .offered (some 0) (some 0)) ∧ offering.taker? 52 = none ∧
      (offering.pocket 0).state = .reserved ∧ offering.entry? 1 = some (ent 1 .reserved (some 0))) := by
  refine ⟨?_, ⟨rfl, rfl⟩, ?_, ⟨offering_bounded, ⟨rfl, rfl⟩⟩, ?_⟩ <;> decide +kernel

/-- Tool 1 in TRANSIT under a giver transfer. -/
def carrying : State := withGiver (giving .transit none none) (withEntry { ent 1 .transit none with awayTimer := some 0 } base)

theorem carrying_bounded : carrying.Bounded :=
  { (withEntry_bounded (e := { ent 1 .transit none with awayTimer := some 0 }) base_bounded rfl) with transfers := by decide }

theorem witness_ReleasedAndReceived :
    (recordOfTdr 30 { tdr (theirs 1 22 .transit) with destination := 0 } = none) ∧
    (base.hallTaken 30 = true ∧
      base.takeTdr 30 (tdr { theirs 1 22 .transit with destination := some 5 }) =
        some { theirs 1 22 .transit with destination := some 5 } ∧
      base.adoptionOpen 1 = false ∧ base.entry? 1 = none ∧ base.taker? 52 = none) ∧ base.readerBusy ∧
    ((withTaker (taking .taking 320 [] (some offered)) base).taker? 52 = some (taking .taking 320 [] (some offered)) ∧
      (taking .taking 320 [] (some offered)).counterpart = some 30 ∧
      (taking .taking 320 [] (some offered)).expected = some 1) ∧
    (carrying.Bounded ∧ carrying.readerBusy) ∧
    (carrying.hallTaken 30 = true ∧ carrying.giver? 30 52 = some (giving .transit none none) ∧
      carrying.entry? 1 = some { ent 1 .transit none with awayTimer := some 0 } ∧ carrying.window? 1 = none ∧
      carrying.cue.waiting = [] ∧ carrying.pru.queue.contains 1 = false) := by
  refine ⟨?_, ?_, ⟨rfl, rfl⟩, ?_, ⟨carrying_bounded, ⟨rfl, rfl⟩⟩, ?_⟩ <;> decide +kernel

/-- A taker transfer past SEEKING, its target pocket 16 AWAITING. -/
def awaiting (timer : Nat) : State :=
  withTaker (taking .taking timer [] (some offered))
    (modPocket 16 (fun k => { k with state := .awaiting, latch := .opened, target := some 52 }) base)

theorem takers_bounded {k : Taker} {f : Pocket → Pocket} (hk : k.offers.length ≤ 4) :
    (withTaker k (modPocket 16 f base)).Bounded :=
  { base_bounded with
    pockets := by simpa [withTaker, modPocket, putPocket] using base_bounded.pockets
    transfers := by simp [withTaker, modPocket, putPocket, base, State.reset, Cue.empty]
    offers := fun x hx => by
      have : x = k := by simpa [withTaker, modPocket, putPocket, base, State.reset, Cue.empty] using hx
      exact this ▸ hk }

theorem witness_TakerTimersExpire :
    (∀ os : List Offer, os.length ≤ 4 → (withTaker (taking .seeking 0 os none) base).Bounded ∧
      (withTaker (taking .seeking 0 os none) base).readerElsewhere 16 ∧
      (withTaker (taking .seeking 0 os none) base).running = true ∧
      (withTaker (taking .seeking 0 os none) base).taker? 52 = some (taking .seeking 0 os none) ∧
      (withTaker (taking .seeking 0 os none) base).targetable 16 = true ∧
      ((withTaker (taking .seeking 0 os none) base).pocket 16).latch = .locked ∧
      (withTaker (taking .seeking 0 os none) base).hli.urgent.length < 8 ∧
      (withTaker (taking .seeking 0 os none) base).stc.node ≠ .idConflict) ∧
    ((awaiting 0).Bounded ∧ (awaiting 0).readerElsewhere 16) ∧
    ((awaiting 0).running = true ∧ (awaiting 0).taker? 52 = some (taking .taking 0 [] (some offered)) ∧
      ((awaiting 0).pocket 16).state = .awaiting ∧ ((awaiting 0).pocket 16).readRequested = false ∧
      (awaiting 0).masked .needFailed = false ∧ (awaiting 0).slk.notices.length < 16) := by
  refine ⟨fun os ho => ⟨{ base_bounded with
      transfers := Nat.le_of_ble_eq_true rfl
      offers := fun x hx => by rw [List.mem_singleton.1 (show x ∈ [taking .seeking 0 os none] from hx)]; exact ho },
    elsewhere_of rfl (by decide), rfl, rfl, ?_, ?_, Nat.le_of_ble_eq_true rfl, fun e => NodeState.noConfusion e⟩,
    ⟨takers_bounded (Nat.zero_le _), elsewhere_of rfl (by decide)⟩, ?_⟩
  · show base.targetable 16 = true
    decide +kernel
  · show (base.pocket 16).latch = .locked
    decide +kernel
  · decide +kernel

/-- A giver transfer in RELEASING whose release timer stands at 0. -/
def releasing : State :=
  withGiver (giving .releasing (some 0) (some 0))
    (modPocket 0 (fun k => { k with state := .releasing, latch := .opened }) (withEntry (ent 1 .releasing (some 0)) base))

theorem releasing_bounded : releasing.Bounded := by constructor <;> decide +kernel

theorem witness_GiverTimersExpire :
    (offering.Bounded ∧ releasing.Bounded ∧ releasing.readerElsewhere 0) ∧
    (offering.running = true ∧ offering.giver? 30 52 = some (giving .offered (some 0) (some 0)) ∧
      (offering.pocket 0).state = .reserved ∧ offering.entry? 1 = some (ent 1 .reserved (some 0))) ∧
    (releasing.running = true ∧ releasing.giver? 30 52 = some (giving .releasing (some 0) (some 0)) ∧
      releasing.present 0 = true ∧ (releasing.pocket 0).door = .closed ∧ (releasing.pocket 0).readRequested = false) := by
  refine ⟨⟨offering_bounded, releasing_bounded, elsewhere_of rfl (by decide)⟩, ?_, ?_⟩ <;> decide +kernel

/-- Tool 1 AWAY with its timer at 0. -/
def overdue : State := withEntry { ent 1 .away none with awayTimer := some 0 } base

/-- The transit check of tool 1 has run out. -/
def checked : State := withWindow ⟨1, .transitCheck, 0⟩ carrying

theorem checked_bounded : checked.Bounded := { carrying_bounded with windows := by decide }

theorem witness_AwayTimersExpire :
    (overdue.Bounded ∧ carrying.Bounded ∧ checked.Bounded ∧ checked.readerBusy) ∧
    (overdue.running = true ∧ overdue.entry? 1 = some { ent 1 .away none with awayTimer := some 0 } ∧
      overdue.adoptionOpen 1 = false) ∧
    (carrying.entry? 1 = some { ent 1 .transit none with awayTimer := some 0 } ∧ carrying.transitsDue = [1] ∧
      carrying.cue.windows.length < 4 ∧ carrying.hli.urgent.length < 8 ∧ carrying.stc.node ≠ .idConflict) ∧
    (checked.running = true ∧ checked.entry? 1 = some { ent 1 .transit none with awayTimer := some 0 } ∧
      checked.window? 1 = some ⟨1, .transitCheck, 0⟩ ∧ checked.cue.waiting = []) := by
  refine ⟨⟨withEntry_bounded base_bounded rfl, carrying_bounded, checked_bounded, ⟨rfl, rfl⟩⟩, ?_, ?_, ?_⟩ <;> decide +kernel

/-- The adoption of tool 1 in pocket 0 has run out, with the fallback and the heard record given. -/
def adopting (fb h : Option Record) : State :=
  withWindow ⟨1, .adoption (.pocket 0) fb h, 0⟩ (withEntry (adoptedEntry 5 1 0 (.pocket 0)) base)

theorem witness_AdoptionSettles :
    ∀ fb h : Option Record, (adopting fb h).Bounded ∧ (adopting fb h).running = true ∧
      (adopting fb h).window? 1 = some ⟨1, .adoption (.pocket 0) fb h, 0⟩ ∧ (adopting fb h).cue.waiting = [] ∧
      (adopting fb h).readerBusy ∧ (adopting fb h).entry? 1 = some (adoptedEntry 5 1 0 (.pocket 0)) ∧
      (theirs 1 7 .away).kind = (adoptedEntry 5 1 0 (.pocket 0)).kind ∧ (theirs 1 7 .away).heard ≠ .stocked ∧
      (theirs 1 7 .away).heard ≠ .atGauge ∧ (theirs 1 7 .away).conflict = false :=
  fun fb h => ⟨{ (withEntry_bounded (e := adoptedEntry 5 1 0 (.pocket 0)) base_bounded rfl) with windows := Nat.le_of_ble_eq_true rfl }, rfl, rfl, rfl,
    ⟨rfl, rfl⟩, rfl, rfl, by decide, by decide, rfl⟩

/-! ### Witnesses: the station link -/

/-- The state with a reply being sent. -/
def replying (s : State) : State := s.replied 0x10 .ok .none

theorem witness_ReceiverActs :
    (linkCode (.need 16 0 0 0 60) = some 0x12 ∧ linkCode (.unknownCommand 0x20 []) = some 0x20) ∧
    (loading.stc.node = .loading ∧ (after .mainPowerLoss base).stc.powered = false) ∧
    ((replying base).stc.powered = true ∧ (replying base).stc.node ≠ .loading ∧ (replying base).slk.reply.isSome = true) ∧
    ((hunting 0).stc.node = .hunting ∧ (hunting 0).slk.reply = none ∧ (inNode .configFault base).stc.node = .configFault ∧
      (inNode .configFault base).stc.powered = true ∧ (inNode .configFault base).slk.reply = none) ∧
    base.takesCommands ∧ commandLength 0x20 = none ∧ (commandLength 0x11).isSome = true := by
  refine ⟨?_, ?_, ?_, ?_, base_takes, ?_, ?_⟩ <;> decide +kernel

theorem witness_ClearClears :
    base.stc.powered = true ∧ base.slk.reply = none ∧ base.running = true ∧
      ((hunting 0).stc.powered = true ∧ (hunting 0).slk.reply = none ∧ (hunting 0).stc.node = .hunting) ∧
      ((inNode .configFault base).stc.powered = true ∧ (inNode .configFault base).stc.node = .configFault) := by
  decide +kernel

theorem witness_QueuesAreRead : base.takesCommands := base_takes

/-- The attention output in PULSE mode. -/
def pulsing (p : Pulse) (n : Nat) : State :=
  { base with stc := { base.stc with config := some { conf with attention := .pulse } },
              slk := { base.slk with pulse := p, owed := n } }

theorem witness_AttentionFollows :
    ((pulsing .asserted 1).stc.powered = true ∧ (pulsing .asserted 1).stc.node ≠ .loading ∧
      (pulsing .asserted 1).slk.pulse = .asserted) ∧
    ((pulsing .released 0).stc.powered = true ∧ (pulsing .released 0).stc.node ≠ .loading ∧
      (pulsing .released 0).slk.pulse = .released) ∧
    (base.stc.config = some conf ∧ conf.attention = .level) ∧ loading.stc.config = none := by
  decide +kernel

/-- n taker transfers in SEEKING for pockets outside every module. -/
def busyTakers (n : Nat) : State :=
  { base with cue := { base.cue with takers := (List.range n).map (fun i => { taking .seeking 2 [] none with seek := i + 1, pocket := 100 + i }) } }

theorem witness_NeedAndCancel :
    (base.takesCommands ∧ wantOfCodes 0 64 = none ∧ wantOfCodes 0 63 = some (.kind 63) ∧ modeOfCode 1 = some .unattended) ∧
    (base.needable 0 = false ∧ base.needable 16 = true) ∧
    ((busyTakers 8).takesCommands ∧ (busyTakers 8).needable 16 = true ∧ 8 ≤ (busyTakers 8).openTransfers) ∧
    ((busyTakers 7).takesCommands ∧ (busyTakers 7).needable 16 = true ∧ (busyTakers 7).openTransfers < 8 ∧
      (busyTakers 7).hli.urgent.length < 8 ∧ (busyTakers 7).stc.node ≠ .idConflict) ∧
    base.takerAt? 16 = none ∧
    ((withTaker (taking .seeking 2 [] none) base).takesCommands ∧ (withTaker (taking .seeking 2 [] none) base).readerBusy ∧
      (withTaker (taking .seeking 2 [] none) base).takerAt? 16 = some (taking .seeking 2 [] none)) ∧
    ((awaiting 9).Bounded ∧ (awaiting 9).takesCommands ∧ (awaiting 9).readerBusy) ∧
    ((awaiting 9).takerAt? 16 = some (taking .taking 9 [] (some offered)) ∧
      (taking .taking 9 [] (some offered)).current = some offered ∧ ((awaiting 9).pocket 16).state = .awaiting ∧
      ((awaiting 9).pocket 16).readRequested = false ∧ (awaiting 9).hli.urgent.length < 8 ∧
      (awaiting 9).stc.node ≠ .idConflict) := by
  refine ⟨⟨base_takes, ?_⟩, ?_, ⟨⟨rfl, rfl⟩, ?_⟩, ⟨⟨rfl, rfl⟩, ?_⟩, ?_, ⟨⟨rfl, rfl⟩, ⟨rfl, rfl⟩, rfl⟩,
    ⟨takers_bounded (Nat.zero_le _), ⟨rfl, rfl⟩, ⟨rfl, rfl⟩⟩, ?_⟩ <;> decide +kernel

/-- Tool 1 STOCKED in magazine pocket 16. -/
def magTool : State := stock 16 1 base

/-- The stage of tool 1 in pocket 16 with token 8. -/
def staged (v : Version) : State :=
  { magTool with slk := { magTool.slk with stage := some ⟨16, 1, v, 1523306, 62535, 8, false⟩, token := 8 } }

/-- The state with SEQ_ERROR set. -/
def seqError (s : State) : State := { s with slk := { s.slk with sticky := { s.slk.sticky with seqError := true } } }

theorem witness_StageAndCommit :
    (magTool.takesCommands ∧ (seqError magTool).takesCommands ∧ (staged 7).takesCommands) ∧
    ((seqError magTool).slk.sticky.seqError = true ∧ magTool.slk.sticky.seqError = false ∧ magTool.present 32 = false ∧
      magTool.isMagazine 0 = false ∧ magTool.present 17 = true ∧ magTool.isMagazine 17 = true ∧
      (magTool.pocket 17).state ≠ .stocked) ∧
    (magTool.present 16 = true ∧ magTool.isMagazine 16 = true ∧ (magTool.pocket 16).state = .stocked ∧
      (magTool.pocket 16).openRelease = false ∧ (magTool.pocket 16).verified = true ∧
      (magTool.pocket 16).contents = some 1 ∧ magTool.entry? 1 = some (ent 1 .stocked (some 16)) ∧
      magTool.checkPending 1 = false ∧ magTool.windowOpen 1 = false ∧ magTool.kind? 0 = some kindOne) ∧
    (∀ t : State, t = putEntry { ent 1 .stocked (some 16) with life := 0 } magTool →
      t.entry? 1 = some { ent 1 .stocked (some 16) with life := 0 }) ∧
    (magTool.slk.stage = none ∧ (staged 7).slk.stage = some ⟨16, 1, 7, 1523306, 62535, 8, false⟩ ∧
      (staged 6).slk.stage = some ⟨16, 1, 6, 1523306, 62535, 8, false⟩ ∧
      (staged 7).entry? 1 = some (ent 1 .stocked (some 16)) ∧ (ent 1 .stocked (some 16)).version ≠ 6 ∧
      1523306 - min (kindOne.wearRate * (ent 1 .stocked (some 16)).used / 100) kindOne.wearLimit = 1523306) := by
  refine ⟨⟨⟨rfl, rfl⟩, ⟨rfl, rfl⟩, ⟨rfl, rfl⟩⟩, ?_, ?_, ?_, ?_⟩
  · decide +kernel
  · decide +kernel
  · rintro t rfl; decide +kernel
  · decide +kernel

theorem loaded_bounded {d : Door} : (loaded d).Bounded := by cases d <;> constructor <;> decide +kernel

/-- Pocket 16 LOADED with tool 1, life 60 and remainder 0. -/
def lastHour : State := putEntry { ent 1 .stocked (some 16) with life := 60 } (loaded .closed)

theorem lastHour_bounded : lastHour.Bounded := by constructor <;> decide +kernel

/-- The loaded tool of pocket 16 after a DRIFT. -/
def drifted : State := modPocket 16 (fun x => { x with mark := some ⟨7, 1523306, 62535, true⟩ }) (loaded .closed)

theorem drifted_bounded : drifted.Bounded := by constructor <;> decide +kernel

theorem witness_UseActs :
    ((loaded .closed).takesCommands ∧ (loaded .closed).Bounded ∧ lastHour.takesCommands ∧ lastHour.Bounded) ∧
    ((loaded .closed).present 32 = false ∧ (loaded .closed).present 16 = true ∧ (loaded .closed).isMagazine 16 = true ∧
      ((loaded .closed).pocket 17).mark = none ∧ (loaded .closed).present 17 = true ∧ (loaded .closed).isMagazine 17 = true) ∧
    (drifted.takesCommands ∧ drifted.Bounded ∧ (drifted.pocket 16).mark = some ⟨7, 1523306, 62535, true⟩ ∧
      (drifted.pocket 16).contents = some 1 ∧ drifted.entry? 1 = some (ent 1 .stocked (some 16)) ∧
      drifted.kind? 0 = some kindOne ∧ (0 + min 3601 3600) / 60 = 60 ∧ ¬(kindOne.reserve ≤ 100 ∧ 100 - 60 < kindOne.reserve) ∧
      60 < 100) ∧
    (((loaded .closed).pocket 16).mark = some ⟨7, 1523306, 62535, false⟩ ∧ ((loaded .closed).pocket 16).contents = some 1 ∧
      (loaded .closed).entry? 1 = some (ent 1 .stocked (some 16)) ∧ (loaded .closed).kind? 0 = some kindOne ∧
      ¬(kindOne.reserve ≤ 100 ∧ 100 - 1 < kindOne.reserve) ∧ 1 < 100 ∧ (0 + min 60 3600) / 60 = 1 ∧
      Nat.blt 1523306 (1523306 - min (kindOne.wearRate * min 65535 (0 + 1) / 100) kindOne.wearLimit + 10) = true) ∧
    (lastHour.present 16 = true ∧ lastHour.isMagazine 16 = true ∧ (lastHour.pocket 16).mark = some ⟨7, 1523306, 62535, false⟩ ∧
      (lastHour.pocket 16).contents = some 1 ∧ lastHour.entry? 1 = some { ent 1 .stocked (some 16) with life := 60 } ∧
      60 ≤ (0 + 3600) / 60 ∧ lastHour.windowOpen 1 = false ∧ lastHour.stc.node ≠ .idConflict ∧
      lastHour.slk.notices.length < 15 ∧ lastHour.masked .lifeLow = false ∧ lastHour.masked .lifeOut = false) := by
  refine ⟨⟨⟨rfl, rfl⟩, loaded_bounded, ⟨rfl, rfl⟩, lastHour_bounded⟩, ?_, ⟨⟨rfl, rfl⟩, drifted_bounded, ?_⟩, ?_, ?_⟩ <;>
    decide +kernel

/-- 64 tools are LOST, as many as R4 lets stand outside, and tool 100 stands in pocket 16. -/
def crowded : State :=
  modPocket 16 (Pocket.occupied 100)
    { base with trg := { base.trg with
        entries := (List.range 64).map (fun i => ent (i + 1) .lost none) ++ [ent 100 .stocked (some 16)] } }

theorem witness_FreeReleases :
    (magTool.takesCommands ∧ magTool.readerElsewhere 16 ∧ magTool.readerElsewhere 17 ∧ crowded.takesCommands ∧
      crowded.readerElsewhere 16) ∧
    (magTool.present 32 = false ∧ magTool.present 17 = true ∧ magTool.isMagazine 17 = true ∧
      (magTool.pocket 17).state ≠ .stocked) ∧
    ((crowded.pocket 16).state = .stocked ∧ (crowded.pocket 16).openRelease = false ∧
      (crowded.pocket 16).contents = some 100 ∧ crowded.entry? 100 = some (ent 100 .stocked (some 16)) ∧
      crowded.departureRoom = false) ∧
    (magTool.departureRoom = true ∧ (ent 1 .stocked (some 16)).condition = .ready ∧ magTool.kind? 0 = some kindOne ∧
      kindOne.reserve ≤ (ent 1 .stocked (some 16)).life ∧ (magTool.pocket 16).latch = .locked ∧
      magTool.pkc.pockets.length = 48) := by
  refine ⟨⟨⟨rfl, rfl⟩, elsewhere_of rfl (by decide), elsewhere_of rfl (by decide), ⟨rfl, rfl⟩, elsewhere_of rfl (by decide)⟩,
    ?_, ?_, ?_⟩ <;> decide +kernel

/-- Tool 1 with the custody and the condition given. -/
def condTool (c : Custody) (x : Condition) : State := withEntry { ent 1 c none with condition := x } base

theorem witness_ToolActs :
    (base.takesCommands ∧ toolIdValid 281474976710654 = true ∧ base.entry? 281474976710654 = none ∧
      (base.pocket 32).state = .absent ∧ (base.pocket 32).contents = none ∧ (base.pocket 0).state ≠ .absent) ∧
    (magTool.takesCommands ∧ magTool.entry? 1 = some (ent 1 .stocked (some 16))) ∧
    (∀ c x, (condTool c x).takesCommands ∧ (condTool c x).Bounded ∧ (condTool c x).readerBusy ∧
      (condTool c x).entry? 1 = some { ent 1 c none with condition := x } ∧ (condTool c x).adoptionOpen 1 = false) :=
  ⟨⟨base_takes, by decide +kernel, by decide +kernel, by decide +kernel, by decide +kernel, by decide +kernel⟩,
    ⟨⟨rfl, rfl⟩, by decide +kernel⟩,
    fun _ _ => ⟨⟨rfl, rfl⟩, withEntry_bounded base_bounded rfl, ⟨rfl, rfl⟩, rfl, rfl⟩⟩

theorem witness_KeyedCommandsAct :
    (base.takesCommands ∧ base.present 48 = false ∧ base.present 31 = true) ∧
    (toolIdValid 0 = false ∧ toolIdValid 1 = true ∧ base.entry? 1 = none) ∧
    (cachedTool.takesCommands ∧ cachedTool.readerBusy ∧ cachedTool.entry? 1 = some (theirs 1 7 .stocked).cached ∧
      (theirs 1 7 .stocked).cached.custody = .foreign ∧ cachedTool.cue.waiting = [] ∧
      ∀ p, p < 48 → (cachedTool.pocket p).vacated = none) ∧
    (clockInRange 2199 12 32 0 0 0 = false ∧ clockInRange 2199 12 31 23 59 59 = true ∧ base.cck.trust = true ∧
      lastSecond.takesCommands ∧ lastSecond.cck.trust = false) := by
  refine ⟨⟨base_takes, ?_⟩, ?_, ⟨⟨rfl, rfl⟩, ⟨rfl, rfl⟩, ?_⟩, ?_, ?_, ?_, ⟨rfl, rfl⟩, ?_⟩ <;> decide +kernel

/-! ### Commands that WellFormed refuses, one for each check -/

/-- A TDR of 35 zero bytes. -/
def zeroTdr : Tdr := Tdr.decode (List.replicate 35 0)

theorem test_wf_refuses_operands :
    [Instr.huntProbe (some ⟨true, true, true, 256, []⟩), .huntProbe (some ⟨true, true, true, 8, List.replicate 9 false⟩),
      .moduleSilent 6, .moduleReturn 6 [], .moduleReturn 0 (List.replicate 9 ⟨false, false⟩), .moduleChanged 6,
      .lockFault 48, .latchPositionReached 48, .doorOpening 48, .doorClosing 48, .pressReported 48, .pocketTimerExpiry 48,
      .readAttemptEnd (.tag 281474976710656 0), .readAttemptEnd (.tag 1 64), .awayTimerExpiry 0,
      .transitTimerExpiry 281474976710655, .transitCheckExpiry 0, .claimWindowExpiry 281474976710655, .windowTimerExpiry 256,
      .deadlineExpiry 256, .holdTimerExpiry 0 0, .holdTimerExpiry 30 256, .releaseTimerExpiry 251 0,
      .releaseTimerExpiry 30 256].map Instr.wf = List.replicate 24 false := by decide +kernel

theorem test_wf_refuses_head_messages :
    [Instr.headTag 281474976710656 0, .headTag 1 256, .burstStart 256 false none, .burstStart 256 false (some 0),
      .burstStart 4 false (some 32768), .burstStart 4 false (some (-32769)), .burstStart 4 false (some (-32768)),
      .sample 256 0 0 true, .sample 0 2147483648 0 true, .sample 0 0 (-2147483649) true].map Instr.wf =
      List.replicate 10 false := by decide +kernel

theorem test_wf_refuses_frames :
    [Instr.announceReceived 256 30 ⟨true, true, true, true, 0, 0, 5⟩, .announceReceived 0 0 ⟨true, true, true, true, 0, 0, 5⟩,
      .announceReceived 0 30 ⟨true, true, true, true, 256, 0, 5⟩, .announceReceived 0 30 ⟨true, true, true, true, 0, 256, 5⟩,
      .announceReceived 0 30 ⟨true, true, true, true, 0, 0, 256⟩,
      .seekReceived 251 0 (.kind 0) 0 0, .seekReceived 30 256 (.kind 0) 0 0, .seekReceived 30 0 (.kind 281474976710656) 0 0,
      .seekReceived 30 0 (.tool 281474976710656) 0 0, .seekReceived 30 0 (.kind 0) 256 0, .seekReceived 30 0 (.kind 0) 0 65536,
      .offerReceived 0 0 zeroTdr, .offerReceived 30 256 zeroTdr, .offerReceived 30 0 { zeroTdr with life := 65536 },
      .takeReceived 0 0, .takeReceived 30 256, .lapseReceived 0 0 .timeout, .lapseReceived 30 256 .timeout,
      .releasedReceived 0 0 zeroTdr, .releasedReceived 30 256 zeroTdr, .releasedReceived 30 0 { zeroTdr with kind := 256 },
      .receivedFrame 0 0 1 1, .receivedFrame 30 256 1 1, .receivedFrame 30 0 281474976710656 1,
      .recordReceived 0 zeroTdr, .recordReceived 30 { zeroTdr with used := 65536 }, .whereisReceived 0 1,
      .whereisReceived 30 281474976710656].map Instr.wf = List.replicate 28 false := by decide +kernel

theorem test_wf_refuses_tdrs :
    [{ zeroTdr with tool := 281474976710656 }, { zeroTdr with kind := 256 }, { zeroTdr with custodian := 256 },
      { zeroTdr with custody := 256 }, { zeroTdr with destination := 256 }, { zeroTdr with condition := 256 },
      { zeroTdr with reason := 256 }, { zeroTdr with cl := 4294967296 }, { zeroTdr with cr := 4294967296 },
      { zeroTdr with runout := 4294967296 }, { zeroTdr with presetStation := 256 }, { zeroTdr with presetAge := 65536 },
      { zeroTdr with remainder := 256 }].map Tdr.wf = List.replicate 13 false := by decide +kernel

theorem test_wf_refuses_commands :
    [Instr.need 256 0 0 0 0, .need 0 256 0 0 0, .need 0 0 281474976710656 0 0, .need 0 0 0 256 0, .need 0 0 0 0 65536,
      .cancel 256, .stage 256, .commit 256 0, .commit 0 256, .use 256 0, .use 0 65536, .free 256, .tool 256 0 0,
      .tool 0 281474976710656 0, .tool 0 0 256, .tool 0 0 1, .tool 0 0 2, .toolWithhold 256 0 true,
      .toolWithhold 0 281474976710656 true, .toolRelease 256 0 true, .toolRelease 0 281474976710656 true, .hold 256 true,
      .unhold 256 true, .forget 281474976710656 true, .setclock 65536 1 1 0 0 0 true, .setclock 2028 256 1 0 0 0 true,
      .setclock 2028 1 256 0 0 0 true, .setclock 2028 1 1 256 0 0 true, .setclock 2028 1 1 0 256 0 true,
      .setclock 2028 1 1 0 0 256 true, .unknownCommand 256 [], .unknownCommand 0x20 (List.replicate 255 0),
      .unknownCommand 0x13 [0]].map Instr.wf = List.replicate 33 false := by decide +kernel

/-! ### Arithmetic worked in the manual -/

/-- R10: 3 is newer than 65530. -/
theorem test_version_newer : versionNewer 3 65530 = true ∧ versionNewer 65530 3 = false ∧ versionNewer 7 7 = false := by
  decide +kernel

/-- R78: the three examples under the rule. -/
theorem test_corrected :
    corrected 6000000 1000000 1250 100 = 999987 ∧ corrected 6000000 1000000 1250 (-100) = 1000013 ∧
      corrected 6000000 6000000 3000 (-3000) = 6000000 := by decide +kernel

/-- Section 5.4: the first back-offs of stations 12, 30 and 28. -/
theorem test_backoff : backoffSlots 12 1 = 4 ∧ backoffSlots 30 1 = 6 ∧ backoffSlots 28 1 = 4 := by decide +kernel

/-- R159: wear rate 35 and 247 minutes give 86, and 60 under a limit of 60. -/
theorem test_wear :
    deliveredLength kindOne 1523306 247 = 1523220 ∧ deliveredLength { kindOne with wearLimit := 60 } 1523306 247 = 1523246 := by
  decide +kernel

/-- R176: 2000-01-01 is a Saturday; 2100 is no leap year, 2000 and 2028 are. -/
theorem test_calendar :
    weekdayOf 2000 1 1 = 6 ∧ weekdayOf 2028 3 1 = 3 ∧ weekdayOf 2100 3 1 = 1 ∧ monthDays 2100 2 = 28 ∧ monthDays 2028 2 = 29 ∧
      monthDays 2000 2 = 29 := by decide +kernel

/-- Section 9.7: entry 0 of the example on a Wednesday at 05:30 and on a Saturday at 05:30; entry 2 at a whole hour. -/
theorem test_alarms :
    (Alarm.matches ⟨2028, 3, 1, 5, 30, 0, 3⟩ ⟨true, some 5, some 30, [false, true, true, true, true, true, false], .sweep⟩ = true ∧
      Alarm.matches ⟨2028, 3, 4, 5, 30, 0, 6⟩ ⟨true, some 5, some 30, [false, true, true, true, true, true, false], .sweep⟩ = false) ∧
    Alarm.matches ⟨2028, 3, 1, 7, 0, 0, 3⟩ ⟨true, none, some 0, List.replicate 7 true, .ageReview⟩ = true ∧
    Alarm.matches ⟨2028, 3, 1, 12, 0, 0, 3⟩ ⟨false, some 12, some 0, List.replicate 7 true, .sweep⟩ = false := by decide +kernel

/-! ### Frames, messages and replies written out from chapter 12 -/

theorem test_hall_words_read :
    hallCommand 5 [0x00, 0x09, 0x02, 0x0B, 0x07, 0x00, 0x00, 0x00, 0x00, 0x00, 0x00, 0x15, 0x01, 0x00, 0x2D, 0x06, 0x98] =
      .seekReceived 9 7 (.kind 21) 1 45 ∧
    hallCommand 5 [0x05, 0x09, 0x05, 0x02, 0x07, 0x03, 0x9E, 0xBC] = .lapseReceived 9 7 .notYours ∧
    hallCommand 5 [0x05, 0x09, 0x07, 0x09, 0x07, 0x00, 0x01, 0x02, 0x03, 0x04, 0x05, 0x12, 0x34, 0x22, 0x33] =
      .receivedFrame 9 7 0x0102030405 0x1234 := by decide +kernel

/-- R201: a TDR whose fields all differ. -/
theorem test_record_read :
    hallCommand 5 [0x00, 0x09, 0x08, 0x23, 0x00, 0x01, 0x02, 0x03, 0x04, 0x05, 0x15, 0x12, 0x34, 0x09, 0x01, 0x00, 0x01, 0x00, 0x03,
      0x00, 0x17, 0x3E, 0x6A, 0x00, 0x00, 0x30, 0x39, 0x00, 0x00, 0x00, 0x05, 0x04, 0x00, 0x2D, 0x00, 0x50, 0x07, 0x00, 0x64, 0xA3,
      0x8A] =
      .recordReceived 9 {
        tool := 0x0102030405, kind := 21, version := 0x1234, custodian := 9, custody := 1, destination := 0, condition := 1,
        reason := 0, flags := 3, cl := 1523306, cr := 12345, runout := 5, presetStation := 4, presetAge := 45,
        life := 80, remainder := 7, used := 100 } := by decide +kernel

/-- R200: a TAKE, a SEEK and a RECORD as the node drives them. -/
theorem test_frames_sent :
    (Frame.take 5 7).bytes 9 = [0x05, 0x09, 0x04, 0x01, 0x07, 0x5E, 0x3A] ∧
    (Frame.seek 7 (.kind 21) .unattended 45).bytes 9 =
      [0x00, 0x09, 0x02, 0x0B, 0x07, 0x00, 0x00, 0x00, 0x00, 0x00, 0x00, 0x15, 0x01, 0x00, 0x2D, 0x06, 0x98] ∧
    (Frame.record {
        tool := 0x0102030405, kind := 21, version := 0x1234, custodian := 9, heard := .stocked, destination := none,
        condition := .ready, preset := some ⟨.full, 1523306, 12345, 5, 4, 45⟩, life := 80, remainder := 7, used := 100,
        conflict := false }).bytes 9 =
      [0x00, 0x09, 0x08, 0x23, 0x00, 0x01, 0x02, 0x03, 0x04, 0x05, 0x15, 0x12, 0x34, 0x09, 0x01, 0x00, 0x01, 0x00, 0x03, 0x00, 0x17,
        0x3E, 0x6A, 0x00, 0x00, 0x30, 0x39, 0x00, 0x00, 0x00, 0x05, 0x04, 0x00, 0x2D, 0x00, 0x50, 0x07, 0x00, 0x64, 0xA3, 0x8A] := by
  decide +kernel

/-- R91: a frame with one bit changed, one for another station, and one of an unknown kind are discarded. -/
theorem test_frames_discarded :
    hallCommand 5 [0x05, 0x09, 0x04, 0x01, 0x07, 0x5E, 0x3B] = .frameDiscarded [0x05, 0x09, 0x04, 0x01, 0x07, 0x5E, 0x3B] ∧
    hallCommand 6 [0x05, 0x09, 0x04, 0x01, 0x07, 0x5E, 0x3A] = .frameDiscarded [0x05, 0x09, 0x04, 0x01, 0x07, 0x5E, 0x3A] ∧
    hallCommand 5 (hallFrame 5 9 10 [7]) = .frameDiscarded (hallFrame 5 9 10 [7]) := by decide +kernel

/-- R202: the status word of a node in RUN with its clock trusted, and a NOTICES reply of one LIFE_LOW. -/
theorem test_reply_bytes :
    base.statusWord = [0x00, 0x00, 0x05, 0x00, 0x00] ∧
    (Reply.bytes ⟨0x18, .ok, [0x00, 0x00, 0x05, 0x00, 0x01], .notices [⟨.lifeLow, some 11, some 0x0102030405, none, none, []⟩]⟩).take 27 =
      [0xA5, 0x19, 0x18, 0x00, 0x00, 0x00, 0x05, 0x00, 0x01, 0x01] ++
        ([0x04, 0x0B, 0x00, 0x01, 0x02, 0x03, 0x04, 0x05, 0x00, 0x00, 0x00, 0x00, 0x00, 0x00, 0x00, 0x00, 0x00]) := by
  decide +kernel

/-! ### Single commands of the manual's worked examples -/

/-- Section 8.7: the tool of the example in pocket 16, with the life, the used minutes and the mark given. -/
def worked (life used : Nat) (m : Option Mark) : State :=
  let s := modPocket 16 (fun k => { Pocket.occupied 1 k with mark := m })
    (putEntry { ent 1 .stocked (some 16) with version := 73, life := life, remainder := 20, used := used } base)
  { s with slk := { s.slk with token := 41 } }

/-- The payload of the reply being sent. -/
def payloadOf (s : State) : Option ReplyPayload := s.slk.reply.map (·.payload)

/-- The result of the reply being sent. -/
def resultOf (s : State) : Option ResultCode := s.slk.reply.map (·.result)

/-- Section 8.7, the first row: STAGE answers L 1523220, R 62535, wear 86, token 42. -/
theorem test_stage : payloadOf (after (.stage 16) (worked 33 247 none)) = some (.staged 1523220 62535 86 42) := by decide +kernel

/-- Section 8.7: COMMIT of the stage, and COMMIT with a token that is not the slot's. -/
theorem test_commit :
    payloadOf (after (.commit 16 42) (after .replySent (after (.stage 16) (worked 33 247 none)))) =
      some (.committed 1523220 62535) ∧
    resultOf (after (.commit 16 41) (after .replySent (after (.stage 16) (worked 33 247 none)))) = some .seq := by decide +kernel

/-- Section 8.7: USE of 900 s crosses the reserve; USE of 780 s finds the drift. -/
theorem test_use :
    (payloadOf (after (.use 16 900) (worked 33 247 (some ⟨73, 1523220, 62535, false⟩))) = some (.used 18 20 262) ∧
      (after (.use 16 900) (worked 33 247 (some ⟨73, 1523220, 62535, false⟩))).slk.notices.map (·.kind) = [.lifeLow]) ∧
    (after (.use 16 780) (worked 18 262 (some ⟨73, 1523220, 62535, false⟩))).slk.notices.map (·.kind) = [.offsetDrift] := by
  decide +kernel

/-- Section 8.7: USE of 5000 s is clamped, brings the life to 0, and queues the tool for presetting. -/
theorem test_use_out :
    payloadOf (after (.use 16 5000) (worked 5 275 (some ⟨73, 1523220, 62535, true⟩))) = some (.used 0 20 335) ∧
    (after (.use 16 5000) (worked 5 275 (some ⟨73, 1523220, 62535, true⟩))).pru.queue = [1] := by decide +kernel

/-- Section 1.8: the custody entry of the example, at the version given. -/
def merging (v : Version) : State :=
  modPocket 5 (Pocket.occupied 1) (putEntry { ent 1 .stocked (some 5) with version := v } base)

/-- Section 1.8: an older record is answered; a newer one that claims no place is answered by a reassertion. -/
theorem test_record :
    ((after (.recordReceived 30 (theirs 1 40 .stocked).toTdr) (merging 41)).hli.routine =
        [.record { ent 1 .stocked (some 5) with version := 41 }.record]) ∧
    (after (.recordReceived 30 (theirs 1 42 .away).toTdr) (merging 41)).hli.routine =
      [.record { ent 1 .stocked (some 5) with version := 43 }.record] := by decide +kernel

/-- Section 1.8: a newer record that claims the tool in a pocket makes a duplicate of version 44. -/
theorem test_record_duplicate :
    (after (.recordReceived 30 (theirs 1 44 .stocked).toTdr) (merging 43)).entry? 1 =
      some { ent 1 .stocked (some 5) with version := 44, condition := .quarantine .duplicate, conflict := true } := by
  decide +kernel

/-- Section 2.13: the press of a supervisor opens the release for 120 s with the latch open. -/
theorem test_press :
    ((after (.pressServed .latched true) (after (.pressReported 5) (merging 88))).pocket 5).timer = some 120 ∧
    ((after (.pressServed .latched true) (after (.pressReported 5) (merging 88))).pocket 5).latch = .opened := by decide +kernel

/-- Section 2.13: the read of the closed pocket finds no tool. -/
theorem test_removal :
    (after (.readAttemptEnd .noTag) (withEntry (ent 1 .stocked (some 5)) (checking 5 .remove (some 1) 0))).entry? 1 =
      some { ent 1 .away none with version := 8, awayTimer := some 3600 } := by decide +kernel

/-- Section 6.7: the lapsed current offer gives way to the next in the list. -/
theorem test_lapse :
    (after (.lapseReceived 12 52 .withdrawn)
      (withTaker (taking .taking 320 [⟨7, theirs 2 60 .stocked⟩] (some ⟨12, theirs 1 41 .stocked⟩)) base)).hli.urgent =
      [⟨.take 7 52, .taker 52⟩] := by decide +kernel

/-- Section 7.9: a window that closes on its fallback record of version 64. -/
theorem test_window :
    ((after (.claimWindowExpiry 1) (adopting (some (theirs 1 64 .away)) none)).entry? 1).map (·.version) = some 65 ∧
    ((after (.claimWindowExpiry 1) (adopting none (some (theirs 1 62 .stocked)))).entry? 1).map (fun e => (e.version, e.condition)) =
      some (63, .quarantine .duplicate) := by decide +kernel

/-- R149, R150: FREE asks for an open release; on an EMPTY pocket it finds no tool. -/
theorem test_free :
    resultOf (after (.free 16) magTool) = some .ok ∧ resultOf (after (.free 17) magTool) = some .noTool := by decide +kernel

/-- R174, R165: a SETCLOCK of 2028-02-29 answers weekday 2; 2027-02-29 is outside its range. -/
theorem test_setclock :
    payloadOf (after (.setclock 2028 2 29 12 0 0 true) base) = some (.clock 2028 2 29 12 0 0 2) ∧
    resultOf (after (.setclock 2027 2 29 12 0 0 true) base) = some .range := by decide +kernel

/-! ### Witnesses: further clauses -/

/-- A node in HUNTING at address 5 whose memory was held, last alive n minutes before its calendar value. -/
def held (n : Nat) (s : State) : State :=
  { s with trg := { s.trg with stamp := ⟨2028, 3, 1, 2, 10 - n⟩ },
           stc := { s.stc with node := .hunting, huntNext := 5 } }

/-- Tool 1 STOCKED in pocket 0, tool 2 AWAY with 120 s left, tool 3 READY with no life left of an undefined kind. -/
def outaged : State :=
  held 2 (putEntry { ent 3 .lost none with kind := 9 }
    (putEntry { ent 2 .away none with awayTimer := some 120 } (stock 0 1 base)))

theorem outaged_bounded : outaged.Bounded := by constructor <;> decide +kernel

/-- Tool 1 of pocket 0 OFFERED and pocket 16 AWAITING, with pocket 8 OPEN_FOR_STOCK, pocket 9 CHECKING and tool 4 in pocket
10. -/
def keeping : State :=
  held 2
    { modPocket 10 (Pocket.occupied 4)
        (modPocket 9 (Pocket.toChecking .insert)
          (modPocket 8 (fun k => { k with state := .openForStock, latch := .opened, timer := some 121, timerRunning := true })
            (modPocket 16 (fun k => { k with state := .awaiting, latch := .opened, target := some 52 })
              (modPocket 0 (fun k => { k with state := .reserved, contents := some 1 })
                (putEntry (ent 4 .stocked (some 10)) (withEntry (ent 1 .reserved (some 0)) base)))))) with
      cue := { base.cue with givers := [giving .offered (some 0) (some 121)],
                             takers := [taking .taking 121 [] (some offered)] } }

theorem keeping_bounded : keeping.Bounded := by constructor <;> decide +kernel

theorem witness_HuntEndsInJoining_held :
    (outaged.Bounded ∧ keeping.Bounded) ∧
    (outaged.stc.powered = true ∧ outaged.stc.node = .hunting ∧ outaged.stc.huntNext = 5 ∧ outaged.stc.report = .held ∧
      outaged.ownId = outaged.stc.recordedId ∧
      2 = min 65535 (outaged.cck.cal.toStamp.minuteNumber - outaged.trg.stamp.minuteNumber) ∧
      outaged.cue.givers = [] ∧ outaged.cue.takers = [] ∧ outaged.cue.windows = [] ∧ outaged.headFitted = true) ∧
    (keeping.stc.huntNext = 5 ∧ keeping.ownId = keeping.stc.recordedId ∧
      2 = min 65535 (keeping.cck.cal.toStamp.minuteNumber - keeping.trg.stamp.minuteNumber) ∧
      keeping.fitted 0 = true ∧ keeping.isMagazine 0 = false ∧ keeping.fitted 16 = true ∧ keeping.isCrib 16 = false ∧
      keeping.fitted 32 = false ∧ keeping.giverNaming 0 = some (giving .offered (some 0) (some 121)) ∧
      keeping.takerTargeting 16 = some (taking .taking 121 [] (some offered)) ∧
      keeping.holdsStocked (keeping.pocket 10) = true ∧ keeping.holdsStocked (keeping.pocket 8) = false ∧
      (keeping.pocket 8).timer = some 121 ∧ (keeping.pocket 9).check = some .insert ∧ (keeping.pocket 1).state = .empty) := by
  refine ⟨⟨outaged_bounded, keeping_bounded⟩, ?_, ?_⟩ <;> decide +kernel

/-- A node in JOINING whose join timer stands at 0, a sweep SUSPENDED. -/
def joinedSweeping : State := { joined with rds := { joined.rds with sweep := .suspended, cursor := 7 } }

theorem witness_JoinTimerExpires_sweeping :
    joinedSweeping.running = true ∧ joinedSweeping.stc.node = .joining ∧ joinedSweeping.hli.joinTimer = some 0 ∧
      joinedSweeping.rds.sweep = .suspended ∧ joinedSweeping.rds.inFlight.isSome = true := by
  decide +kernel

/-- One second before a minute at which one alarm with the action given matches; tool 1 is past the age limit of its kind,
tool 2 is not; a door is open. -/
def alarmed (a : AlarmAction) : State :=
  let s := modPocket 7 (fun k => { k with door := .opened })
    (putEntry (ent 2 .away none)
      (withEntry { ent 1 .stocked (some 0) with preset := some ⟨.full, 1523306, 62535, 10, 5, 10081⟩ } lastSecond))
  { s with cck := { s.cck with trust := true },
           stc := { s.stc with config := some { conf with alarms := [⟨true, some 2, none, List.replicate 7 true, a⟩] } } }

theorem alarmed_bounded {a : AlarmAction} : (alarmed a).Bounded := by cases a <;> constructor <;> decide +kernel

theorem witness_SecondEventActs_alarms :
    (alarmed .ageReview).Bounded ∧
    ((alarmed .sweep).running = true ∧ (alarmed .sweep).cck.cal.tick.second = 0 ∧ (alarmed .sweep).cck.trust = true ∧
      (alarmed .sweep).cck.cal.atEnd = false ∧ (alarmed .sweep).rds.inFlight.isSome = true ∧
      (((alarmed .sweep).stc.config.map (·.alarms)).getD [] |>.filter (Alarm.matches (alarmed .sweep).cck.cal.tick)).map (·.action)
        = [.sweep] ∧ (alarmed .sweep).quiet = false) ∧
    ((((alarmed .ageReview).stc.config.map (·.alarms)).getD [] |>.filter
        (Alarm.matches (alarmed .ageReview).cck.cal.tick)).map (·.action) = [.ageReview] ∧
      (alarmed .ageReview).rds.sweep = .idle ∧ (alarmed .ageReview).cue.givers = [] ∧
      (alarmed .ageReview).cue.windows = [] ∧
      (∀ e ∈ (alarmed .ageReview).trg.entries, ∀ p ∈ e.preset, ∀ k ∈ (alarmed .ageReview).kind? e.kind,
        p.age ≤ 65535 ∧ p.age ≠ k.ageLimit)) := by
  refine ⟨alarmed_bounded, ?_, ?_⟩ <;> decide +kernel

/-- Module 0, with doors, is SILENT; pocket 0 stood STOCKED, pocket 1 EMPTY with its door open. -/
def silentDoors : State :=
  modModule 0 (fun m => { m with state := .silent })
    (modPocket 1 (fun k => { k with state := .fault, saved := some .empty, door := .opened })
      (modPocket 0 (fun k => { k with state := .fault, saved := some .stocked }) (stock 0 1 base)))

theorem witness_ModuleAnswers_doors :
    (silentDoors.running = true ∧ silentDoors.pkc.modules.length = 6 ∧ silentDoors.pkc.pockets.length = 48 ∧
      (silentDoors.pkc.modules.getD 0 Module.none).state = .silent ∧
      (silentDoors.pkc.modules.getD 0 Module.none).door = true ∧ silentDoors.rds.sweep = .idle ∧
      (silentDoors.pocket 0).state = .fault ∧ (silentDoors.pocket 0).saved = some .stocked ∧
      (silentDoors.pocket 0).door = .closed ∧ (silentDoors.pocket 1).saved = some .empty ∧
      (silentDoors.pocket 1).door = .opened) ∧
    ∃ r, silentDoors.rds.inFlight = some r ∧ r.pocket / 8 ≠ 0 := by
  refine ⟨?_, ⟨_, rfl, ?_⟩⟩ <;> decide +kernel

theorem witness_LatchFaultsAndReturns_giver :
    releasing.Bounded ∧ releasing.readerElsewhere 0 ∧
    (releasing.running = true ∧ releasing.present 0 = true ∧ releasing.moduleActive 0 = true ∧ releasing.hasLock 0 = true ∧
      (releasing.pocket 0).state = .releasing ∧ (releasing.pocket 0).openRelease = false ∧ releasing.rds.queue = [] ∧
      releasing.cue.waiting = [] ∧ releasing.slk.stage = none ∧ releasing.cue.takers = [] ∧
      releasing.cue.givers.find? (fun x => decide (x.pocket = some 0)) = some (giving .releasing (some 0) (some 0)) ∧
      releasing.giverOf? 1 = some (giving .releasing (some 0) (some 0)) ∧
      releasing.entry? 1 = some (ent 1 .releasing (some 0)) ∧ releasing.hli.urgent.length < 8 ∧
      releasing.stc.node ≠ .idConflict) := by
  refine ⟨releasing_bounded, elsewhere_of rfl (by decide), ?_⟩
  decide +kernel

/-- The sweep, SUSPENDED, waits for the read of pocket p, which has failed so often. -/
def swept (p : PocketNo) (fails : Nat) (s : State) : State :=
  { s with rds := { s.rds with inFlight := some ⟨p, fails⟩, sweep := .suspended, cursor := p, awaiting := true } }

/-- Tool 1 STOCKED in pocket 0 and tool 2 AWAY. -/
def sweepStock : State := putEntry { ent 2 .away none with awayTimer := some 9 } (stock 0 1 base)

theorem sweepStock_bounded : (swept 0 0 sweepStock).Bounded := by constructor <;> decide +kernel

/-- Tool 2 AWAY; all 48 pockets present and EMPTY. -/
def wide : State :=
  withEntry { ent 2 .away none with awayTimer := some 9 }
    { base with pkc := { base.pkc with modules := List.replicate 6 (modl .crib true),
                                       pockets := List.replicate 48 { Pocket.vacant with state := .empty } } }

theorem wide_bounded : (swept 47 0 wide).Bounded := by constructor <;> decide +kernel

theorem witness_SweepRuns_outcomes :
    ((swept 0 0 sweepStock).Bounded ∧ (swept 47 0 wide).Bounded) ∧
    (∀ fails, (swept 0 fails sweepStock).running = true ∧ (swept 0 fails sweepStock).rds.inFlight = some ⟨0, fails⟩ ∧
      (swept 0 fails sweepStock).rds.queue = [] ∧ (swept 0 fails sweepStock).rds.sweep = .suspended ∧
      (swept 0 fails sweepStock).rds.awaiting = true ∧ (swept 0 fails sweepStock).rds.cursor = 0 ∧
      (swept 0 fails sweepStock).trg.checks = []) ∧
    (sweepStock.pkc.pockets.length = 48 ∧ (sweepStock.pocket 0).readRequested = false ∧
      (sweepStock.pocket 0).state = .stocked ∧ (sweepStock.pocket 0).openRelease = false ∧
      (sweepStock.pocket 0).contents = some 1 ∧ sweepStock.entry? 1 = some (ent 1 .stocked (some 0)) ∧
      toolIdValid 1 = true ∧ toolIdValid 2 = true ∧
      sweepStock.entry? 2 = some { ent 2 .away none with awayTimer := some 9 } ∧ sweepStock.takerFor? 0 2 = none ∧
      sweepStock.cue.windows = [] ∧ sweepStock.giverOf? 1 = none ∧ sweepStock.departureRoom = true) ∧
    ((swept 47 0 wide).running = true ∧ (swept 47 0 wide).rds.cursor = 47 ∧ ((swept 47 0 wide).pocket 47).state = .empty ∧
      ((swept 47 0 wide).pocket 47).readRequested = false ∧
      (swept 47 0 wide).entry? 2 = some { ent 2 .away none with awayTimer := some 9 } ∧
      (swept 47 0 wide).takerFor? 47 2 = none) ∧
    ((timedOut 0).pkc.pockets.length = 48 ∧
      ((timedOut 0).pocket 0).state = .openForStock ∧ ((timedOut 0).pocket 0).readRequested = false) ∧
    ((swept 47 0 wide).masked .sweepDone = false ∧ (swept 47 0 wide).slk.notices.length < 16) := by
  refine ⟨⟨sweepStock_bounded, wide_bounded⟩, fun _ => ⟨rfl, rfl, rfl, rfl, rfl, rfl, rfl⟩, ?_, ?_, ?_, ?_⟩ <;>
    decide +kernel

/-- The state whose send of the OFFER of giver transfer 30, 52 drives its eighth attempt. -/
def offerFailing : State :=
  line [] [] (some ⟨.offer 30 52 (ent 1 .reserved (some 0)).record, .giver 30 52, 8, .driving⟩) offering

theorem offerFailing_bounded : offerFailing.Bounded := by constructor <;> decide +kernel

theorem witness_FramesAreSent_offer :
    offerFailing.Bounded ∧ offerFailing.readerBusy ∧
    (offerFailing.running = true ∧
      offerFailing.hli.send = some ⟨.offer 30 52 (ent 1 .reserved (some 0)).record, .giver 30 52, 8, .driving⟩ ∧
      offerFailing.giver? 30 52 = some (giving .offered (some 0) (some 0)) ∧ (offerFailing.pocket 0).state = .reserved ∧
      offerFailing.entry? 1 = some (ent 1 .reserved (some 0))) := by
  refine ⟨offerFailing_bounded, ⟨rfl, rfl⟩, ?_⟩
  decide +kernel

theorem takersAt_bounded {n : Nat} : (awaiting n).Bounded := takers_bounded (Nat.zero_le _)

theorem witness_ConflictEnters_transfers :
    (offering.Bounded ∧ releasing.Bounded ∧ carrying.Bounded ∧ (awaiting 9).Bounded ∧ releasing.readerElsewhere 0) ∧
    (offering.running = true ∧ offering.stc.node = .run ∧ offering.readerBusy ∧
      offering.cue.givers = [giving .offered (some 0) (some 0)] ∧ offering.cue.takers = []) ∧
    (releasing.running = true ∧ releasing.stc.node = .run ∧ releasing.readerBusy ∧
      releasing.cue.givers = [giving .releasing (some 0) (some 0)] ∧ releasing.present 0 = true ∧
      (releasing.pocket 0).door = .closed ∧ (releasing.pocket 0).readRequested = false) ∧
    (carrying.running = true ∧ carrying.stc.node = .run ∧ carrying.readerBusy ∧
      carrying.cue.givers = [giving .transit none none] ∧
      carrying.entry? 1 = some { ent 1 .transit none with awayTimer := some 0 } ∧ carrying.cue.windows = [] ∧
      carrying.cue.waiting = []) ∧
    ((awaiting 9).running = true ∧ (awaiting 9).stc.node = .run ∧ (awaiting 9).readerBusy ∧ (awaiting 9).cue.givers = [] ∧
      (awaiting 9).cue.takers = [taking .taking 9 [] (some offered)] ∧ ((awaiting 9).pocket 16).state = .awaiting ∧
      ((awaiting 9).pocket 16).readRequested = false ∧ (awaiting 9).masked .needFailed = false ∧
      (awaiting 9).slk.notices.length < 16) ∧
    (withTaker (taking .seeking 2 [] none) base).cue.takers = [taking .seeking 2 [] none] := by
  refine ⟨⟨offering_bounded, releasing_bounded, carrying_bounded, takersAt_bounded, elsewhere_of rfl (by decide)⟩,
    ⟨?_, ?_, ⟨rfl, rfl⟩, ?_, ?_⟩, ⟨?_, ?_, ⟨rfl, rfl⟩, ?_, ?_, ?_, ?_⟩, ⟨?_, ?_, ⟨rfl, rfl⟩, ?_, ?_, ?_, ?_⟩,
    ⟨?_, ?_, ⟨rfl, rfl⟩, ?_, ?_, ?_, ?_, ?_, ?_⟩, rfl⟩ <;> decide +kernel

theorem witness_AnnounceActs_transfers :
    (carrying.hallTaken 30 = true ∧ carrying.readerBusy ∧ (∀ e ∈ carrying.trg.entries, e.custody = .foreign → e.custodian ≠ 30) ∧
      (giving .transit none none).seeker = 30 ∧ carrying.stc.node ≠ .idConflict) ∧
    ((awaiting 9).hallTaken 30 = true ∧ (awaiting 9).readerBusy ∧ (awaiting 9).trg.entries = [] ∧
      (taking .taking 9 [] (some offered)).counterpart = some 30 ∧ (taking .taking 9 [] (some offered)).state ≠ .seeking) ∧
    ((awaiting 9).giversOf 30 = [] ∧ (awaiting 9).takersOf 30 = [taking .taking 9 [] (some offered)] ∧
      (awaiting 9).frameQueued (.take 30 52) = false ∧ (awaiting 9).hli.urgent.length < 8 ∧
      (awaiting 9).stc.node ≠ .idConflict) := by
  refine ⟨⟨?_, ⟨rfl, rfl⟩, ?_, ?_, ?_⟩, ⟨?_, ⟨rfl, rfl⟩, ?_, ?_, ?_⟩, ?_⟩ <;> decide +kernel

/-- Tool 1 AT_GAUGE here. -/
def onGauge : State := gauging 0 none none

/-- Tool 1 STOCKED in pocket 0, which has a door sensor, unverified. -/
def doubted : State := modPocket 0 (fun k => { k with verified := false }) cribTool

theorem doubted_bounded : doubted.Bounded := by constructor <;> decide +kernel

/-- Tool 1 STOCKED in pocket 8, which has no door sensor, with the presence check given pending. -/
def presence (l : List PresenceCheck) : State :=
  let s := stock 8 1 base
  { s with trg := { s.trg with checks := l } }

theorem presence_bounded {l : List PresenceCheck} : (presence l).Bounded :=
  { (stock_bounded : (stock 8 1 base).Bounded) with }

/-- Tool 1 AWAY, with the presence check given pending. -/
def awayChecked (l : List PresenceCheck) : State := { absentTool with trg := { absentTool.trg with checks := l } }

/-- The read of pocket 8 that the presence check asked for is in flight. -/
def presenceRead (r : Record) : State :=
  let s := presence [⟨1, 8, r⟩]
  { s with rds := { s.rds with inFlight := some ⟨8, 0⟩ } }

theorem presenceRead_bounded {r : Record} : (presenceRead r).Bounded := { (presence_bounded (l := [⟨1, 8, r⟩])) with }

theorem witness_RecordsMerge_custody :
    (onGauge.Bounded ∧ doubted.Bounded ∧ absentTool.Bounded ∧ ∀ l, (presence l).Bounded) ∧
    (∀ h, (theirs 1 8 h).Supersedes (ent 1 .atGauge none)) ∧ onGauge.HeldHere (ent 1 .atGauge none) ∧
    (onGauge.readerBusy ∧ doubted.readerBusy ∧ absentTool.readerBusy ∧ (∀ l, (presence l).readerElsewhere 8)) ∧
    (onGauge.hallTaken 30 = true ∧ onGauge.takeTdr 30 (tdr (theirs 1 8 .stocked)) = some (theirs 1 8 .stocked) ∧
      onGauge.takeTdr 30 (tdr (theirs 1 8 .away)) = some (theirs 1 8 .away) ∧
      onGauge.entry? 1 = some (ent 1 .atGauge none) ∧ onGauge.adoptionOpen 1 = false ∧ onGauge.transitChecking 1 = false ∧
      onGauge.checkPending 1 = false ∧ onGauge.giverOf? 1 = none ∧ (ent 1 .atGauge none).condition = .ready ∧
      onGauge.takeTdr 30 (tdr { theirs 1 8 .stocked with conflict := true }) = some { theirs 1 8 .stocked with conflict := true }) ∧
    (doubted.hallTaken 30 = true ∧ doubted.takeTdr 30 (tdr (theirs 1 8 .stocked)) = some (theirs 1 8 .stocked) ∧
      doubted.entry? 1 = some (ent 1 .stocked (some 0)) ∧ doubted.cue.windows = [] ∧ doubted.cue.waiting = [] ∧
      doubted.hasDoor 0 = true ∧ (doubted.pocket 0).verified = false ∧ (doubted.pocket 0).state = .stocked ∧
      doubted.checkPending 1 = false ∧ doubted.giverOf? 1 = none) ∧
    ((presence []).entry? 1 = some (ent 1 .stocked (some 8)) ∧ (presence []).present 8 = true ∧
      (presence []).hasDoor 8 = false ∧ ((presence []).pocket 8).state ≠ .fault ∧ (presence []).rds.queue = [] ∧
      (presence []).checkPending 1 = false ∧ (presence [⟨1, 8, theirs 1 8 .away⟩]).checkPending 1 = true) ∧
    ((awayChecked [⟨1, 8, theirs 1 8 .away⟩]).hallTaken 30 = true ∧
      (awayChecked [⟨1, 8, theirs 1 8 .away⟩]).entry? 1 = some (ent 1 .away none) ∧
      (awayChecked [⟨1, 8, theirs 1 8 .away⟩]).giverOf? 1 = none) := by
  refine ⟨⟨gauging_bounded, doubted_bounded, absent_bounded, fun _ => presence_bounded⟩,
    fun h => Or.inl (by cases h <;> decide +kernel), Or.inl ⟨rfl, rfl⟩,
    ⟨⟨rfl, rfl⟩, ⟨rfl, rfl⟩, ⟨rfl, rfl⟩, fun _ => elsewhere_of rfl (by decide)⟩, ?_, ?_, ?_, ?_⟩ <;> decide +kernel

theorem witness_RecordsMerge_settled :
    (∀ r, (presenceRead r).Bounded) ∧
    (∀ h, (presenceRead (theirs 1 8 h)).trg.checks = [⟨1, 8, theirs 1 8 h⟩] ∧ (theirs 1 8 h).tool = 1) ∧
    ((presenceRead (theirs 1 8 .away)).running = true ∧ (presenceRead (theirs 1 8 .away)).rds.inFlight = some ⟨8, 0⟩ ∧
      (presenceRead (theirs 1 8 .away)).rds.queue = [] ∧ (presenceRead (theirs 1 8 .away)).rds.sweep = .idle ∧
      (presenceRead (theirs 1 8 .away)).rds.awaiting = false ∧
      ((presenceRead (theirs 1 8 .away)).pocket 8).state = .stocked ∧
      ((presenceRead (theirs 1 8 .away)).pocket 8).openRelease = false ∧
      ((presenceRead (theirs 1 8 .away)).pocket 8).readRequested = false ∧
      ((presenceRead (theirs 1 8 .away)).pocket 8).contents = some 1 ∧
      (presenceRead (theirs 1 8 .away)).entry? 1 = some (ent 1 .stocked (some 8)) ∧
      (presenceRead (theirs 1 8 .away)).giverOf? 1 = none ∧ (presenceRead (theirs 1 8 .away)).cue.windows = [] ∧
      (presenceRead (theirs 1 8 .away)).cue.waiting = []) := by
  refine ⟨fun _ => presenceRead_bounded, fun _ => ⟨rfl, rfl⟩, ?_⟩
  decide +kernel

theorem witness_OfferIsRanked_taking :
    ((awaiting 9).hallTaken 30 = true ∧ (awaiting 9).hallTaken 31 = true ∧
      (awaiting 9).taker? 52 = some (taking .taking 9 [] (some offered)) ∧
      (taking .taking 9 [] (some offered)).counterpart = some 30 ∧ (awaiting 9).frameQueued (.take 30 52) = false ∧
      (awaiting 9).hli.urgent.length < 8 ∧ (awaiting 9).stc.node ≠ .idConflict) ∧
    ((withTaker (taking .awaitingArrival 9 [] (some offered)) base).taker? 52 =
      some (taking .awaitingArrival 9 [] (some offered))) ∧
    (offered.record.preset = some ⟨.full, 1523306, 62535, 10, 5, 9⟩ ∧ [offered].length < 4 ∧
      [offered].Pairwise (fun x y => y.rank.better x.rank = false)) := by
  refine ⟨?_, ?_, rfl, ?_, List.pairwise_singleton _ _⟩ <;> decide +kernel

/-- Four offers of stations 10 to 13, lives 100 to 97, and a fifth of life 50. -/
def ranked (station life : Nat) : Offer := ⟨station, { theirs 1 21 .stocked with life := life }⟩

theorem witness_OfferIsRanked_full :
    [ranked 10 100, ranked 11 99, ranked 12 98, ranked 13 97].Pairwise (fun x y => y.rank.better x.rank = false) ∧
      ranked 9 50 ∉ placeOffer (ranked 9 50) [ranked 10 100, ranked 11 99, ranked 12 98, ranked 13 97] ∧
      ranked 13 97 ∉ placeOffer (ranked 9 99) [ranked 10 100, ranked 11 99, ranked 12 98, ranked 13 97] := by
  decide +kernel

theorem witness_AdoptionSettles_others :
    ({ theirs 1 7 .away with conflict := true } : Record).conflict = true ∧
      ({ theirs 1 7 .away with kind := 1 } : Record).kind ≠ (adoptedEntry 5 1 0 (.pocket 0)).kind ∧
      ({ theirs 1 7 .away with kind := 1 } : Record).heard ≠ .stocked ∧
      ({ theirs 1 7 .away with kind := 1 } : Record).heard ≠ .atGauge := by
  decide

theorem witness_AttentionFollows_notices :
    (pulsing .idle 3).stc.config = some { conf with attention := .pulse } ∧ (pulsing .idle 3).masked .limit = false ∧
      (pulsing .asserted 16).slk.pulse ≠ .idle ∧ (pulsing .asserted 16).stc.powered = true ∧ base.masked .limit = false := by
  decide

/-- The stage of tool 1 in pocket 16, staged with another length. -/
def restaged : State :=
  { magTool with slk := { magTool.slk with stage := some ⟨16, 1, 7, 1523305, 62535, 8, false⟩, token := 8 } }

theorem witness_StageAndCommit_stale :
    restaged.takesCommands ∧ (withWindow ⟨1, .transitCheck, 2⟩ magTool).takesCommands ∧
    (restaged.slk.stage = some ⟨16, 1, 7, 1523305, 62535, 8, false⟩ ∧
      restaged.entry? 1 = some (ent 1 .stocked (some 16)) ∧ restaged.kind? 0 = some kindOne ∧
      1523306 - min (kindOne.wearRate * 0 / 100) kindOne.wearLimit ≠ 1523305) ∧
    ((withWindow ⟨1, .transitCheck, 2⟩ magTool).slk.sticky.seqError = false ∧
      (withWindow ⟨1, .transitCheck, 2⟩ magTool).present 16 = true ∧
      (withWindow ⟨1, .transitCheck, 2⟩ magTool).isMagazine 16 = true ∧
      ((withWindow ⟨1, .transitCheck, 2⟩ magTool).pocket 16).contents = some 1 ∧
      (withWindow ⟨1, .transitCheck, 2⟩ magTool).entry? 1 = some (ent 1 .stocked (some 16)) ∧
      (withWindow ⟨1, .transitCheck, 2⟩ magTool).windowOpen 1 = true) := by
  refine ⟨⟨rfl, rfl⟩, ⟨rfl, rfl⟩, ?_, ?_⟩ <;> decide +kernel

theorem witness_ToolActs_selectors :
    (selOfCodes 1 1 = some (.tool 1) ∧ selOfCodes 0 16 = some (.pocket 16) ∧ selOfCodes 0 48 = some (.pocket 48)) ∧
    (magTool.takesCommands ∧ magTool.Bounded ∧ magTool.readerBusy ∧ (magTool.pocket 16).contents = some 1 ∧
      magTool.entry? 1 = some (ent 1 .stocked (some 16)) ∧ magTool.giverOf? 1 = none ∧ magTool.adoptionOpen 1 = false) ∧
    (onGauge.takesCommands ∧ onGauge.Bounded ∧ onGauge.pkc.gauge ≠ .absent ∧
      onGauge.trg.entries.find? (fun f => decide (f.custody = .atGauge)) = some (ent 1 .atGauge none) ∧
      onGauge.entry? 1 = some (ent 1 .atGauge none)) ∧
    (loading.pkc.gauge = .absent ∧ (base.pocket 0).contents.bind base.entry? = none ∧ (base.pocket 0).state ≠ .absent) := by
  refine ⟨?_, ⟨⟨rfl, rfl⟩, stock_bounded, ⟨rfl, rfl⟩, ?_, ?_, ?_, ?_⟩, ⟨⟨rfl, rfl⟩, gauging_bounded, ?_, ?_, ?_⟩, ?_⟩ <;>
    decide +kernel

theorem witness_KeyedCommandsAct_forget :
    (absentTool.takesCommands ∧ absentTool.Bounded ∧ absentTool.readerBusy ∧ cribTool.takesCommands ∧ cribTool.Bounded ∧
      cribTool.readerElsewhere 0) ∧
    (absentTool.entry? 1 = some (ent 1 .away none) ∧ absentTool.cue.waiting = [] ∧ absentTool.cue.windows = [] ∧
      absentTool.giverOf? 1 = none ∧ absentTool.pru.queue = [] ∧ ∀ p, p < 48 → (absentTool.pocket p).vacated = none) ∧
    (cribTool.entry? 1 = some (ent 1 .stocked (some 0)) ∧ cribTool.cue.waiting = [] ∧ cribTool.cue.windows = [] ∧
      cribTool.giverOf? 1 = none ∧ cribTool.pru.queue = [] ∧ (cribTool.pocket 0).state = .stocked ∧
      ∀ p, p < 48 → (cribTool.pocket p).vacated = none) := by
  refine ⟨⟨⟨rfl, rfl⟩, absent_bounded, ⟨rfl, rfl⟩, ⟨rfl, rfl⟩, stock_bounded, elsewhere_of rfl (by decide)⟩, ?_, ?_⟩ <;>
    decide +kernel

/-! ### Witnesses: the clauses of the second review -/

/-- The state with the read of pocket p in flight, so often failed, and the reader otherwise idle. -/
def reading (p : PocketNo) (fails : Nat) (s : State) : State := { s with rds := { base.rds with inFlight := some ⟨p, fails⟩ } }

theorem soleRead_of {s : State} {p : PocketNo} {fails : Nat} (hr : s.rds = { base.rds with inFlight := some ⟨p, fails⟩ })
    (hn : s.running = true) (hc : s.trg.checks = []) (hb : s.Bounded) (hp : p < 48) : s.SoleRead ⟨p, fails⟩ := by
  refine ⟨hn, hb, ?_, ?_, ?_, ?_, hc, hp⟩ <;> rw [hr] <;> rfl

/-- The memory was held under station 9; tool 1 is STOCKED in pocket 0, tool 2 AWAY, tools 3 and 4 are cached. -/
def renamed : State :=
  let s := held 2 (putEntry (theirs 4 7 .stocked).cached (putEntry { (theirs 3 7 .stocked).cached with custodian := 5 }
    (putEntry { ent 2 .away none with awayTimer := some 120 } (stock 0 1 base))))
  { s with stc := { s.stc with recordedId := 9 } }

theorem renamed_bounded : renamed.Bounded := by constructor <;> decide +kernel

theorem witness_HuntEndsInJoining_renamed :
    renamed.Bounded ∧ (renamed.stc.powered = true ∧ renamed.stc.node = .hunting ∧ renamed.stc.huntNext = 5 ∧
      renamed.stc.report = .held ∧ renamed.ownId ≠ renamed.stc.recordedId ∧
      2 = min 65535 (renamed.cck.cal.toStamp.minuteNumber - renamed.trg.stamp.minuteNumber) ∧ renamed.cue.givers = [] ∧
      renamed.cue.takers = [] ∧ renamed.cue.windows = [] ∧ renamed.headFitted = true ∧ renamed.trg.entries.length ≤ 15 ∧
      renamed.entry? 1 = some (ent 1 .stocked (some 0)) ∧
      renamed.entry? 3 = some { (theirs 3 7 .stocked).cached with custodian := 5 } ∧
      renamed.entry? 4 = some (theirs 4 7 .stocked).cached) := by
  refine ⟨renamed_bounded, ?_⟩
  decide +kernel

theorem witness_JoinTimerExpires_visit :
    ∀ s : State, s = { inNode .joining base with hli := { base.hli with joinTimer := some 0 } } →
      s.running = true ∧ s.stc.node = .joining ∧ s.hli.joinTimer = some 0 ∧ s.rds.sweep = .idle ∧ s.quiet = true ∧
        s.readerElsewhere 0 ∧ s.rds.queue = [] ∧ (s.pocket 0).readRequested = false ∧ (s.pocket 0).state = .empty := by
  rintro s rfl
  refine ⟨?_, ?_, ?_, ?_, ?_, elsewhere_of rfl (by decide), ?_, ?_, ?_⟩ <;> decide +kernel

/-- The read that pocket 0, CHECKING, asked for is in flight. -/
def readSilenced : State := checking 0 .insert none 0

theorem witness_ModuleFallsSilent_bound :
    (offering.Bounded ∧ releasing.Bounded ∧ (awaiting 9).Bounded ∧ readSilenced.Bounded) ∧
    (offering.running = true ∧ (offering.pkc.modules.getD 0 Module.none).state = .active ∧ offering.present 0 = true ∧
      (offering.pocket 0).state ≠ .fault ∧ offering.cue.givers = [giving .offered (some 0) (some 0)] ∧
      offering.cue.takers = [] ∧ offering.entry? 1 = some (ent 1 .reserved (some 0)) ∧ offering.hli.urgent.length < 8 ∧
      offering.stc.node ≠ .idConflict) ∧
    (releasing.cue.givers = [giving .releasing (some 0) (some 0)] ∧ releasing.cue.takers = [] ∧
      releasing.entry? 1 = some (ent 1 .releasing (some 0)) ∧ (releasing.pocket 0).state ≠ .fault) ∧
    (((awaiting 9).pkc.modules.getD 2 Module.none).state = .active ∧ (awaiting 9).present 16 = true ∧
      (awaiting 9).cue.givers = [] ∧ (awaiting 9).cue.takers = [taking .taking 9 [] (some offered)] ∧
      (awaiting 9).masked .needFailed = false ∧ (awaiting 9).slk.notices.length < 16) ∧
    (readSilenced.rds.inFlight = some ⟨0, 0⟩ ∧ readSilenced.rds.queue = [] ∧ readSilenced.rds.awaiting = false ∧
      readSilenced.trg.checks = [] ∧ readSilenced.cue.givers = [] ∧ readSilenced.cue.takers = [] ∧
      readSilenced.cue.waiting = [] ∧ readSilenced.slk.stage = none) ∧
    ∀ a, a ≠ 3 → ∃ r, base.rds.inFlight = some r ∧ r.pocket / 8 ≠ a := by
  refine ⟨⟨offering_bounded, releasing_bounded, takersAt_bounded, checking_bounded⟩, ?_, ?_, ?_, ?_,
    fun a h => ⟨_, rfl, fun e => h (by simpa using e.symm)⟩⟩ <;> decide +kernel

/-- An ACTIVE sweep waits for the read of the cursor pocket, the reader queue as given. -/
def sweeping (c : Nat) (l : List PocketNo) (s : State) : State :=
  { s with rds := { s.rds with sweep := .active, cursor := c, awaiting := true, queue := l } }

/-- A sweep is SUSPENDED at cursor c, the door of pocket 0 alone open. -/
def suspended (c : Nat) (s : State) : State :=
  modPocket 0 (fun k => { k with door := .opened })
    { s with rds := { s.rds with sweep := .suspended, cursor := c, awaiting := false } }

/-- Pocket 1 in the state given, with no read requested. -/
def standing (x : PocketState) : State := modPocket 1 (fun k => { k with state := x }) base

theorem sweeping_bounded : (sweeping 1 [1] base).Bounded := by constructor <;> decide +kernel

theorem suspended_bounded {x : PocketState} : (suspended 1 (standing x)).Bounded := by
  cases x <;> constructor <;> decide +kernel

theorem witness_DoorsAct_sweep :
    ((sweeping 1 [1] base).Bounded ∧ ∀ x, (suspended 1 (standing x)).Bounded) ∧
    ((sweeping 1 [1] base).doorEvents 0 = true ∧ (sweeping 1 [1] base).rds.inFlight = some ⟨31, 0⟩ ∧
      ((sweeping 1 [1] base).pocket 1).readRequested = false ∧ (sweeping 1 [1] base).trg.checks = [] ∧
      ((sweeping 1 [1] (modPocket 1 (fun k => { k with readRequested := true }) base)).pocket 1).readRequested = true ∧
      (sweeping 31 [] base).rds.queue = []) ∧
    (∀ x, x ≠ .absent → (suspended 1 (standing x)).doorEvents 0 = true ∧
      (suspended 1 (standing x)).rds.inFlight = some ⟨31, 0⟩ ∧ ((suspended 1 (standing x)).pocket 0).door = .opened ∧
      (suspended 1 (standing x)).rds.queue = [] ∧ (suspended 1 (standing x)).present 1 = true ∧
      ((suspended 1 (standing x)).pocket 1).state = x ∧ ((suspended 1 (standing x)).pocket 1).readRequested = false ∧
      ∀ q, q < 48 → q ≠ 0 → (suspended 1 (standing x)).present q = true → (suspended 1 (standing x)).moduleActive q = true →
        ((suspended 1 (standing x)).pocket q).door = .closed) ∧
    ((suspended 32 base).pocket 32).state = .absent := by
  refine ⟨⟨sweeping_bounded, fun _ => suspended_bounded⟩, ?_, ?_, ?_⟩
  · decide +kernel
  · intro x
    cases x <;> decide +kernel
  · decide +kernel

/-- Tool 1, read in pocket 2 before, has left its mark on pocket 0, which is read. -/
def vacatedAt (found : Bool) : State :=
  reading 0 0 (modPocket 0 (fun k =>
    { k.toChecking .insert with vacated := some ⟨1, found⟩, readRequested := true, verified := false }) (stock 2 1 base))

theorem vacatedAt_bounded {found : Bool} : (vacatedAt found).Bounded := by cases found <;> constructor <;> decide +kernel

theorem witness_InsertReadEnds_vacated :
    (∀ found, (vacatedAt found).SoleRead ⟨0, 0⟩) ∧ toolIdValid 1 = true ∧
    (∀ found, ((vacatedAt found).pocket 0).state = .checking ∧ ((vacatedAt found).pocket 0).check = some .insert ∧
      ((vacatedAt found).pocket 0).contents = none ∧ ((vacatedAt found).pocket 0).readRequested = true ∧
      ((vacatedAt found).pocket 0).vacated = some ⟨1, found⟩ ∧
      (vacatedAt found).entry? 1 = some (ent 1 .stocked (some 2)) ∧ (vacatedAt found).giverOf? 1 = none ∧
      (vacatedAt found).adoptionOpen 1 = false) := by
  refine ⟨fun found => soleRead_of rfl rfl rfl vacatedAt_bounded (by decide), by decide, fun found => ?_⟩
  cases found <;> decide +kernel

/-- A taker transfer's target pocket 16, in the state given, is read. -/
def targetRead (x : PocketState) (fails : Nat) : State :=
  reading 16 fails (modPocket 16 (fun k => { k with state := x, readRequested := true }) (awaiting 9))

theorem targetRead_bounded {fails : Nat} : (targetRead .awaiting fails).Bounded ∧ (targetRead .wrongTool fails).Bounded :=
  ⟨{ (takersAt_bounded (n := 9)) with
       pockets := by simpa [targetRead, reading, modPocket, putPocket] using (takersAt_bounded (n := 9)).pockets
       readerOnce := List.nodup_nil, readerRange := fun _ h => absurd h List.not_mem_nil },
   { (takersAt_bounded (n := 9)) with
       pockets := by simpa [targetRead, reading, modPocket, putPocket] using (takersAt_bounded (n := 9)).pockets
       readerOnce := List.nodup_nil, readerRange := fun _ h => absurd h List.not_mem_nil }⟩

/-- As `targetRead`, the offer's tool known here as a cached entry of version v. -/
def targetKnown (v : Version) : State := putEntry (theirs 1 v .stocked).cached (targetRead .awaiting 0)

/-- Module 3 has no locks; its pocket 24, CHECKING, is read while pocket 16 awaits tool 1. -/
def arrivedBeside : State :=
  reading 24 0 (modModule 3 (fun m => { m with lock := false })
    (modPocket 24 (fun k => { k.toChecking .insert with readRequested := true }) (awaiting 9)))

theorem arrivals_bounded : (targetKnown 20).Bounded ∧ (targetKnown 22).Bounded ∧ arrivedBeside.Bounded := by
  refine ⟨?_, ?_, ?_⟩ <;> constructor <;> decide +kernel

theorem witness_ReturnIsStocked_targets :
    (∀ fails, (targetRead .awaiting fails).SoleRead ⟨16, fails⟩ ∧ (targetRead .wrongTool fails).SoleRead ⟨16, fails⟩) ∧
    ((targetKnown 20).SoleRead ⟨16, 0⟩ ∧ (targetKnown 22).SoleRead ⟨16, 0⟩ ∧ arrivedBeside.SoleRead ⟨24, 0⟩) ∧
    (((targetRead .awaiting 0).pocket 16).state = .awaiting ∧ ((targetRead .wrongTool 2).pocket 16).state = .wrongTool ∧
      ((targetRead .awaiting 0).pocket 16).readRequested = true ∧ ((targetRead .awaiting 0).pocket 16).contents = none ∧
      (targetRead .awaiting 0).takerAt? 16 = some (taking .taking 9 [] (some offered)) ∧ toolIdValid 2 = true ∧
      2 ≠ offered.record.tool ∧ (targetRead .awaiting 0).masked .toolRefused = false ∧
      (targetRead .awaiting 0).masked .toolReady = false ∧ (targetRead .awaiting 0).slk.notices.length < 16 ∧
      (targetRead .awaiting 0).entry? 1 = none ∧ (targetRead .awaiting 0).trg.entries.length < 256 ∧
      (targetRead .awaiting 0).windowOpen 1 = false ∧ (targetRead .awaiting 0).hli.urgent.length < 8) ∧
    ((targetKnown 20).entry? 1 = some (theirs 1 20 .stocked).cached ∧
      versionNewer offered.record.version (theirs 1 20 .stocked).cached.version = true ∧
      (targetKnown 22).entry? 1 = some (theirs 1 22 .stocked).cached ∧
      versionNewer (theirs 1 22 .stocked).cached.version offered.record.version = true) ∧
    ((arrivedBeside.pocket 24).state = .checking ∧ (arrivedBeside.pocket 24).check = some .insert ∧
      (arrivedBeside.pocket 24).vacated = none ∧ (arrivedBeside.pocket 24).readRequested = true ∧
      arrivedBeside.cue.takers = [taking .taking 9 [] (some offered)] ∧ arrivedBeside.isMagazine 24 = true ∧
      arrivedBeside.hasLock 24 = false ∧ (arrivedBeside.pocket 16).state = .awaiting ∧
      (arrivedBeside.pocket 16).readRequested = false) := by
  refine ⟨fun _ => ⟨soleRead_of rfl rfl rfl targetRead_bounded.1 (by decide),
      soleRead_of rfl rfl rfl targetRead_bounded.2 (by decide)⟩,
    ⟨soleRead_of rfl rfl rfl arrivals_bounded.1 (by decide), soleRead_of rfl rfl rfl arrivals_bounded.2.1 (by decide),
      soleRead_of rfl rfl rfl arrivals_bounded.2.2 (by decide)⟩, ?_, ?_, ?_⟩ <;> decide +kernel

/-- Pocket 0, which holds tool 1, is checked again and read; tool 2 is AWAY. -/
def rechecking (fails : Nat) : State :=
  reading 0 fails (putEntry { ent 2 .away none with awayTimer := some 9 }
    (putEntry (ent 1 .stocked (some 0)) (checking 0 .recheck (some 1) fails)))

theorem rechecking_bounded {fails : Nat} : (rechecking fails).Bounded :=
  { (checking_bounded (p := 0) (c := .recheck) (t := some 1) (n := fails)) with
    register := (by decide +kernel : (rechecking 0).trg.entries.Pairwise (fun a b => a.tool < b.tool))
    entries := (by decide +kernel : (rechecking 0).trg.entries.length ≤ 256) }

/-- Pocket 16, which holds tool 100, is checked again and read, with 64 tools outside. -/
def recheckingFull : State :=
  reading 16 0 (modPocket 16 (fun k => { k.toChecking .recheck with readRequested := true }) crowded)

theorem recheckingFull_bounded : recheckingFull.Bounded := by constructor <;> decide +kernel

/-- The reserved pocket 0 is read. -/
def reservedRead : State :=
  reading 0 0 (modPocket 0 (fun k => { k with contents := some 1, readRequested := true }) offering)

theorem reservedRead_bounded : reservedRead.Bounded := by constructor <;> decide +kernel

/-- The RELEASING pocket 0 of tool 1 is read, its transfer expired or withdrawing as given; tool 2 is AWAY. -/
def leaving (expired withdrawing : Bool) (fails : Nat) : State :=
  reading 0 fails (putEntry { ent 2 .away none with awayTimer := some 9 }
    (modPocket 0 (fun k => { k with contents := some 1, readRequested := true })
      (withGiver { giving .releasing (some 0) (some 0) with expired := expired, withdrawing := withdrawing } releasing)))

theorem leaving_bounded {x w : Bool} {fails : Nat} : (leaving x w fails).Bounded :=
  { releasing_bounded with
    register := (by decide +kernel : (leaving false false 0).trg.entries.Pairwise (fun a b => a.tool < b.tool))
    entries := (by decide +kernel : (leaving false false 0).trg.entries.length ≤ 256)
    pockets := by simpa [leaving, reading, withGiver, modPocket, putPocket, putEntry] using releasing_bounded.pockets
    transfers := Nat.le_of_ble_eq_true rfl
    readerOnce := List.nodup_nil
    readerRange := fun _ h => absurd h List.not_mem_nil }

theorem witness_RemovalSettles_reads :
    ((∀ fails, (rechecking fails).SoleRead ⟨0, fails⟩) ∧ recheckingFull.SoleRead ⟨16, 0⟩ ∧ reservedRead.SoleRead ⟨0, 0⟩ ∧
      ∀ x w fails, (leaving x w fails).SoleRead ⟨0, fails⟩) ∧
    (((rechecking 2).pocket 0).state = .checking ∧ ((rechecking 2).pocket 0).check = some .recheck ∧
      ((rechecking 2).pocket 0).contents = some 1 ∧ ((rechecking 2).pocket 0).readRequested = true ∧ toolIdValid 1 = true ∧
      toolIdValid 2 = true ∧ (rechecking 2).entry? 1 = some (ent 1 .stocked (some 0)) ∧ (rechecking 2).windowOpen 1 = false ∧
      (rechecking 2).giverOf? 1 = none ∧ (rechecking 2).entry? 2 = some { ent 2 .away none with awayTimer := some 9 } ∧
      (rechecking 2).takerFor? 0 2 = none ∧ (rechecking 2).cue.windows = [] ∧ (rechecking 2).departureRoom = true) ∧
    ((recheckingFull.pocket 16).state = .checking ∧ (recheckingFull.pocket 16).contents = some 100 ∧
      recheckingFull.entry? 100 = some (ent 100 .stocked (some 16)) ∧ recheckingFull.departureRoom = false ∧
      recheckingFull.giverOf? 100 = none ∧ recheckingFull.masked .limit = false ∧ toolIdValid 100 = true) ∧
    ((reservedRead.pocket 0).state = .reserved ∧ (reservedRead.pocket 0).contents = some 1 ∧
      (reservedRead.pocket 0).readRequested = true ∧ reservedRead.entry? 1 = some (ent 1 .reserved (some 0)) ∧
      reservedRead.giverOf? 1 = some (giving .offered (some 0) (some 0)) ∧ reservedRead.windowOpen 1 = false ∧
      reservedRead.departureRoom = true ∧ reservedRead.hli.urgent.length < 8 ∧ reservedRead.stc.node ≠ .idConflict) ∧
    (∀ x w, ((leaving x w 2).pocket 0).state = .releasing ∧ ((leaving x w 2).pocket 0).contents = some 1 ∧
      ((leaving x w 2).pocket 0).readRequested = true ∧ ((leaving x w 2).pocket 0).mark = none ∧
      (leaving x w 2).giverAt? 0 = some { giving .releasing (some 0) (some 0) with expired := x, withdrawing := w } ∧
      (leaving x w 2).giver? 30 52 = some { giving .releasing (some 0) (some 0) with expired := x, withdrawing := w } ∧
      (leaving x w 2).entry? 1 = some (ent 1 .releasing (some 0)) ∧ (leaving x w 2).windowOpen 1 = false ∧
      (leaving x w 2).hli.urgent.length < 8 ∧ (leaving x w 2).stc.node ≠ .idConflict ∧
      (leaving x w 2).entry? 2 = some { ent 2 .away none with awayTimer := some 9 } ∧ (leaving x w 2).takerFor? 0 2 = none ∧
      (leaving x w 2).cue.windows = []) := by
  refine ⟨⟨fun _ => soleRead_of rfl rfl rfl rechecking_bounded (by decide),
      soleRead_of rfl rfl rfl recheckingFull_bounded (by decide), soleRead_of rfl rfl rfl reservedRead_bounded (by decide),
      fun _ _ _ => soleRead_of rfl rfl rfl leaving_bounded (by decide)⟩, ?_, ?_, ?_, ?_⟩ <;> decide +kernel

/-- A second offer, of tool 2 by station 31. -/
def second : Offer := ⟨31, { theirs 2 8 .stocked with custodian := 31 }⟩

/-- Pocket 16 awaits tool 1, with the further offers given, or holds a wrong tool. -/
def falling (x : TakerState) (p : PocketState) (os : List Offer) : State :=
  withTaker (taking x 9 os (some offered))
    (modPocket 16 (fun k => { k with state := p, latch := .opened, target := some 52 }) base)

theorem falling_bounded {x : TakerState} {p : PocketState} {os : List Offer} (h : os.length ≤ 4) :
    (falling x p os).Bounded := takers_bounded h

/-- The send of the TAKE to station d drives its eighth attempt. -/
def takeFailing (d : StationId) (os : List Offer) : State :=
  line [] [] (some ⟨.take d 52, .taker 52, 8, .driving⟩) (falling .taking .awaiting os)

theorem witness_LapseEnds_takers :
    (∀ x p os, os.length ≤ 4 → (falling x p os).Bounded ∧ (falling x p os).readerBusy ∧ (falling x p os).readerElsewhere 16 ∧
      (falling x p os).hallTaken 30 = true ∧ (falling x p os).hallTaken 31 = true ∧ (falling x p os).giver? 30 52 = none ∧
      (falling x p os).giver? 31 52 = none ∧ (falling x p os).taker? 52 = some (taking x 9 os (some offered)) ∧
      (taking x 9 os (some offered)).current = some offered ∧ (falling x p os).hli.urgent.length < 8 ∧
      (falling x p os).stc.node ≠ .idConflict) ∧
    ((falling .taking .awaiting [second]).pocket 16).state ≠ .wrongTool ∧
    ((falling .taking .wrongTool [second]).pocket 16).state = .wrongTool ∧
    ((falling .awaitingArrival .awaiting []).pocket 16).readRequested = false ∧
    (∀ d os, os.length ≤ 4 → (takeFailing d os).Bounded ∧ (takeFailing d os).readerBusy ∧ (takeFailing d os).running = true ∧
      (takeFailing d os).hli.send = some ⟨.take d 52, .taker 52, 8, .driving⟩ ∧
      (takeFailing d os).taker? 52 = some (taking .taking 9 os (some offered))) := by
  refine ⟨fun x p os h => ⟨falling_bounded h, ⟨rfl, rfl⟩, elsewhere_of rfl (by decide), rfl, rfl, rfl, rfl, rfl, rfl,
      Nat.le_of_ble_eq_true rfl, fun e => NodeState.noConfusion e⟩, ?_, ?_, ?_,
    fun d os h => ⟨{ falling_bounded h with urgent := Nat.zero_le _, routine := Nat.zero_le _ }, ⟨rfl, rfl⟩, rfl, rfl, rfl⟩⟩ <;>
    decide +kernel

theorem witness_ConflictEnters_joining :
    joined.running = true ∧ joined.stc.node = .joining ∧ joined.rds.inFlight.isSome = true ∧ joined.cue.givers = [] ∧
      joined.cue.takers = [] ∧ joined.rds.sweep = .idle ∧ joined.quiet = false ∧ joinedSweeping.stc.node = .joining ∧
      joinedSweeping.rds.sweep = .suspended ∧ joinedSweeping.cue.givers = [] ∧ joinedSweeping.cue.takers = [] := by
  decide +kernel

/-- A full routine queue of RECORDs. -/
def fullRoutine : List Frame := (List.range 16).map (fun i => .record (ent (i + 2) .lost none).record)

theorem witness_WhereisAnswered_full :
    (∀ s : State, s = line [] fullRoutine none absentTool → s.hallTaken 30 = true ∧ s.entry? 1 = some (ent 1 .away none) ∧
      s.hli.routine.any (Frame.isRecordOf 1) = false ∧ 16 ≤ s.hli.routine.length ∧
      s.hli.routine.any Frame.isRecord = true ∧ s.stc.node ≠ .idConflict) ∧
    absentTool.RoutineRoom ∧
    ((adopting none none).adoptionOpen 1 = true ∧ (adopting none none).hallTaken 30 = true) := by
  refine ⟨?_, Or.inl (by decide), ?_⟩
  · rintro s rfl; decide +kernel
  · decide +kernel

/-- Tools 1 and 2 of kind 0 in pockets 0 and 1, in need of a preset or past the age limit as given. -/
def waitingTools (c : Condition) (age : Nat) (q : List ToolId) : State :=
  let f : ToolId → PocketNo → Entry := fun t p =>
    { ent t .stocked (some p) with condition := c, preset := some ⟨.full, 1523306, 62535, 10, 5, age⟩ }
  let s := putEntry (f 2 1) (putEntry (f 1 0) (modPocket 1 (Pocket.occupied 2) (modPocket 0 (Pocket.occupied 1) base)))
  { s with pru := { s.pru with queue := q } }

theorem waitingTools_bounded : (waitingTools .needsPreset 9 [2, 1]).Bounded ∧ (waitingTools .ready 10081 []).Bounded := by
  constructor <;> constructor <;> decide +kernel

theorem witness_SeekIsOffered_promotion :
    ((waitingTools .needsPreset 9 [2, 1]).Bounded ∧ (waitingTools .ready 10081 []).Bounded) ∧
    ((waitingTools .needsPreset 9 [2, 1]).hallTaken 30 = true ∧ (waitingTools .needsPreset 9 [2, 1]).giver? 30 52 = none ∧
      modeOfCode 0 = some .attended ∧ (waitingTools .needsPreset 9 [2, 1]).kind? 0 = some kindOne ∧
      (waitingTools .needsPreset 9 [2, 1]).candidates (.kind 0) .attended 0 = [] ∧
      (waitingTools .needsPreset 9 [2, 1]).pru.queue = [] ++ 2 :: [1]) ∧
    (waitingTools .needsPreset 9 [2, 1]).PromotionCandidate 0 10080
      { ent 2 .stocked (some 1) with condition := .needsPreset } ∧
    ((waitingTools .ready 10081 []).hallTaken 30 = true ∧ (waitingTools .ready 10081 []).giver? 30 52 = none ∧
      (waitingTools .ready 10081 []).candidates (.kind 0) .attended 0 = [] ∧
      (waitingTools .ready 10081 []).adoptionOpen 1 = false ∧ (waitingTools .ready 10081 []).stc.node ≠ .idConflict) ∧
    (waitingTools .ready 10081 []).PromotionCandidate 0 10080
      { ent 1 .stocked (some 0) with preset := some ⟨.full, 1523306, 62535, 10, 5, 10081⟩ } ∧
    (∀ f, (waitingTools .ready 10081 []).PromotionCandidate 0 10080 f → f.tool ∉ (waitingTools .ready 10081 []).pru.queue ∧
      (f = { ent 1 .stocked (some 0) with preset := some ⟨.full, 1523306, 62535, 10, 5, 10081⟩ } ∨
        ∃ q, f.pocket = some q ∧ 0 < q)) := by
  refine ⟨waitingTools_bounded, ?_, ⟨?_, rfl, rfl, Or.inl rfl⟩, ?_,
    ⟨?_, rfl, rfl, Or.inr (Or.inr (Or.inr (Or.inr ⟨rfl, _, rfl, by decide⟩)))⟩, fun f hf => ?_⟩
  · decide +kernel
  · decide +kernel
  · decide +kernel
  · decide +kernel
  · have h : f ∈ [{ ent 1 .stocked (some 0) with preset := some ⟨.full, 1523306, 62535, 10, 5, 10081⟩ },
        { ent 2 .stocked (some 1) with preset := some ⟨.full, 1523306, 62535, 10, 5, 10081⟩ }] := hf.1
    rcases List.mem_cons.1 h with rfl | h
    · exact ⟨by decide, Or.inl rfl⟩
    · rw [List.mem_singleton.1 h]
      exact ⟨by decide, Or.inr ⟨1, rfl, by decide⟩⟩

theorem witness_TakerTimersExpire_pocket :
    ∀ s : State, s = withTaker (taking .seeking 0 [offered] none) (modPocket 16 (fun k => { k with hold := true }) base) →
      s.Bounded ∧ s.running = true ∧ s.taker? 52 = some (taking .seeking 0 [offered] none) ∧ s.readerElsewhere 16 ∧
        s.targetable 16 = false := by
  rintro s rfl
  refine ⟨takers_bounded (by decide), ?_, ?_, elsewhere_of rfl (by decide), ?_⟩ <;> decide +kernel

/-- The loaded tool of pocket 16 with the life given. -/
def loadedLife (life : Nat) : State := putEntry { ent 1 .stocked (some 16) with life := life } (loaded .closed)

theorem loadedLife_bounded : (loadedLife 31).Bounded ∧ (loadedLife 80).Bounded ∧ (loadedLife 100).Bounded := by
  refine ⟨?_, ?_, ?_⟩ <;> constructor <;> decide +kernel

theorem witness_UseActs_notices :
    ((loadedLife 31).takesCommands ∧ (loadedLife 31).Bounded ∧ (loadedLife 100).takesCommands ∧ (loadedLife 100).Bounded) ∧
    ((loadedLife 31).present 16 = true ∧ (loadedLife 31).isMagazine 16 = true ∧
      ((loadedLife 31).pocket 16).mark = some ⟨7, 1523306, 62535, false⟩ ∧ ((loadedLife 31).pocket 16).contents = some 1 ∧
      (loadedLife 31).entry? 1 = some { ent 1 .stocked (some 16) with life := 31 } ∧ (loadedLife 31).kind? 0 = some kindOne ∧
      2 = (0 + min 120 3600) / 60 ∧ 2 < 31 ∧ kindOne.reserve ≤ 31 ∧ 31 - 2 < kindOne.reserve ∧
      1523306 < 1523306 - min (kindOne.wearRate * 2 / 100) kindOne.wearLimit + 10) ∧
    (((loadedLife 100).pocket 16).mark = some ⟨7, 1523306, 62535, false⟩ ∧
      (loadedLife 100).entry? 1 = some { ent 1 .stocked (some 16) with life := 100 } ∧
      60 = (0 + min 3600 3600) / 60 ∧ 60 < 100 ∧ ¬(kindOne.reserve ≤ 100 ∧ 100 - 60 < kindOne.reserve) ∧
      1523306 - min (kindOne.wearRate * 60 / 100) kindOne.wearLimit + 10 ≤ 1523306) ∧
    (60 = (0 + min 3601 3600) / 60 ∧ (loadedLife 80).takesCommands ∧ (loadedLife 80).Bounded ∧
      (loadedLife 80).entry? 1 = some { ent 1 .stocked (some 16) with life := 80 } ∧ 80 - 60 < kindOne.reserve) ∧
    lastHour.RoutineRoom := by
  refine ⟨⟨⟨rfl, rfl⟩, loadedLife_bounded.1, ⟨rfl, rfl⟩, loadedLife_bounded.2.2⟩, ?_, ?_,
      ⟨?_, ⟨rfl, rfl⟩, loadedLife_bounded.2.1, ?_, ?_⟩, Or.inl (by decide)⟩ <;>
    decide +kernel

/-- Tool 1 READY below its reserve in magazine pocket 16. -/
def spent : State := putEntry { ent 1 .stocked (some 16) with life := 29 } magTool

theorem spent_bounded : spent.Bounded := by constructor <;> decide +kernel

theorem witness_FreeReleases_reserve :
    (spent.takesCommands ∧ spent.readerElsewhere 16 ∧ spent.Bounded) ∧
    (spent.present 16 = true ∧ spent.isMagazine 16 = true ∧ (spent.pocket 16).state = .stocked ∧
      (spent.pocket 16).openRelease = false ∧ (spent.pocket 16).contents = some 1 ∧
      spent.entry? 1 = some { ent 1 .stocked (some 16) with life := 29 } ∧ spent.departureRoom = true ∧
      spent.kind? 0 = some kindOne ∧ 29 < kindOne.reserve ∧ (spent.pocket 16).latch = .locked ∧ spent.giverOf? 1 = none ∧
      spent.adoptionOpen 1 = false) := by
  refine ⟨⟨⟨rfl, rfl⟩, elsewhere_of rfl (by decide), spent_bounded⟩, ?_⟩
  decide +kernel

/-! ### Witnesses: the third round -/

/-- Pocket 0, CHECKING with check INSERT, is read in state s. -/
def readInsert (s : State) : State :=
  reading 0 0 (modPocket 0 (fun k => { k.toChecking .insert with readRequested := true, verified := false }) s)

/-- Tool 1 in TRANSIT under a giver transfer, on the gauge with a burst, and STOCKED in pocket 2, out of FAULT or in it. -/
def returned : List State :=
  [readInsert carrying, readInsert (gauging 0 (some (burst true samples)) none), readInsert (stock 2 1 base),
   readInsert (modPocket 2 (fun k => { k with state := .fault, saved := some .stocked }) (stock 2 1 base))]

theorem returned_bounded : ∀ s ∈ returned, s.Bounded := by
  simp only [returned, List.mem_cons, List.not_mem_nil, or_false, forall_eq_or_imp, forall_eq]
  refine ⟨?_, ?_, ?_, ?_⟩ <;> constructor <;> decide +kernel

theorem witness_ReturnIsStocked_places :
    (∀ s ∈ returned, s.SoleRead ⟨0, 0⟩ ∧ s.stc.node ≠ .idConflict ∧ (s.pocket 0).state = .checking ∧
      (s.pocket 0).check = some .insert ∧ (s.pocket 0).readRequested = true ∧ (s.pocket 0).vacated = none ∧
      s.pru.queue.contains 1 = false ∧ s.windowOpen 1 = false ∧ s.cue.waiting = [] ∧ s.takerFor? 0 1 = none) ∧
    ((readInsert carrying).entry? 1 = some { ent 1 .transit none with awayTimer := some 0 } ∧
      (readInsert carrying).giverOf? 1 = some (giving .transit none none) ∧
      (readInsert carrying).hli.urgent.length < 8) ∧
    (∀ s, s = readInsert (gauging 0 (some (burst true samples)) none) →
      s.entry? 1 = some (ent 1 .atGauge none) ∧ s.pru.gauge = some ⟨1, 0⟩ ∧ s.pru.tx = none) ∧
    (∀ s ∈ returned.drop 2, s.entry? 1 = some (ent 1 .stocked (some 2)) ∧ s.giverOf? 1 = none ∧
      ((s.pocket 2).state = .stocked ∨ (s.pocket 2).state = .fault)) := by
  refine ⟨fun s hs => ⟨?_, ?_⟩, ?_, ?_, ?_⟩
  · have hb := returned_bounded s hs
    simp only [returned, List.mem_cons, List.not_mem_nil, or_false] at hs
    rcases hs with rfl | rfl | rfl | rfl <;> exact soleRead_of rfl rfl rfl hb (by decide)
  · simp only [returned, List.mem_cons, List.not_mem_nil, or_false] at hs
    rcases hs with rfl | rfl | rfl | rfl <;> decide +kernel
  · decide +kernel
  · rintro s rfl; decide +kernel
  · decide +kernel

/-- As `arrivedBeside`, a wrong tool standing in the former target. -/
def arrivedPast : State := modPocket 16 (fun k => { k with state := .wrongTool }) arrivedBeside

theorem arrivedPast_bounded : arrivedPast.Bounded := by constructor <;> decide +kernel

theorem witness_ReturnIsStocked_past :
    arrivedPast.SoleRead ⟨24, 0⟩ ∧ (arrivedPast.pocket 24).state = .checking ∧ (arrivedPast.pocket 24).check = some .insert ∧
      arrivedPast.cue.takers = [taking .taking 9 [] (some offered)] ∧ arrivedPast.isMagazine 24 = true ∧
      arrivedPast.hasLock 24 = false ∧ (arrivedPast.pocket 16).state = .wrongTool ∧ arrivedPast.entry? 1 = none := by
  refine ⟨soleRead_of rfl rfl rfl arrivedPast_bounded (by decide), ?_⟩
  decide +kernel

theorem crowded_bounded : crowded.Bounded := by constructor <;> decide +kernel

theorem stocked_bounded : (stock 2 1 base).Bounded := by constructor <;> decide +kernel

theorem witness_GaugeFollowsTag_pocket :
    ((stock 2 1 base).Bounded ∧ (stock 2 1 base).readerElsewhere 2) ∧ (crowded.Bounded ∧ crowded.readerElsewhere 16) ∧
    ((stock 2 1 base).headReads = true ∧ (stock 2 1 base).pru.gauge = none ∧
      (stock 2 1 base).entry? 1 = some (ent 1 .stocked (some 2)) ∧ ((stock 2 1 base).pocket 2).state = .stocked ∧
      ((stock 2 1 base).pocket 2).openRelease = false ∧ (stock 2 1 base).giverOf? 1 = none ∧
      (stock 2 1 base).windowOpen 1 = false ∧ (stock 2 1 base).cue.waiting = [] ∧ (stock 2 1 base).departureRoom = true ∧
      (stock 2 1 base).trg.entries.all (fun x => !decide (x.custody = .atGauge)) = true) ∧
    (crowded.headReads = true ∧ crowded.pru.gauge = none ∧ crowded.entry? 100 = some (ent 100 .stocked (some 16)) ∧
      (crowded.pocket 16).state = .stocked ∧ (crowded.pocket 16).openRelease = false ∧ crowded.giverOf? 100 = none ∧
      crowded.windowOpen 100 = false ∧ crowded.departureRoom = false ∧ 100 ∉ crowded.pru.queue ∧
      (crowded.pocket 16).mark = none ∧ crowded.masked .limit = false ∧ crowded.slk.notices.length < 16) := by
  refine ⟨⟨stocked_bounded, elsewhere_of rfl (by decide)⟩, ⟨crowded_bounded, elsewhere_of rfl (by decide)⟩, ?_, ?_⟩ <;>
    decide +kernel

/-- R68, R13: at the outside limit the pocket that the gauge tool left is EMPTY, with no read asked for and no vacated mark. -/
theorem test_gauge_at_limit_empties_pocket :
    let k := (after (.headTag 100 0) crowded).pocket 16
    k.state = .empty ∧ k.readRequested = false ∧ k.vacated = none := by decide +kernel

theorem witness_ReleasedAndReceived_releasing :
    (releasing.Bounded ∧ releasing.readerBusy) ∧
    (releasing.hallTaken 30 = true ∧ releasing.giver? 30 52 = some (giving .releasing (some 0) (some 0)) ∧
      releasing.entry? 1 = some (ent 1 .releasing (some 0)) ∧ (releasing.pocket 0).state = .releasing ∧
      (releasing.pocket 0).readRequested = false ∧ releasing.window? 1 = none ∧ releasing.cue.waiting = [] ∧
      releasing.pru.queue.contains 1 = false) ∧
    (∀ s, s = withEntry (ent 1 .lost none) base → s.hallTaken 30 = true ∧ s.giver? 30 52 = none ∧
      s.entry? 1 = some (ent 1 .lost none) ∧ s.pru.queue.contains 1 = false) := by
  refine ⟨⟨releasing_bounded, ⟨rfl, rfl⟩⟩, ?_, ?_⟩
  · decide +kernel
  · rintro s rfl; decide +kernel

theorem witness_SweepRuns_quiet :
    base.takesCommands ∧ base.readerElsewhere 0 ∧
      (base.quiet = true ∧ 0 ∉ base.rds.queue ∧ (base.pocket 0).readRequested = false ∧ (base.pocket 0).state = .empty) := by
  refine ⟨base_takes, base_elsewhere (by decide), ?_⟩
  decide +kernel

end Sys2Proof.Tests
end

/-! PROOFS. R74: what a SAMPLE does with the burst in progress. -/

namespace Sys2Proof.Machine

open Sys2Proof

theorem Burst.store_of_lt {i : Nat} {b : Burst} (a : SampleSlot) (hi : i < b.n) :
    b.store i a = { b with slots := b.slots.set i (some a) } := if_pos hi

theorem Burst.store_of_le {i : Nat} {b : Burst} (a : SampleSlot) (hi : b.n ≤ i) : b.store i a = b :=
  if_neg hi.not_gt

/-- A head port that is read passes a SAMPLE on to the burst in progress, if there is one, and to nothing else. -/
theorem exec_sample_of_headReads {s : State} (hs : s.headReads = true) (i : Nat) (z x : Int) (v : Bool) :
    exec (.sample i z x v) s =
      .next { s with pru := { s.pru with burst := s.pru.burst.map (Burst.store i ⟨z, x, v⟩) } } :=
  congrArg Host.Outcome.next (if_pos hs)

/-- Both ways in which R74 ignores a SAMPLE, an index of n or above and no burst, come down to a burst that stays as it is. -/
theorem exec_sample_of_burst_kept {s : State} (hs : s.headReads = true) {i : Nat} {z x : Int} {v : Bool}
    (hb : s.pru.burst.map (Burst.store i ⟨z, x, v⟩) = s.pru.burst) : exec (.sample i z x v) s = .next s := by
  rw [exec_sample_of_headReads hs, hb]

/-- Settles O34, by the place of the index against the burst's n. -/
theorem sampleStored : Obligations.SampleStored := by
  intro i z x v s hs
  refine ⟨fun b hb hi => ?stored, fun b hb hi => ?beyond, fun hb => ?noBurst⟩
  case stored => rw [exec_sample_of_headReads hs, hb, Option.map_some, Burst.store_of_lt _ hi]
  case beyond => exact exec_sample_of_burst_kept hs (by rw [hb, Option.map_some, Burst.store_of_le _ hi])
  case noBurst => exact exec_sample_of_burst_kept hs (by rw [hb, Option.map_none])

end Sys2Proof.Machine

/-! PROOFS. R171: what NOTICES takes from the queue and what its reply says. -/

namespace Sys2Proof.Machine

open Sys2Proof

/-- R153, R154: the node states in which a command's own rule applies are among those in which the receiver is on. -/
theorem State.receiverOn_of_running {s : State} (hs : s.running = true) : s.receiverOn = true := by
  rw [State.running, Bool.and_eq_true] at hs
  obtain ⟨hpower, hnode⟩ := hs
  rw [State.receiverOn, hpower, Bool.true_and]
  cases hn : s.stc.node with
  | loading => simp [hn] at hnode
  | _ => rfl

theorem State.node_ne_configFault_of_running {s : State} (hs : s.running = true) : s.stc.node ≠ .configFault := by
  intro hn
  simp [State.running, hn] at hs

theorem takeCommand_of_running {s : State} (hs : s.running = true) (code : Nat) (f : State → Answer) :
    takeCommand code f s = respond code (f s) := by
  rw [State.running, Bool.and_eq_true] at hs
  obtain ⟨-, hnode⟩ := hs
  rw [takeCommand]
  cases hn : s.stc.node with
  | joining | run | idConflict => rfl
  | loading | hunting | restoring | configFault => simp [hn] at hnode

/-- R153 to R155: a command that is taken leaves its rule's effects and the reply formed from them. -/
theorem command_of_takesCommands {s : State} (hs : s.takesCommands) (code : Nat) (f : State → Answer) :
    command code f s = (f s).state.replied code (f s).result (f s).payload := by
  obtain ⟨hrun, hreply⟩ := hs
  calc command code f s
      = takeCommand code f s := by simp [command, State.receiverOn_of_running hrun, hreply]
    _ = respond code (f s) := takeCommand_of_running hrun code f
    _ = (f s).state.replied code (f s).result (f s).payload := rfl

/-- R156: outside CONFIG_FAULT the last byte of the status word counts the notices waiting. -/
theorem State.statusWord_getLast? {s : State} (hn : s.stc.node ≠ .configFault) :
    s.statusWord.getLast? = some (BitVec.ofNat 8 s.slk.notices.length) := by
  simp [State.statusWord, hn]

/-- The state with the first four waiting notices gone (R171). -/
def State.dropFourNotices (s : State) : State :=
  { s with slk := { s.slk with notices := s.slk.notices.drop 4 } }

@[simp] theorem State.dropFourNotices_notices (s : State) :
    s.dropFourNotices.slk.notices = s.slk.notices.drop 4 := rfl

@[simp] theorem State.dropFourNotices_running (s : State) : s.dropFourNotices.running = s.running := rfl

theorem State.dropFourNotices_of_empty {s : State} (h : s.slk.notices = []) : s.dropFourNotices = s := by
  have hdrop : s.slk.notices.drop 4 = s.slk.notices := by rw [h, List.drop_nil]
  rw [State.dropFourNotices, hdrop]

theorem exec_notices_of_takesCommands {s : State} (hs : s.takesCommands) :
    exec .notices s = .next (s.dropFourNotices.replied 0x18 .ok (.notices (s.slk.notices.take 4))) :=
  congrArg Host.Outcome.next (command_of_takesCommands hs 0x18 fetchNotices)

/-- Because the reply is formed after the removal, its status word counts the notices left. -/
theorem State.dropFourNotices_statusWord_getLast? {s : State} (hs : s.running = true) :
    s.dropFourNotices.statusWord.getLast? = some (BitVec.ofNat 8 (s.slk.notices.length - 4)) := by
  rw [← State.dropFourNotices_running] at hs
  rw [State.statusWord_getLast? (State.node_ne_configFault_of_running hs), State.dropFourNotices_notices, List.length_drop]

/-- Settles O53: the one outcome of NOTICES, then its reply and its empty queue read off that outcome. -/
theorem queuesAreRead : Obligations.QueuesAreRead := by
  intro s hs
  have hexec := exec_notices_of_takesCommands hs
  refine ⟨hexec, fun t ht => ?reply, fun hempty => ?empty⟩
  case reply =>
    obtain rfl := Host.Outcome.next.inj (hexec.symm.trans ht)
    exact ⟨_, rfl, rfl, State.dropFourNotices_statusWord_getLast? hs.1,
      s.slk.notices.take 4, rfl, List.length_take_le 4 _, List.take_append_drop 4 _⟩
  case empty => rw [hexec, State.dropFourNotices_of_empty hempty, hempty, List.take_nil]

end Sys2Proof.Machine

/-! PROOFS. The machine: a step runs one command, every command answers, and what only the commands of the start and of the clock
change. -/

namespace Sys2Proof.Machine

open Sys2Proof

/-- Settles O1: both clauses are the two cases of a step. -/
theorem frontCommandRuns : Obligations.FrontCommandRuns :=
  ⟨fun _ _ _ h => by rw [step, h], fun _ h => by rw [step, h]⟩

/-- Settles O3, field by field of the reset state. -/
theorem resetKeeps : Obligations.ResetKeeps := by
  refine ⟨?bounded, fun h => (nomatch h), by decide, by decide⟩
  case bounded => constructor <;> simp [State.reset, Trg.empty, Pkc.empty, Rds.empty, Pru.empty, Cue.empty, Hli.empty, Slk.empty]

/-! ### What a command answers -/

/-- The state a command answers; every command answers one (`exec_eq`). -/
def effect (c : Instr) (s : State) : State :=
  match exec c s with
  | .next t => t
  | .fault _ | .refused _ => s

theorem exec_eq (c : Instr) (s : State) : exec c s = .next (effect c s) := by cases c <;> rfl

theorem effect_of_exec {c : Instr} {s t : State} (h : exec c s = .next t) : t = effect c s :=
  (Host.Outcome.next.inj ((exec_eq c s).symm.trans h)).symm

/-- A part of the state that the rule of a station-link command leaves as it was, and that neither an overrun nor a reply touches,
is left as it was by the command. -/
theorem command_same {β : Type} (g : State → β) {code : Nat} {f : State → Answer} {s : State} (hover : g (overrun s) = g s)
    (hreply : ∀ a, g (respond code a) = g a.state) (hf : g (f s).state = g s) : g (command code f s) = g s := by
  unfold command takeCommand
  split
  · rfl
  · split
    · exact hover
    · split <;> simp [hreply, hf, plain]

/-- The queue of waiting commands, the Calendar Clock and the Start Controller of t are those of s. -/
structure State.KeepsStart (s t : State) : Prop where
  pending : t.pending = s.pending
  cck : t.cck = s.cck
  stc : t.stc = s.stc

theorem State.KeepsStart.refl (s : State) : s.KeepsStart s := ⟨rfl, rfl, rfl⟩

theorem State.KeepsStart.command {code : Nat} {f : State → Answer} {s : State} (h : s.KeepsStart (f s).state) :
    s.KeepsStart (command code f s) :=
  ⟨command_same _ rfl (fun _ => rfl) h.pending, command_same _ rfl (fun _ => rfl) h.cck,
    command_same _ rfl (fun _ => rfl) h.stc⟩

/-! ### The rules of the station link keep the clock and the start -/

variable {s : State}

theorem need_keepsStart (p wt w m l : Nat) : s.KeepsStart (need p wt w m l s).state := by
  unfold need openTaker
  (repeat' split) <;> constructor <;> simp [plain]

theorem cancel_keepsStart (p : PocketNo) : s.KeepsStart (cancel p s).state := by
  unfold cancel
  split <;> constructor <;> simp [plain]

theorem stage_keepsStart (p : PocketNo) : s.KeepsStart (stage p s).state := by
  unfold stage fillStage
  (repeat' split) <;> constructor <;> simp [plain]

theorem commit_keepsStart (p : PocketNo) (token : Nat) : s.KeepsStart (commit p token s).state := by
  unfold commit commitStage
  (repeat' split) <;> constructor <;> simp [plain]

theorem useTool_keepsStart (p : PocketNo) (sec : Nat) : s.KeepsStart (useTool p sec s).state := by
  unfold useTool
  (repeat' split) <;> constructor <;> simp [plain]

theorem freePocket_keepsStart (p : PocketNo) : s.KeepsStart (freePocket p s).state := by
  unfold freePocket
  (repeat' split) <;> constructor <;> simp [plain]

/-- R173: a command of a tool answers from its checks, the state as it was, or acts on the tool it names. -/
theorem toolChecked_state (sel arg : Nat) (f : ToolSel → State → Answer) (s : State) :
    (toolChecked sel arg f s).state = s ∨ ∃ x, (toolChecked sel arg f s).state = (f x s).state := by
  unfold toolChecked
  split
  · exact .inl rfl
  · next x _ =>
    split
    · exact .inl rfl
    · exact .inr ⟨x, rfl⟩

/-- R153, R154: a command is lost, overruns the receiver, is answered by the node state, or acts. -/
theorem command_cases (code : Nat) (f : State → Answer) (s : State) : command code f s = s ∨ command code f s = overrun s ∨
    ∃ a, (a.state = s ∨ a = f s) ∧ command code f s = respond code a := by
  unfold command
  split
  · exact .inl rfl
  · split
    · exact .inr (.inl rfl)
    · unfold takeCommand
      split
      · exact .inl rfl
      · exact .inr (.inr ⟨_, .inl rfl, rfl⟩)
      · exact .inr (.inr ⟨_, .inl rfl, rfl⟩)
      · exact .inr (.inr ⟨_, .inr rfl, rfl⟩)
      · exact .inr (.inr ⟨_, .inr rfl, rfl⟩)
      · exact .inr (.inr ⟨_, .inr rfl, rfl⟩)
      · exact .inr (.inr ⟨_, .inl rfl, rfl⟩)

theorem toolEntry_state (key : Bool) (f : Entry → State → Option State) (x : ToolSel) (s : State) :
    (toolEntry key f x s).state = s ∨ ∃ e t, f e s = some t ∧ (toolEntry key f x s).state = t := by
  unfold toolEntry
  split
  · exact .inl rfl
  · split
    · exact .inl rfl
    · split
      · exact .inl rfl
      · split
        · next e _ _ _ _ t ht => exact .inr ⟨e, t, ht, rfl⟩
        · exact .inl rfl

theorem toolChecked_keepsStart {sel arg : Nat} {f : ToolSel → State → Answer} (hf : ∀ x, s.KeepsStart (f x s).state) :
    s.KeepsStart (toolChecked sel arg f s).state := by
  rcases toolChecked_state sel arg f s with h | ⟨x, h⟩ <;> rw [h]
  · exact .refl s
  · exact hf x

theorem toolEntry_keepsStart {key : Bool} {f : Entry → State → Option State} (hf : ∀ e t, f e s = some t → s.KeepsStart t)
    (x : ToolSel) : s.KeepsStart (toolEntry key f x s).state := by
  rcases toolEntry_state key f x s with h | ⟨e, t, hft, h⟩ <;> rw [h]
  · exact .refl s
  · exact hf e t hft

theorem withhold_keepsStart (e : Entry) (t : State) (h : withhold e s = some t) : s.KeepsStart t := by
  unfold withhold at h
  split at h <;> cases h <;> constructor <;> simp

theorem releaseTool_keepsStart (e : Entry) (t : State) (h : releaseTool e s = some t) : s.KeepsStart t := by
  unfold releaseTool at h
  split at h <;> cases h <;> constructor <;> simp

theorem sweepCommand_keepsStart : s.KeepsStart (sweepCommand s).state := by
  unfold sweepCommand
  split <;> constructor <;> simp [plain]

theorem setHold_keepsStart (p : PocketNo) (h key : Bool) : s.KeepsStart (setHold p h key s).state := by
  unfold setHold
  (repeat' split) <;> constructor <;> simp [plain]

theorem forgetTool_keepsStart (t : ToolId) (key : Bool) : s.KeepsStart (forgetTool t key s).state := by
  unfold forgetTool
  (repeat' split) <;> constructor <;> simp [plain]

/-! ### The commands that act on the clock or the start -/

/-- The commands of the supplies, of the start and of the calendar, and the entry into ID_CONFLICT. -/
def Instr.movesStart : Instr → Bool
  | .powerOn | .resetInput | .backupLatchSet | .mainPowerLoss => true
  | .configRead _ | .huntProbe _ | .joinTimerExpiry | .idConflict => true
  | .secondEvent _ | .setclock _ _ _ _ _ _ _ => true
  | _ => false

/-- Every other command keeps the queue of waiting commands, the clock and the start. -/
theorem effect_keepsStart {c : Instr} (hc : Instr.movesStart c = false) (s : State) : s.KeepsStart (effect c s) := by
  cases c with
  | clear => exact .command ⟨rfl, rfl, rfl⟩
  | unknownCommand code => exact .command ⟨rfl, rfl, rfl⟩
  | need => exact .command (need_keepsStart ..)
  | cancel => exact .command (cancel_keepsStart _)
  | stage => exact .command (stage_keepsStart _)
  | commit => exact .command (commit_keepsStart ..)
  | use => exact .command (useTool_keepsStart ..)
  | free => exact .command (freePocket_keepsStart _)
  | notices => exact .command ⟨rfl, rfl, rfl⟩
  | tool sel arg act =>
    refine .command ?_
    split
    · exact toolChecked_keepsStart fun _ => .refl s
    · exact .refl s
  | toolWithhold => exact .command (toolChecked_keepsStart (toolEntry_keepsStart withhold_keepsStart))
  | toolRelease => exact .command (toolChecked_keepsStart (toolEntry_keepsStart releaseTool_keepsStart))
  | sweep => exact .command sweepCommand_keepsStart
  | sweepstat => exact .command ⟨rfl, rfl, rfl⟩
  | hold => exact .command (setHold_keepsStart ..)
  | unhold => exact .command (setHold_keepsStart ..)
  | forget => exact .command (forgetTool_keepsStart ..)
  | transitTimerExpiry t =>
    simp only [effect, exec, execTransitTimerExpiry]
    split
    · constructor <;> exact foldl_same _ (by simp) _ _
    · exact .refl s
  | powerOn | resetInput | backupLatchSet | mainPowerLoss | configRead | huntProbe | joinTimerExpiry | idConflict
  | secondEvent | setclock => cases hc
  | _ =>
    simp only [effect, exec, execModuleSilent, execModuleReturn, execModuleChanged, execLockFault,
      execLatchPositionReached, execDoorOpening, execDoorClosing, execPressReported, execPressServed,
      execPocketTimerExpiry, execReadAttemptEnd, execAttentionPulseEnd, execHeadMessageDiscarded, execHeadTag,
      execHeadTagGone, execBurstStart, execSample, execBurstEnd, execResultSent, execFrameDiscarded,
      execAnnounceReceived, execSeekReceived, execOfferReceived, execTakeReceived, execLapseReceived,
      execReleasedReceived, execReceivedFrame, execRecordReceived, execWhereisReceived, execSendAttempt,
      execAttemptSent, execAttemptCollided, execBackoffExpiry, execWindowTimerExpiry, execDeadlineExpiry,
      execHoldTimerExpiry, execReleaseTimerExpiry, execAwayTimerExpiry, execTransitCheckExpiry, execClaimWindowExpiry, execStatus, execCommandCheckFail, execCommandOverrun,
      execReplySent, execAttentionReleaseIntervalEnd]
    (repeat' split) <;> constructor <;> simp [respond, plain]

theorem setClockCommand_pending (y mo d h mi sec : Nat) (key : Bool) :
    (setClockCommand y mo d h mi sec key s).state.pending = s.pending := by
  unfold setClockCommand
  (repeat' split) <;> simp [plain]

/-- No command touches the queue of waiting commands, those of the clock and the start included. -/
theorem effect_pending (c : Instr) (s : State) : (effect c s).pending = s.pending := by
  by_cases hc : Instr.movesStart c = false
  · exact (effect_keepsStart hc s).pending
  · cases c with
    | setclock => exact command_same _ rfl (fun _ => rfl) (setClockCommand_pending ..)
    | powerOn | backupLatchSet | mainPowerLoss => rfl
    | resetInput | configRead | huntProbe | joinTimerExpiry | idConflict | secondEvent =>
      simp only [effect, exec, execResetInput, execConfigRead, execHuntProbe, execJoinTimerExpiry, execIdConflict,
        execSecondEvent]
      (repeat' split) <;> simp
    | _ => exact absurd rfl hc

/-- Settles O2: the state answered is the command's effect, which leaves the queue. -/
theorem everyCommandAnswers : Obligations.EveryCommandAnswers :=
  fun c s => ⟨effect c s, exec_eq c s, effect_pending c s⟩

end Sys2Proof.Machine

/-! PROOFS. The calendar (R176, R177): one second, and the commands that change the clock, the node state and the start. -/

namespace Sys2Proof.Machine

open Sys2Proof

/-! ### Days -/

theorem daysSince2000_day (y m d : Nat) (hd : 1 ≤ d) : daysSince2000 y m (d + 1) = daysSince2000 y m d + 1 := by
  unfold daysSince2000
  omega

/-- The first of the next month follows the last day of a month. -/
theorem daysSince2000_month (y m : Nat) (hm : 1 ≤ m) (hd : 1 ≤ monthDays y m) :
    daysSince2000 y (m + 1) 1 = daysSince2000 y m (monthDays y m) + 1 := by
  obtain ⟨k, rfl⟩ := Nat.exists_eq_add_of_le' hm
  simp only [daysSince2000, Nat.add_sub_cancel, List.range_succ, List.map_append, List.sum_append, List.map_cons,
    List.map_nil, List.sum_cons, List.sum_nil]
  omega

theorem sum_monthDays (y : Nat) : ((List.range 11).map (fun i => monthDays y (i + 1))).sum + 31 = yearDays y := by
  cases h : leapYear y <;> simp [List.range_succ, monthDays, yearDays, h]

/-- January 1 follows December 31. -/
theorem daysSince2000_year (y : Nat) (hy : 2000 ≤ y) : daysSince2000 (y + 1) 1 1 = daysSince2000 y 12 31 + 1 := by
  have hyears : y + 1 - 2000 = (y - 2000) + 1 := by omega
  have hback : 2000 + (y - 2000) = y := by omega
  have hmonths := sum_monthDays y
  unfold daysSince2000
  rw [hyears, List.range_succ]
  simp only [List.map_append, List.sum_append, List.map_cons, List.map_nil, List.sum_cons, List.sum_nil, hback,
    show 12 - 1 = 11 from rfl, show 1 - 1 = 0 from rfl, List.range_zero]
  omega

theorem monthDays_pos (y m : Nat) : 1 ≤ monthDays y m := by
  unfold monthDays
  (repeat' split) <;> omega

theorem monthDays_december (y : Nat) : monthDays y 12 = 31 := rfl

theorem clockInRange_iff (y mo d h mi sec : Nat) : clockInRange y mo d h mi sec = true ↔
    2000 ≤ y ∧ y ≤ 2199 ∧ 1 ≤ mo ∧ mo ≤ 12 ∧ 1 ≤ d ∧ d ≤ monthDays y mo ∧ h ≤ 23 ∧ mi ≤ 59 ∧ sec ≤ 59 := by
  simp [clockInRange, and_assoc]

/-! ### One second -/

theorem Calendar.seconds_eq (c : Calendar) :
    c.seconds = (daysSince2000 c.year c.month c.day * 1440 + c.hour * 60 + c.minute) * 60 + c.second := rfl

/-- The weekday follows the date. -/
theorem weekday_follows {y m d y' m' d' : Nat} (h : daysSince2000 y' m' d' = daysSince2000 y m d + 1) :
    (weekdayOf y m d + 1) % 7 = weekdayOf y' m' d' := by
  unfold weekdayOf
  omega

/-- R177: the date of the next day, in its range, with its weekday. -/
theorem Calendar.nextDay_spec {c : Calendar} (hc : c.Valid) (hend : ¬ (c.year = 2199 ∧ c.month = 12 ∧ c.day = 31)) :
    c.nextDay.Valid ∧ c.nextDay.toStamp.minuteNumber = c.toStamp.minuteNumber + 1440 := by
  obtain ⟨hr, hw⟩ := hc
  rw [clockInRange_iff] at hr
  obtain ⟨hy, hy', hm, hm', hd, hd', htime⟩ := hr
  have hpos := monthDays_pos c.year c.month
  unfold Calendar.nextDay
  dsimp only
  by_cases hday : c.day < monthDays c.year c.month
  · rw [if_pos hday]
    have hnext := daysSince2000_day c.year c.month c.day hd
    refine ⟨⟨(clockInRange_iff ..).2 ⟨hy, hy', hm, hm', Nat.le_add_left 1 _, hday, htime⟩, ?_⟩, ?_⟩
    · simp only [hw]; exact weekday_follows hnext
    · simp only [Calendar.toStamp, Stamp.minuteNumber, hnext]; omega
  · rw [if_neg hday]
    have hlast : c.day = monthDays c.year c.month := by omega
    by_cases hmonth : c.month < 12
    · rw [if_pos hmonth]
      have hnext := daysSince2000_month c.year c.month hm hpos
      rw [← hlast] at hnext
      refine ⟨⟨(clockInRange_iff ..).2 ⟨hy, hy', Nat.le_add_left 1 _, hmonth, le_rfl, monthDays_pos _ _, htime⟩, ?_⟩, ?_⟩
      · simp only [hw]; exact weekday_follows hnext
      · simp only [Calendar.toStamp, Stamp.minuteNumber, hnext]; omega
    · rw [if_neg hmonth]
      have hdec : c.month = 12 := by omega
      have hday31 : c.day = 31 := by rw [hlast, hdec, monthDays_december]
      have hnext := daysSince2000_year c.year hy
      rw [← hdec, ← hday31] at hnext
      have hyear : c.year + 1 ≤ 2199 := by
        rcases Nat.lt_or_ge c.year 2199 with h | h
        · exact h
        · exact absurd ⟨by omega, hdec, hday31⟩ hend
      refine ⟨⟨(clockInRange_iff ..).2 ⟨Nat.le_succ_of_le hy, hyear, le_rfl, (by omega : 1 ≤ 12), le_rfl, monthDays_pos _ _, htime⟩, ?_⟩, ?_⟩
      · simp only [hw]; exact weekday_follows (by simpa [hdec, hday31] using hnext)
      · simp only [Calendar.toStamp, Stamp.minuteNumber]
        rw [hdec, hday31] at hnext ⊢
        simp only [hnext]; omega

/-- R177: before its end the calendar advances by one second, in its range. -/
theorem Calendar.tick_spec {c : Calendar} (hc : c.Valid) (hend : c.atEnd = false) :
    c.tick.Valid ∧ c.tick.seconds = c.seconds + 1 := by
  obtain ⟨hr, hw⟩ := id hc
  rw [clockInRange_iff] at hr
  obtain ⟨hy, hy', hm, hm', hd, hd', hh, hmi, hsec⟩ := hr
  unfold Calendar.tick
  rw [if_neg (by simp [hend])]
  split
  · refine ⟨⟨(clockInRange_iff ..).2 ⟨hy, hy', hm, hm', hd, hd', hh, hmi, ?_⟩, hw⟩, ?_⟩
    · dsimp only; omega
    · simp only [Calendar.seconds_eq]; omega
  · split
    · refine ⟨⟨(clockInRange_iff ..).2 ⟨hy, hy', hm, hm', hd, hd', hh, ?_, Nat.zero_le _⟩, hw⟩, ?_⟩
      · dsimp only; omega
      · simp only [Calendar.seconds_eq]; omega
    · split
      · refine ⟨⟨(clockInRange_iff ..).2 ⟨hy, hy', hm, hm', hd, hd', ?_, Nat.zero_le _, Nat.zero_le _⟩, hw⟩, ?_⟩
        · dsimp only; omega
        · simp only [Calendar.seconds_eq]; omega
      · have hmidnight : Calendar.Valid { c with second := 0, minute := 0, hour := 0 } :=
          ⟨(clockInRange_iff ..).2 ⟨hy, hy', hm, hm', hd, hd', Nat.zero_le _, Nat.zero_le _, Nat.zero_le _⟩, hw⟩
        have hlast : ¬ (c.year = 2199 ∧ c.month = 12 ∧ c.day = 31) := by
          intro h
          simp only [Calendar.atEnd, decide_eq_false_iff_not] at hend
          omega
        obtain ⟨hvalid, hnext⟩ := Calendar.nextDay_spec hmidnight hlast
        refine ⟨hvalid, ?_⟩
        have hzero : (Calendar.nextDay { c with second := 0, minute := 0, hour := 0 }).second = 0 := by
          unfold Calendar.nextDay
          (repeat' split) <;> rfl
        simp only [Calendar.seconds, hnext, hzero]
        simp only [Calendar.toStamp, Stamp.minuteNumber]
        omega

theorem Calendar.tick_atEnd {c : Calendar} (h : c.atEnd = true) : c.tick = Calendar.origin := if_pos h

/-- Settles O7, by whether the calendar stands at its end. -/
theorem calendarAdvances : Obligations.CalendarAdvances :=
  ⟨fun _ hc hend => Calendar.tick_spec hc hend, fun _ hend => Calendar.tick_atEnd hend⟩

theorem Calendar.origin_valid : Calendar.origin.Valid := ⟨by decide, by decide⟩

theorem Calendar.tick_valid {c : Calendar} (hc : c.Valid) : c.tick.Valid := by
  cases hend : c.atEnd with
  | true => rw [Calendar.tick_atEnd hend]; exact Calendar.origin_valid
  | false => exact (Calendar.tick_spec hc hend).1

/-! ### The end of RESTORING -/

variable {s : State}

/-- R183, R194: RESTORING leaves the calendar as it was, or at its origin when the memory failed. -/
theorem restore_cal : (restore s).cck.cal = s.cck.cal ∨ (restore s).cck.cal = Calendar.origin := by
  cases h : s.stc.report with
  | held => left; simp [restore, endRestoring, h]
  | failed => right; simp [restore, endRestoring, h, restoreFailed]

/-- R104: RESTORING ends in JOINING. -/
theorem restore_node : (restore s).stc.node = .joining := by
  simp [restore, enterJoining]

theorem hunt_cal (r : Option ModuleReport) :
    (hunt r s).cck.cal = s.cck.cal ∨ (hunt r s).cck.cal = Calendar.origin := by
  unfold hunt
  dsimp only
  split
  · left; simp
  · simpa using restore_cal (s := { settleProbe s.stc.huntNext r s with
      stc := { (settleProbe s.stc.huntNext r s).stc with node := .restoring } })

theorem hunt_node (r : Option ModuleReport) : (hunt r s).stc.node = s.stc.node ∨ (hunt r s).stc.node = .joining := by
  unfold hunt
  dsimp only
  split
  · left; simp
  · right; exact restore_node

/-! ### The commands that change the clock and the start -/

theorem beginStart_cal : (beginStart s).cck.cal = s.cck.cal := rfl

theorem enterConflict_node : (enterConflict s).stc.node = .idConflict := by
  unfold enterConflict
  dsimp only
  split <;> simp

theorem node_of_running (h : s.running = true) :
    s.stc.node = .joining ∨ s.stc.node = .run ∨ s.stc.node = .idConflict := by
  cases hn : s.stc.node <;> simp [State.running, hn] at h ⊢

/-- Settles O8: of the commands that may touch the Start Controller, what each leaves of it. -/
theorem nodeStateChanges : Obligations.NodeStateChanges := by
  intro c s t ht hne
  obtain rfl := effect_of_exec ht
  cases hc : Instr.movesStart c with
  | false => exact absurd (effect_keepsStart hc s).stc hne
  | true =>
    cases c with
    | powerOn => exact .inl ⟨.inl rfl, rfl⟩
    | resetInput =>
      refine .inl ⟨.inr rfl, ?_⟩
      simp only [effect, exec, execResetInput] at hne ⊢
      split at hne
      · next h => rw [if_pos h]; rfl
      · exact absurd rfl hne
    | configRead image =>
      refine .inr (.inl ⟨⟨image, rfl⟩, ?_⟩)
      simp only [effect, exec, execConfigRead] at hne ⊢
      split at hne
      · next h =>
        rw [if_pos h]
        obtain ⟨-, hnode⟩ := h
        refine ⟨hnode, ?_⟩
        unfold readConfig
        (repeat' split) <;> simp [hnode]
      · exact absurd rfl hne
    | huntProbe r =>
      refine .inr (.inr (.inl ⟨⟨r, rfl⟩, ?_⟩))
      simp only [effect, exec, execHuntProbe] at hne ⊢
      split at hne
      · next h =>
        rw [if_pos h]
        obtain ⟨-, hnode⟩ := h
        exact ⟨hnode, hnode ▸ hunt_node r⟩
      · exact absurd rfl hne
    | joinTimerExpiry =>
      refine .inr (.inr (.inr (.inl ⟨rfl, ?_⟩)))
      simp only [effect, exec, execJoinTimerExpiry] at hne ⊢
      split at hne
      · next h => rw [if_pos h]; exact ⟨h.2.1, by simp⟩
      · exact absurd rfl hne
    | idConflict =>
      refine .inr (.inr (.inr (.inr (.inl ⟨rfl, ?_⟩))))
      simp only [effect, exec, execIdConflict] at hne ⊢
      split at hne
      · next h =>
        rw [if_pos h]
        refine ⟨?_, by simp [enterConflict_node]⟩
        rcases node_of_running h.1 with hn | hn | hn
        · exact .inl hn
        · exact .inr hn
        · exact absurd hn h.2
      · exact absurd rfl hne
    | mainPowerLoss => exact .inr (.inr (.inr (.inr (.inr ⟨rfl, rfl⟩))))
    | backupLatchSet => exact absurd rfl hne
    | secondEvent low =>
      refine absurd ?_ hne
      simp only [effect, exec, execSecondEvent]
      split <;> simp
    | setclock =>
      refine absurd (command_same State.stc rfl (fun _ => rfl) ?_) hne
      unfold setClockCommand
      (repeat' split) <;> simp [plain]
    | _ => cases hc

/-- The clock after a command that has no part in R183 to R187. -/
theorem effect_cck_of_startOnly {c : Instr} (hc : (∃ image, c = .configRead image) ∨ c = .joinTimerExpiry ∨
    c = .idConflict ∨ c = .mainPowerLoss) (s : State) : (effect c s).cck = s.cck := by
  rcases hc with ⟨image, rfl⟩ | rfl | rfl | rfl
  · simp only [effect, exec, execConfigRead]; split <;> simp
  · simp only [effect, exec, execJoinTimerExpiry]; split <;> simp
  · simp only [effect, exec, execIdConflict]; split <;> simp
  · rfl

theorem effect_cal_of_supply {c : Instr} (hc : c = .powerOn ∨ c = .resetInput ∨ c = .backupLatchSet) (s : State) :
    (effect c s).cck.cal = s.cck.cal := by
  rcases hc with rfl | rfl | rfl
  · rfl
  · simp only [effect, exec, execResetInput]; split <;> rfl
  · rfl

/-- Settles O9: a command that is none of those named keeps the clock, and the supplies keep the calendar. -/
theorem clockChanges : Obligations.ClockChanges := by
  intro c s t ht
  obtain rfl := effect_of_exec ht
  have keeps {P Q : Prop} (hkept : (effect c s).cck = s.cck) :
      ((effect c s).cck.cal ≠ s.cck.cal → P) ∧ ((effect c s).cck ≠ s.cck → Q) :=
    ⟨fun h => absurd (congrArg Cck.cal hkept) h, fun h => absurd hkept h⟩
  cases hc : Instr.movesStart c with
  | false => exact keeps (effect_keepsStart hc s).cck
  | true =>
    cases c with
    | powerOn | resetInput | backupLatchSet => exact ⟨fun h => absurd (effect_cal_of_supply (by simp) s) h, fun _ => by simp⟩
    | configRead image => exact keeps (effect_cck_of_startOnly (.inl ⟨image, rfl⟩) s)
    | joinTimerExpiry => exact keeps (effect_cck_of_startOnly (.inr (.inl rfl)) s)
    | idConflict => exact keeps (effect_cck_of_startOnly (.inr (.inr (.inl rfl))) s)
    | mainPowerLoss => exact keeps (effect_cck_of_startOnly (.inr (.inr (.inr rfl))) s)
    | secondEvent | huntProbe | setclock => exact ⟨fun _ => by simp, fun _ => by simp⟩
    | _ => cases hc

theorem setClockCommand_valid {y mo d h mi sec : Nat} {key : Bool} (hs : s.cck.cal.Valid) :
    (setClockCommand y mo d h mi sec key s).state.cck.cal.Valid := by
  unfold setClockCommand
  split
  · exact hs
  · next hr =>
    split
    · exact hs
    · exact ⟨by simpa [setClock, writeStamp, calendarOf] using hr, rfl⟩

theorem secondEvent_cal_valid {low : Bool} (hs : s.cck.cal.Valid) : (effect (.secondEvent low) s).cck.cal.Valid := by
  have htick : (readLevel low (tickCalendar s)).cck.cal = s.cck.cal.tick := by
    unfold readLevel
    split <;> rfl
  have heffect : (effect (.secondEvent low) s).cck.cal = s.cck.cal.tick := by
    simp only [effect, exec, execSecondEvent]
    split <;> simp [htick]
  rw [heffect]
  exact Calendar.tick_valid hs

theorem effect_cal_valid (c : Instr) {s : State} (hs : s.cck.cal.Valid) : (effect c s).cck.cal.Valid := by
  by_cases hcal : (effect c s).cck.cal = s.cck.cal
  · rw [hcal]; exact hs
  · rcases (clockChanges c s _ (exec_eq c s)).1 hcal with ⟨low, rfl⟩ | ⟨r, rfl⟩ | ⟨y, mo, d, h, mi, sec, key, rfl⟩
    · exact secondEvent_cal_valid hs
    · simp only [effect, exec, execHuntProbe]
      split
      · rcases hunt_cal (s := s) r with h | h <;> rw [h]
        · exact hs
        · exact Calendar.origin_valid
      · exact hs
    · change (command 0x1F (setClockCommand y mo d h mi sec key) s).cck.cal.Valid
      rcases command_cases 0x1F (setClockCommand y mo d h mi sec key) s with hc | hc | ⟨a, rfl | rfl, hc⟩ <;> rw [hc]
      · exact hs
      · exact hs
      · exact hs
      · exact setClockCommand_valid hs

/-- Every step keeps what every command keeps. -/
theorem step_keeps {P : State → Prop} (hqueue : ∀ s cs, P s → P { s with pending := cs })
    (heffect : ∀ c s, P s → P (effect c s)) {s t : State} (hs : P s) (ht : step s = .next t) : P t := by
  unfold step at ht
  split at ht
  · cases ht; exact hs
  · rw [exec_eq] at ht
    cases ht
    exact heffect _ _ (hqueue _ _ hs)

/-- Settles O6: the second, the setting and the end of RESTORING each leave a calendar in its range. -/
theorem stepKeepsCalendar : Obligations.StepKeepsCalendar := fun _ _ =>
  step_keeps (P := fun s => s.cck.cal.Valid) (fun _ _ h => h) (fun c _ h => effect_cal_valid c h)

end Sys2Proof.Machine

/-! PROOFS. Every command keeps the bounds of the tables. -/

namespace Sys2Proof.Machine

open Sys2Proof

variable {s : State}

/-! ### The rules of the station link keep the bounds -/

theorem openTaker_bounded (p : PocketNo) (w : Want) (m : SeekMode) (l : Nat) (h : s.Bounded)
    (hroom : s.cue.givers.length + s.cue.takers.length < 8) : (openTaker p w m l s).state.Bounded := by
  refine handSeek_bounded _ { h with transfers := ?_, offers := fun k hk => ?_ }
  · simp only [List.length_append, List.length_singleton]; omega
  · rcases List.mem_append.1 hk with hk | hk
    · exact h.offers k hk
    · rw [List.mem_singleton.1 hk]; exact Nat.zero_le _

theorem need_bounded (p wt w m l : Nat) (h : s.Bounded) : (need p wt w m l s).state.Bounded := by
  unfold need
  split
  · split
    · exact h
    · split
      · exact h
      · next hroom =>
        have hroom' : s.openTransfers < 8 := by simpa using hroom
        split
        · exact h
        · exact openTaker_bounded _ _ _ _ h hroom'
  · exact h

theorem cancel_bounded (p : PocketNo) (h : s.Bounded) (hr : s.running = true) : (cancel p s).state.Bounded := by
  unfold cancel
  split
  · exact settleReader_bounded (cancelTaker_bounded _ h)
  · exact h

theorem stage_bounded (p : PocketNo) (h : s.Bounded) : (stage p s).state.Bounded := by
  unfold stage fillStage
  (repeat' split) <;> exact with_slk h rfl rfl

theorem commit_bounded (p : PocketNo) (token : Nat) (h : s.Bounded) : (commit p token s).state.Bounded := by
  unfold commit commitStage
  (repeat' split) <;> simp [plain, h]

theorem useTool_bounded (p : PocketNo) (sec : Nat) (h : s.Bounded) : (useTool p sec s).state.Bounded := by
  unfold useTool
  (repeat' split) <;> try exact h
  next e he =>
    have hentry : s.entry? e.tool = some e := by
      unfold State.loadedEntry at he
      split at he
      · obtain ⟨t, -, ht⟩ := Option.bind_eq_some_iff.1 he
        rw [(mem_of_entry? ht).2]; exact ht
      · cases he
    exact countUse_bounded _ _ _ (clampUse_bounded _ h) ((entry?_of_trg (by simp) _).trans hentry)

theorem freePocket_bounded (p : PocketNo) (h : s.Bounded) : (freePocket p s).state.Bounded := by
  unfold freePocket
  (repeat' split) <;> simp [plain, h]

theorem toolChecked_bounded {sel arg : Nat} {f : ToolSel → State → Answer} (h : s.Bounded)
    (hf : ∀ x, (f x s).state.Bounded) : (toolChecked sel arg f s).state.Bounded := by
  rcases toolChecked_state sel arg f s with hc | ⟨x, hc⟩ <;> rw [hc]
  · exact h
  · exact hf x

theorem toolEntry_bounded {key : Bool} {f : Entry → State → Option State} (h : s.Bounded)
    (hf : ∀ e t, f e s = some t → t.Bounded) (x : ToolSel) : (toolEntry key f x s).state.Bounded := by
  rcases toolEntry_state key f x s with hc | ⟨e, t, hft, hc⟩ <;> rw [hc]
  · exact h
  · exact hf e t hft

theorem withhold_bounded (h : s.Bounded) (e : Entry) (t : State) (ht : withhold e s = some t) : t.Bounded := by
  unfold withhold at ht
  split at ht
  case h_2 =>
    cases ht
    exact h
  all_goals cases ht
  all_goals exact settleReader_bounded (versionedCondition_bounded _ _ h fun _ => rfl)

theorem releaseTool_bounded (h : s.Bounded) (e : Entry) (t : State) (ht : releaseTool e s = some t) : t.Bounded := by
  unfold releaseTool at ht
  split at ht <;> cases ht
  exact versioned_bounded _ _ h fun _ => rfl

theorem sweepCommand_bounded (h : s.Bounded) : (sweepCommand s).state.Bounded := by
  unfold sweepCommand
  split <;> simp [plain, h]

theorem setHold_bounded (p : PocketNo) (b key : Bool) (h : s.Bounded) : (setHold p b key s).state.Bounded := by
  unfold setHold
  (repeat' split) <;> simp [plain, h]

theorem forgetTool_bounded (t : ToolId) (key : Bool) (h : s.Bounded) : (forgetTool t key s).state.Bounded := by
  unfold forgetTool
  (repeat' split) <;> simp [plain, h]

theorem setClockCommand_bounded (y mo d hr mi sec : Nat) (key : Bool) (h : s.Bounded) :
    (setClockCommand y mo d hr mi sec key s).state.Bounded := by
  unfold setClockCommand
  (repeat' split) <;> simp [plain, h]

/-! ### Every command keeps the bounds -/

theorem secondEvent_effect_bounded (low : Bool) (h : s.Bounded) : (effect (.secondEvent low) s).Bounded := by
  have hread := readLevel_bounded low (tickCalendar_bounded h)
  simp only [effect, exec, execSecondEvent]
  split
  · exact secondEvent_bounded hread
  · exact hread

theorem pressServed_bounded (a : PressAnswer) (key : Bool) (h : s.Bounded) : (effect (.pressServed a key) s).Bounded := by
  simp only [effect, exec, execPressServed]
  (repeat' split) <;> try exact h
  · exact settleReader_bounded (pressEffect_bounded _ _ (consumePress_bounded _ h))
  · exact dropPress_bounded _ h
  · exact settleReader_bounded (silence_bounded _ (dropPress_bounded _ h))

theorem burstStart_bounded (n : Nat) (edge : Bool) (temperature : Option Int) (h : s.Bounded) :
    (effect (.burstStart n edge temperature) s).Bounded := by
  simp only [effect, exec, execBurstStart]
  split
  · exact with_pru (abortBurst_bounded h) rfl
  · exact h

theorem burstEnd_bounded (h : s.Bounded) : (effect .burstEnd s).Bounded := by
  simp only [effect, exec, execBurstEnd]
  (repeat' split) <;> try exact h
  exact concludeBurst_bounded _ (with_pru h rfl)

theorem attentionPulseEnd_bounded (h : s.Bounded) : (effect .attentionPulseEnd s).Bounded := by
  simp only [effect, exec, execAttentionPulseEnd]
  split
  · exact { h with owed := Nat.le_trans (Nat.sub_le _ _) h.owed }
  · exact h

theorem lapseReceived_bounded (src : StationId) (n : SeekNo) (r : LapseReason) (h : s.Bounded) :
    (effect (.lapseReceived src n r) s).Bounded := by
  have hgiver := giverLapse_bounded src n h
  simp only [effect, exec, execLapseReceived]
  split
  · refine settleReader_bounded ?_
    split
    · next k hk => exact takerLapse_bounded _ _ hgiver (offers_of_taker? hgiver hk)
    · exact hgiver
  · exact h

theorem releasedReceived_bounded (src : StationId) (n : SeekNo) (t : Tdr) (h : s.Bounded) :
    (effect (.releasedReceived src n t) s).Bounded := by
  simp only [effect, exec, execReleasedReceived]
  (repeat' split) <;> try exact h
  exact settleReader_bounded (takerReleased_bounded _ _ _ (mergeRecord_bounded _ h))

theorem windowTimerExpiry_bounded (n : SeekNo) (h : s.Bounded) : (effect (.windowTimerExpiry n) s).Bounded := by
  simp only [effect, exec, execWindowTimerExpiry]
  split
  · next k hk =>
    split
    · exact settleReader_bounded (windowEnds_bounded _ h (offers_of_taker? h hk))
    · exact h
  · exact h

theorem awayTimerExpiry_bounded (t : ToolId) (h : s.Bounded) : (effect (.awayTimerExpiry t) s).Bounded := by
  simp only [effect, exec, execAwayTimerExpiry]
  (repeat' split) <;> try exact h
  exact versioned_bounded _ _ h fun _ => rfl

theorem transitTimerExpiry_bounded (t : ToolId) (h : s.Bounded) : (effect (.transitTimerExpiry t) s).Bounded := by
  simp only [effect, exec, execTransitTimerExpiry]
  split
  · exact foldl_bounded (fun _ _ h => beginTransitCheck_bounded _ h) _ h
  · exact h

theorem effect_bounded (c : Instr) {s : State} (h : s.Bounded) : (effect c s).Bounded := by
  cases c with
  | clear => exact command_bounded _ _ h fun _ => with_slk h rfl rfl
  | unknownCommand => exact command_bounded _ _ h fun _ => h
  | need => exact command_bounded _ _ h fun _ => need_bounded _ _ _ _ _ h
  | cancel => exact command_bounded _ _ h (cancel_bounded _ h)
  | stage => exact command_bounded _ _ h fun _ => stage_bounded _ h
  | commit => exact command_bounded _ _ h fun _ => commit_bounded _ _ h
  | use => exact command_bounded _ _ h fun _ => useTool_bounded _ _ h
  | free => exact command_bounded _ _ h fun _ => freePocket_bounded _ h
  | notices =>
    exact command_bounded _ _ h fun _ =>
      { h with notices := Nat.le_trans (by simp [fetchNotices]) h.notices }
  | tool sel arg act =>
    refine command_bounded _ _ h fun _ => ?_
    split
    · exact toolChecked_bounded h fun _ => h
    · exact h
  | toolWithhold => exact command_bounded _ _ h fun _ => toolChecked_bounded h (toolEntry_bounded h (withhold_bounded h))
  | toolRelease => exact command_bounded _ _ h fun _ => toolChecked_bounded h (toolEntry_bounded h (releaseTool_bounded h))
  | sweep => exact command_bounded _ _ h fun _ => sweepCommand_bounded h
  | sweepstat => exact command_bounded _ _ h fun _ => h
  | hold => exact command_bounded _ _ h fun _ => setHold_bounded _ _ _ h
  | unhold => exact command_bounded _ _ h fun _ => setHold_bounded _ _ _ h
  | forget => exact command_bounded _ _ h fun _ => forgetTool_bounded _ _ h
  | setclock => exact command_bounded _ _ h fun _ => setClockCommand_bounded _ _ _ _ _ _ _ h
  | secondEvent low => exact secondEvent_effect_bounded low h
  | pressServed a key => exact pressServed_bounded a key h
  | burstStart n edge temperature => exact burstStart_bounded n edge temperature h
  | burstEnd => exact burstEnd_bounded h
  | attentionPulseEnd => exact attentionPulseEnd_bounded h
  | lapseReceived src n r => exact lapseReceived_bounded src n r h
  | releasedReceived src n t => exact releasedReceived_bounded src n t h
  | windowTimerExpiry n => exact windowTimerExpiry_bounded n h
  | awayTimerExpiry t => exact awayTimerExpiry_bounded t h
  | transitTimerExpiry t => exact transitTimerExpiry_bounded t h
  | joinTimerExpiry =>
    simp only [effect, exec, execJoinTimerExpiry]
    split
    · exact settleReader_bounded (startIdleSweep_bounded (with_hli (setNode_bounded _ h) rfl h.routine))
    · exact h
  | moduleChanged | lockFault | doorOpening | doorClosing =>
    simp only [effect, exec, execModuleChanged, execLockFault, execDoorOpening, execDoorClosing]
    split
    · exact settleReader_bounded (by simp [h])
    · exact h
  | backupLatchSet | sample | resultSent | status | replySent | mainPowerLoss | attentionReleaseIntervalEnd =>
    simp only [effect, exec, execBackupLatchSet, execSample, execResultSent, execStatus, execReplySent, execMainPowerLoss,
      execAttentionReleaseIntervalEnd]
    (repeat' split) <;> exact { h with }
  | _ =>
    simp only [effect, exec, execPowerOn, execResetInput, execConfigRead, execHuntProbe,
      execModuleSilent, execModuleReturn, execLatchPositionReached, execPressReported, execPocketTimerExpiry,
      execReadAttemptEnd, execHeadMessageDiscarded, execHeadTag, execHeadTagGone,
      execFrameDiscarded, execIdConflict, execAnnounceReceived, execSeekReceived, execOfferReceived, execTakeReceived,
      execReceivedFrame, execRecordReceived, execWhereisReceived, execSendAttempt, execAttemptSent,
      execAttemptCollided, execBackoffExpiry, execDeadlineExpiry, execHoldTimerExpiry, execReleaseTimerExpiry,
      execTransitCheckExpiry, execClaimWindowExpiry, execCommandCheckFail, execCommandOverrun]
    (repeat' split) <;> simp [h]

/-- Settles O4: every command keeps the bounds, operation by operation (Laws/Bounds). -/
theorem stepKeepsBounds : Obligations.StepKeepsBounds := fun _ _ =>
  step_keeps (P := State.Bounded) (fun _ _ h => with_pending _ h) (fun c _ h => effect_bounded c h)

end Sys2Proof.Machine

/-! PROOFS. R101: a node in ID_CONFLICT takes no frame and drives none. For each shared operation that may touch the Hall Line
Interface one lemma, in the order of the model: in ID_CONFLICT it keeps the interface silent. -/

namespace Sys2Proof.Machine

open Sys2Proof

variable {s : State}

/-- R101: both transmit queues are empty and no send is in flight. -/
def Hli.Silent (x : Hli) : Prop := x.urgent = [] ∧ x.routine = [] ∧ x.send = none

theorem State.silent_iff : s.Silent ↔ (s.stc.node = .idConflict → s.hli.Silent) := Iff.rfl

@[simp] theorem urgentTakes_of_conflict (hn : s.stc.node = .idConflict) : s.urgentTakes = false := by
  simp [State.urgentTakes, hn]

@[simp] theorem handRecord_of_conflict (t : ToolId) (hn : s.stc.node = .idConflict) : handRecord t s = s := by
  unfold handRecord
  split <;> simp [hn]

@[simp] theorem handPlain_of_conflict (f : Frame) (o : FrameOwner) (hn : s.stc.node = .idConflict) :
    handPlain f o s = s := by simp [handPlain, urgentTakes_of_conflict hn]

@[simp] theorem withdrawRecord_silent (t : ToolId) (h : s.hli.Silent) : (withdrawRecord t s).hli.Silent := by
  obtain ⟨hu, hr, hs⟩ := h
  simp [Hli.Silent, hu, hr, hs]

theorem foldl_silent {α : Type} {f : State → α → State} (hnode : ∀ s a, (f s a).stc = s.stc)
    (hf : ∀ s a, s.stc.node = .idConflict → s.hli.Silent → (f s a).hli.Silent) (l : List α)
    (hn : s.stc.node = .idConflict) (h : s.hli.Silent) : (l.foldl f s).hli.Silent := by
  induction l generalizing s with
  | nil => exact h
  | cons a l ih => exact ih (by rw [hnode]; exact hn) (hf s a hn h)

@[simp] theorem failTaker_silent (k : Taker) (r : FailReason) (h : s.hli.Silent) : (failTaker k r s).hli.Silent := by
  simpa using h


@[simp] theorem sendLapse_silent (dst : StationId) (n : SeekNo) (reason : LapseReason) (o : FrameOwner)
    (hn : s.stc.node = .idConflict) (h : s.hli.Silent) : (sendLapse dst n reason o s).hli.Silent := by
  simp [sendLapse, hn, h]

@[simp] theorem versioned_silent (t : ToolId) (f : Entry → Entry) (hn : s.stc.node = .idConflict) (h : s.hli.Silent) :
    (versioned t f s).hli.Silent := by
  unfold versioned
  dsimp only
  (repeat' split) <;> simp [hn, h]

@[simp] theorem displaceGauge_silent (t : ToolId) (hn : s.stc.node = .idConflict) (h : s.hli.Silent) : (displaceGauge
    t s).hli.Silent := by
  unfold displaceGauge
  (repeat' split) <;> simp [hn, h]

@[simp] theorem openAdoption_silent (t : ToolId) (kind : Nat) (x : Place) (hn : s.stc.node = .idConflict) (h :
    s.hli.Silent) : (openAdoption t kind x s).hli.Silent := by
  unfold openAdoption
  dsimp only
  (repeat' split) <;> simp [hn, h]

@[simp] theorem openTransitCheck_silent (t : ToolId) (hn : s.stc.node = .idConflict) (h : s.hli.Silent) :
    (openTransitCheck t s).hli.Silent := by
  unfold openTransitCheck
  simp [hn, h]

@[simp] theorem takeWaiting_silent (w : Waiting) (hn : s.stc.node = .idConflict) (h : s.hli.Silent) : (takeWaiting w
    s).hli.Silent := by
  unfold takeWaiting
  dsimp only
  (repeat' split) <;> simp [hn, h]

@[simp] theorem serveWaiting_silent (l : List Waiting) (hn : s.stc.node = .idConflict) (h : s.hli.Silent) :
    (serveWaiting l s).hli.Silent := by
  induction l generalizing s with
  | nil => exact h
  | cons w ws ih =>
    unfold serveWaiting
    split
    · exact ih (by simpa using hn) (takeWaiting_silent w hn h)
    · exact h

@[simp] theorem closeWindow_silent (t : ToolId) (hn : s.stc.node = .idConflict) (h : s.hli.Silent) : (closeWindow t
    s).hli.Silent := by
  unfold closeWindow
  dsimp only
  (repeat' split) <;> simp [hn, h]

@[simp] theorem closeTransitCheck_silent (t : ToolId) (hn : s.stc.node = .idConflict) (h : s.hli.Silent) :
    (closeTransitCheck t s).hli.Silent := by
  unfold closeTransitCheck
  dsimp only
  (repeat' split) <;> simp [hn, h]

@[simp] theorem beginTransitCheck_silent (t : ToolId) (hn : s.stc.node = .idConflict) (h : s.hli.Silent) :
    (beginTransitCheck t s).hli.Silent := by
  unfold beginTransitCheck
  (repeat' split) <;> simp [hn, h]

@[simp] theorem foreignArrival_silent (t : ToolId) (kind : Nat) (x : Place) (hn : s.stc.node = .idConflict) (h :
    s.hli.Silent) : (foreignArrival t kind x s).hli.Silent := by
  unfold foreignArrival
  dsimp only
  (repeat' split) <;> simp [hn, h]

@[simp] theorem settleAdoption_silent (t : ToolId) (fallback heard : Option Record) (hn : s.stc.node = .idConflict)
    (h : s.hli.Silent) : (settleAdoption t fallback heard s).hli.Silent := by
  refine serveWaiting_silent _ (by simpa using hn) ?_
  simp [hn, h]

@[simp] theorem takeNext_silent (l : List Offer) (k : Taker) (hn : s.stc.node = .idConflict) (h : s.hli.Silent) :
    (takeNext l k s).hli.Silent := by
  induction l generalizing k with
  | nil => exact failTaker_silent _ _ h
  | cons o rest ih => simpa [takeNext, hn] using ih _

@[simp] theorem fallBack_silent (k : Taker) (hn : s.stc.node = .idConflict) (h : s.hli.Silent) : (fallBack k
    s).hli.Silent := by
  unfold fallBack
  dsimp only
  (repeat' split) <;> simp [hn, h]

@[simp] theorem handSeek_silent (k : Taker) (hn : s.stc.node = .idConflict) (h : s.hli.Silent) :
    (handSeek k s).hli.Silent := by simp [handSeek, hn, h]

@[simp] theorem handOffer_silent (g : Giver) (hn : s.stc.node = .idConflict) (h : s.hli.Silent) :
    (handOffer g s).hli.Silent := by simp [handOffer, hn, h]

@[simp] theorem lapseGiver_silent (g : Giver) (hn : s.stc.node = .idConflict) (h : s.hli.Silent) : (lapseGiver g
    s).hli.Silent := by
  unfold lapseGiver
  (repeat' split) <;> simp [hn, h]

@[simp] theorem lapseSeeker_silent (g : Giver) (hn : s.stc.node = .idConflict) (h : s.hli.Silent) : (lapseSeeker g
    s).hli.Silent := by
  unfold lapseSeeker
  simp [hn, h]

@[simp] theorem withdrawGiver_silent (c : GiverCause) (t : ToolId) (hn : s.stc.node = .idConflict) (h : s.hli.Silent)
    : (withdrawGiver c t s).hli.Silent := by
  unfold withdrawGiver
  (repeat' split) <;> simp [hn, h]

@[simp] theorem versionedCondition_silent (t : ToolId) (f : Entry → Entry) (hn : s.stc.node = .idConflict) (h :
    s.hli.Silent) : (versionedCondition t f s).hli.Silent := by
  unfold versionedCondition
  (repeat' split) <;> simp [hn, h]

@[simp] theorem deleteEntry_silent (t : ToolId) (hn : s.stc.node = .idConflict) (h : s.hli.Silent) :
    (deleteEntry t s).hli.Silent := by
  unfold deleteEntry
  split
  · exact h
  · next e he =>
    split
    · dsimp only
      have hleft (u : State) (hu : u.stc.node = .idConflict) (hs : u.hli.Silent) :
          (closeWindow t (closeTransitCheck t u)).hli.Silent := by simp [hu, hs]
      split <;> exact hleft _ (by simp [hn]) (by simp [hn, h])
    · simp [h]

@[simp] theorem yieldTo_silent (r : Record) (hn : s.stc.node = .idConflict) (h : s.hli.Silent) :
    (yieldTo r s).hli.Silent := by
  unfold yieldTo
  split
  · exact h
  · dsimp only
    split <;> exact closeTransitCheck_silent _ (by simp [hn]) (by simp [hn, h])

@[simp] theorem conflictFound_silent (t : ToolId) (hn : s.stc.node = .idConflict) (h : s.hli.Silent) : (conflictFound
    t s).hli.Silent := by
  unfold conflictFound
  (repeat' split) <;> simp [hn, h]

@[simp] theorem conflictReceived_silent (t : ToolId) (hn : s.stc.node = .idConflict) (h : s.hli.Silent) :
    (conflictReceived t s).hli.Silent := by
  unfold conflictReceived
  dsimp only
  (repeat' split) <;> simp [hn, h]

@[simp] theorem reassert_silent (r : Record) (hn : s.stc.node = .idConflict) (h : s.hli.Silent) : (reassert r
    s).hli.Silent := by
  unfold reassert
  (repeat' split) <;> simp [hn, h]

@[simp] theorem retag_silent (t : ToolId) (kind : Nat) (hn : s.stc.node = .idConflict) (h : s.hli.Silent) : (retag t
    kind s).hli.Silent := by
  unfold retag
  (repeat' split) <;> simp [hn, h]

@[simp] theorem settleHolding_silent (held : Bool) (r : Record) (hn : s.stc.node = .idConflict) (h : s.hli.Silent) :
    (settleHolding held r s).hli.Silent := by
  unfold settleHolding
  (repeat' split) <;> simp [hn, h]

@[simp] theorem mergeSuperseding_silent (e : Entry) (r : Record) (hn : s.stc.node = .idConflict) (h : s.hli.Silent) :
    (mergeSuperseding e r s).hli.Silent := by
  unfold mergeSuperseding
  (repeat' split) <;> simp [hn, h]

@[simp] theorem mergeByVersion_silent (e : Entry) (r : Record) (hn : s.stc.node = .idConflict) (h : s.hli.Silent) :
    (mergeByVersion e r s).hli.Silent := by
  unfold mergeByVersion
  (repeat' split) <;> simp [hn, h]

@[simp] theorem mergeCustody_silent (e : Entry) (r : Record) (hn : s.stc.node = .idConflict) (h : s.hli.Silent) :
    (mergeCustody e r s).hli.Silent := by
  unfold mergeCustody
  (repeat' split) <;> simp [hn, h]

@[simp] theorem mergeRecord_silent (r : Record) (hn : s.stc.node = .idConflict) (h : s.hli.Silent) : (mergeRecord r
    s).hli.Silent := by
  unfold mergeRecord
  dsimp only
  (repeat' split) <;> simp [hn, h]

@[simp] theorem settleCheck_silent (c : PresenceCheck) (o : Outcome) (hn : s.stc.node = .idConflict) (h :
    s.hli.Silent) : (settleCheck c o s).hli.Silent := by
  unfold settleCheck
  dsimp only
  (repeat' split) <;> simp [hn, h]

@[simp] theorem leavePlace_silent (t : ToolId) (hn : s.stc.node = .idConflict) (h : s.hli.Silent) : (leavePlace t
    s).hli.Silent := by
  unfold leavePlace
  dsimp only
  (repeat' split) <;> simp [hn, h]

@[simp] theorem forceAway_silent (p : PocketNo) (t : ToolId) (hn : s.stc.node = .idConflict) (h : s.hli.Silent) :
    (forceAway p t s).hli.Silent := by
  unfold forceAway
  (repeat' split) <;> simp [hn, h]

@[simp] theorem cacheReceived_silent (src : StationId) (t : ToolId) (v : Version) (hn : s.stc.node = .idConflict) (h :
    s.hli.Silent) : (cacheReceived src t v s).hli.Silent := by
  unfold cacheReceived
  dsimp only
  simp [hn, h]

@[simp] theorem takerArrival_silent (k : Taker) (o : Offer) (q : PocketNo) (kind : Nat) (hn : s.stc.node =
    .idConflict) (h : s.hli.Silent) : (takerArrival k o q kind s).hli.Silent := by
  unfold takerArrival
  dsimp only
  (repeat' split) <;> simp [hn, h]

@[simp] theorem settleTag_silent (p : PocketNo) (u : ToolId) (kind : Nat) (hn : s.stc.node = .idConflict) (h :
    s.hli.Silent) : (settleTag p u kind s).hli.Silent := by
  unfold settleTag
  dsimp only
  (repeat' split) <;> simp [hn, h]

@[simp] theorem arriveInsert_silent (p : PocketNo) (u : ToolId) (kind : Nat) (hn : s.stc.node = .idConflict) (h :
    s.hli.Silent) : (arriveInsert p u kind s).hli.Silent := by
  unfold arriveInsert
  (repeat' split) <;> simp [hn, h]

@[simp] theorem insertTag_silent (p : PocketNo) (l : Latch) (u : ToolId) (kind : Nat) (hn : s.stc.node = .idConflict)
    (h : s.hli.Silent) : (insertTag p l u kind s).hli.Silent := by
  unfold insertTag
  simp [hn, h]

@[simp] theorem insertOutcome_silent (p : PocketNo) (o : Outcome) (hn : s.stc.node = .idConflict) (h : s.hli.Silent) :
    (insertOutcome p o s).hli.Silent := by
  unfold insertOutcome
  (repeat' split) <;> simp [hn, h]

@[simp] theorem vacatedOutcome_silent (p : PocketNo) (v : Vacated) (o : Outcome) (hn : s.stc.node = .idConflict) (h :
    s.hli.Silent) : (vacatedOutcome p v o s).hli.Silent := by
  unfold vacatedOutcome
  dsimp only
  (repeat' split) <;> simp [hn, h]

@[simp] theorem removeOutcome_silent (p : PocketNo) (t : ToolId) (o : Outcome) (hn : s.stc.node = .idConflict) (h :
    s.hli.Silent) : (removeOutcome p t o s).hli.Silent := by
  unfold removeOutcome
  (repeat' split) <;> simp [hn, h]

@[simp] theorem toolMissing_silent (p : PocketNo) (t : ToolId) (hn : s.stc.node = .idConflict) (h : s.hli.Silent) :
    (toolMissing p t s).hli.Silent := by
  unfold toolMissing
  simp [hn, h]

@[simp] theorem recheckOutcome_silent (p : PocketNo) (t : ToolId) (o : Outcome) (hn : s.stc.node = .idConflict) (h :
    s.hli.Silent) : (recheckOutcome p t o s).hli.Silent := by
  unfold recheckOutcome
  (repeat' split) <;> simp [hn, h]

@[simp] theorem targetOutcome_silent (p : PocketNo) (o : Outcome) (hn : s.stc.node = .idConflict) (h : s.hli.Silent) :
    (targetOutcome p o s).hli.Silent := by
  unfold targetOutcome
  (repeat' split) <;> simp [hn, h]

@[simp] theorem removal_silent (g : Giver) (q : PocketNo) (hn : s.stc.node = .idConflict) (h : s.hli.Silent) :
    (removal g q s).hli.Silent := by
  unfold removal
  dsimp only
  (repeat' split) <;> simp [hn, h]

@[simp] theorem giverAway_silent (g : Giver) (q : PocketNo) (hn : s.stc.node = .idConflict) (h : s.hli.Silent) :
    (giverAway g q s).hli.Silent := by
  unfold giverAway
  simp [hn, h]

@[simp] theorem afterRemoval_silent (q : PocketNo) (u : ToolId) (kind : Nat) (hn : s.stc.node = .idConflict) (h :
    s.hli.Silent) : (afterRemoval q u kind s).hli.Silent := by
  unfold afterRemoval
  simp [hn, h]

@[simp] theorem releasingOutcome_silent (g : Giver) (q : PocketNo) (o : Outcome) (hn : s.stc.node = .idConflict) (h :
    s.hli.Silent) : (releasingOutcome g q o s).hli.Silent := by
  unfold releasingOutcome
  (repeat' split) <;> simp [hn, h]

@[simp] theorem ownLogic_silent (p : PocketNo) (o : Outcome) (hn : s.stc.node = .idConflict) (h : s.hli.Silent) :
    (ownLogic p o s).hli.Silent := by
  unfold ownLogic
  dsimp only
  (repeat' split) <;> simp [hn, h]

@[simp] theorem sweepOutcome_silent (p : PocketNo) (own : Bool) (o : Outcome) (hn : s.stc.node = .idConflict) (h :
    s.hli.Silent) : (sweepOutcome p own o s).hli.Silent := by
  unfold sweepOutcome
  dsimp only
  (repeat' split) <;> simp [hn, h]

/-- A presence check that settles on a read outcome, if it is still pending. -/
theorem settleDue_silent (c : PresenceCheck) (o : Outcome) (hn : s.stc.node = .idConflict) (h : s.hli.Silent) :
    (if s.trg.checks.contains c then settleCheck c o s else s).hli.Silent := by
  split <;> simp [hn, h]

@[simp] theorem deliver_silent (p : PocketNo) (o : Outcome) (hn : s.stc.node = .idConflict) (h : s.hli.Silent) :
    (deliver p o s).hli.Silent := by
  unfold deliver
  extract_lets k flagged own swept taken due settled
  have hflag : flagged.stc = s.stc ∧ flagged.hli = s.hli := by unfold flagged; split <;> simp
  have hown : own.stc = s.stc ∧ own.hli.Silent := by
    unfold own; split <;> simp [hflag, hn, h]
  have htaken : taken.stc = s.stc ∧ taken.hli.Silent := by
    unfold taken; split <;> simp [hown, hn]
  have hsettled : settled.stc = s.stc ∧ settled.hli.Silent :=
    ⟨(foldl_same State.stc (fun s c => by split <;> simp) _ _).trans htaken.1,
      foldl_silent (fun s c => by split <;> simp) (fun _ c => settleDue_silent c o) _ (by rw [htaken.1, hn]) htaken.2⟩
  split
  · split <;> simp [hsettled, hn]
  · exact hsettled.2
  · exact hsettled.2

@[simp] theorem grantRead_silent (p : PocketNo) (rest : List PocketNo) (hn : s.stc.node = .idConflict) (h :
    s.hli.Silent) : (grantRead p rest s).hli.Silent := by
  unfold grantRead
  (repeat' split) <;> simp [hn, h]

theorem visit_silent (h : s.hli.Silent) : (visit s).hli.Silent := by simpa using h

/-- R49, R60: grants and visits keep the interface silent, as many as there are. -/
@[simp] theorem settleReader_silent (hn : s.stc.node = .idConflict) (h : s.hli.Silent) : (settleReader s).hli.Silent := by
  unfold settleReader
  generalize 256 = n
  induction n generalizing s with
  | zero => exact h
  | succ n ih =>
    unfold readerRun
    split
    · next t ht =>
      have hnode : t.stc = s.stc := (readerStep_frame ht).2.1
      refine ih (by rw [hnode, hn]) ?_
      unfold readerStep at ht
      split at ht
      · cases ht
      · split at ht
        · cases ht; exact grantRead_silent _ _ hn h
        · split at ht <;> cases ht
          exact visit_silent h
    · exact h

@[simp] theorem failRead_silent (p : PocketNo) (hn : s.stc.node = .idConflict) (h : s.hli.Silent) : (failRead p
    s).hli.Silent := by
  unfold failRead
  (repeat' split) <;> simp [hn, h]

@[simp] theorem failGiverAt_silent (p : PocketNo) (hn : s.stc.node = .idConflict) (h : s.hli.Silent) : (failGiverAt p
    s).hli.Silent := by
  unfold failGiverAt
  (repeat' split) <;> simp [hn, h]

@[simp] theorem failTakerAt_silent (p : PocketNo) (hn : s.stc.node = .idConflict) (h : s.hli.Silent) : (failTakerAt p
    s).hli.Silent := by
  unfold failTakerAt
  dsimp only
  (repeat' split) <;> simp [hn, h]

@[simp] theorem pocketFault_silent (p : PocketNo) (hn : s.stc.node = .idConflict) (h : s.hli.Silent) :
    (pocketFault p s).hli.Silent := by
  unfold pocketFault
  split
  · simp [hn, h]
  · exact failTakerAt_silent _ (by simp [hn]) (by simp [hn, h])

@[simp] theorem silence_silent (a : Nat) (hn : s.stc.node = .idConflict) (h : s.hli.Silent) :
    (silence a s).hli.Silent := by
  unfold silence
  split
  · rw [(reportQuiet_frame _).2.2.2.2.1]
    refine foldl_silent (fun s p => by split <;> simp) (fun s p hn h => ?_) _ (by simpa using hn) (by simpa using h)
    split <;> simp [hn, h]
  · exact h

@[simp] theorem endRead_silent (p : PocketNo) (o : Outcome) (hn : s.stc.node = .idConflict) (h : s.hli.Silent) :
    (endRead p o s).hli.Silent := by
  unfold endRead
  simp [hn, h]

@[simp] theorem failAttempt_silent (r : Read) (hn : s.stc.node = .idConflict) (h : s.hli.Silent) : (failAttempt r
    s).hli.Silent := by
  unfold failAttempt
  (repeat' split) <;> simp [hn, h]

@[simp] theorem becomeGauge_silent (t : ToolId) (kind : Nat) (hn : s.stc.node = .idConflict) (h : s.hli.Silent) :
    (becomeGauge t kind s).hli.Silent := by
  unfold becomeGauge
  dsimp only
  simp [hn, h]

@[simp] theorem gaugeFromPocket_silent (t : ToolId) (kind : Nat) (q : Option PocketNo) (hn : s.stc.node = .idConflict)
    (h : s.hli.Silent) : (gaugeFromPocket t kind q s).hli.Silent := by
  unfold gaugeFromPocket
  dsimp only
  (repeat' split) <;> simp [hn, h]

@[simp] theorem takeToGauge_silent (t : ToolId) (kind : Nat) (hn : s.stc.node = .idConflict) (h : s.hli.Silent) :
    (takeToGauge t kind s).hli.Silent := by
  unfold takeToGauge
  (repeat' split) <;> simp [hn, h]

@[simp] theorem tagGone_silent (hn : s.stc.node = .idConflict) (h : s.hli.Silent) : (tagGone s).hli.Silent := by
  unfold tagGone
  dsimp only
  (repeat' split) <;> simp [hn, h]

@[simp] theorem newGaugeTool_silent (t : ToolId) (kind : Nat) (hn : s.stc.node = .idConflict) (h : s.hli.Silent) :
    (newGaugeTool t kind s).hli.Silent := by
  unfold newGaugeTool
  simp [hn, h]

@[simp] theorem gaugeKind_silent (t : ToolId) (kind : Nat) (hn : s.stc.node = .idConflict) (h : s.hli.Silent) :
    (gaugeKind t kind s).hli.Silent := by
  unfold gaugeKind
  simp [hn, h]

@[simp] theorem headTag_silent (t : ToolId) (kind : Nat) (hn : s.stc.node = .idConflict) (h : s.hli.Silent) : (headTag
    t kind s).hli.Silent := by
  unfold headTag
  (repeat' split) <;> simp [hn, h]

@[simp] theorem concludePreset_silent (t : ToolId) (k : KindEntry) (v : FirstBurst) (hn : s.stc.node = .idConflict) (h
    : s.hli.Silent) : (concludePreset t k v s).hli.Silent := by
  unfold concludePreset
  dsimp only
  simp [hn, h]

@[simp] theorem concludeReduced_silent (t : ToolId) (k : KindEntry) (v : FirstBurst) (hn : s.stc.node = .idConflict)
    (h : s.hli.Silent) : (concludeReduced t k v s).hli.Silent := by
  unfold concludeReduced
  (repeat' split) <;> simp [hn, h]

@[simp] theorem concludeSettled_silent (g : GaugeTool) (b : Burst) (hn : s.stc.node = .idConflict) (h : s.hli.Silent)
    : (concludeSettled g b s).hli.Silent := by
  unfold concludeSettled
  (repeat' split) <;> simp [hn, h]

@[simp] theorem concludeBurst_silent (b : Burst) (hn : s.stc.node = .idConflict) (h : s.hli.Silent) : (concludeBurst b
    s).hli.Silent := by
  unfold concludeBurst
  (repeat' split) <;> simp [hn, h]

@[simp] theorem promote_silent (kind : Nat) (hn : s.stc.node = .idConflict) (h : s.hli.Silent) : (promote kind
    s).hli.Silent := by
  unfold promote
  dsimp only
  (repeat' split) <;> simp [hn, h]

@[simp] theorem takerSendFailed_silent (f : Frame) (n : SeekNo) (hn : s.stc.node = .idConflict) (h : s.hli.Silent) :
    (takerSendFailed f n s).hli.Silent := by
  unfold takerSendFailed
  (repeat' split) <;> simp [hn, h]

@[simp] theorem sendFailed_silent (f : Frame) (o : FrameOwner) (hn : s.stc.node = .idConflict) (h : s.hli.Silent) :
    (sendFailed f o s).hli.Silent := by
  unfold sendFailed
  (repeat' split) <;> simp [hn, h]

@[simp] theorem setSend_none_silent (h : s.hli.Silent) : (setSend none s).hli.Silent := ⟨h.1, h.2.1, rfl⟩

/-- A node with a send in flight is not silent. -/
theorem send_none_of_silent (h : s.hli.Silent) : s.hli.send = none := h.2.2


@[simp] theorem counterpartReset_silent (src : StationId) (hn : s.stc.node = .idConflict) (h : s.hli.Silent) :
    (counterpartReset src s).hli.Silent := by
  unfold counterpartReset
  extract_lets lapsed failed
  have hlapsed : lapsed.stc = s.stc ∧ lapsed.hli.Silent :=
    ⟨foldl_same State.stc (by simp) _ _, foldl_silent (by simp) (fun _ _ hn h => by simp [hn, h]) _ hn h⟩
  have hfailed : failed.hli.Silent :=
    foldl_silent (by simp) (fun _ _ _ h => failTaker_silent _ _ h) _ (by rw [hlapsed.1, hn]) hlapsed.2
  simpa using hfailed

@[simp] theorem repeatFrame_silent (f : Frame) (hn : s.stc.node = .idConflict) (h : s.hli.Silent) : (repeatFrame f
    s).hli.Silent := by
  unfold repeatFrame
  (repeat' split) <;> simp [hn, h]

@[simp] theorem resync_silent (src : StationId) (hn : s.stc.node = .idConflict) (h : s.hli.Silent) :
    (resync src s).hli.Silent := by
  unfold resync
  have hgivers : ((s.giversOf src).foldl (fun s g => repeatFrame g.lastFrame s) s).hli.Silent :=
    foldl_silent (by simp) (fun _ _ hn h => by simp [hn, h]) _ hn h
  refine foldl_silent (by simp) (fun _ _ hn h => by simp [hn, h]) _ ?_ hgivers
  rw [foldl_same State.stc (by simp)]
  exact hn

@[simp] theorem openGiver_silent (g : Giver) (q : PocketNo) (hn : s.stc.node = .idConflict) (h : s.hli.Silent) :
    (openGiver g q s).hli.Silent := by
  unfold openGiver
  dsimp only
  simp [hn, h]

@[simp] theorem seekUnfilled_silent (w : Want) (hn : s.stc.node = .idConflict) (h : s.hli.Silent) : (seekUnfilled w
    s).hli.Silent := by
  unfold seekUnfilled
  (repeat' split) <;> simp [hn, h]

@[simp] theorem answerSeek_silent (src : StationId) (n : SeekNo) (w : Want) (m : SeekMode) (minLife : Nat) (hn :
    s.stc.node = .idConflict) (h : s.hli.Silent) : (answerSeek src n w m minLife s).hli.Silent := by
  unfold answerSeek
  (repeat' split) <;> simp [hn, h]

@[simp] theorem takeOffer_silent (src : StationId) (r : Option Record) (k : Taker) (hn : s.stc.node = .idConflict) (h
    : s.hli.Silent) : (takeOffer src r k s).hli.Silent := by
  unfold takeOffer
  (repeat' split) <;> simp [hn, h]

@[simp] theorem lateTake_silent (src : StationId) (n : SeekNo) (hn : s.stc.node = .idConflict) (h : s.hli.Silent) :
    (lateTake src n s).hli.Silent := by
  unfold lateTake
  (repeat' split) <;> simp [hn, h]

@[simp] theorem takeTaken_silent (src : StationId) (n : SeekNo) (hn : s.stc.node = .idConflict) (h : s.hli.Silent) :
    (takeTaken src n s).hli.Silent := by
  unfold takeTaken
  (repeat' split) <;> simp [hn, h]

@[simp] theorem takerLapse_silent (src : StationId) (k : Taker) (hn : s.stc.node = .idConflict) (h : s.hli.Silent) :
    (takerLapse src k s).hli.Silent := by
  unfold takerLapse
  (repeat' split) <;> simp [hn, h]

@[simp] theorem giverLapse_silent (src : StationId) (n : SeekNo) (hn : s.stc.node = .idConflict) (h : s.hli.Silent) :
    (giverLapse src n s).hli.Silent := by
  unfold giverLapse
  (repeat' split) <;> simp [hn, h]

@[simp] theorem received_silent (g : Giver) (v : Version) (hn : s.stc.node = .idConflict) (h : s.hli.Silent) :
    (received g v s).hli.Silent := by
  unfold received
  dsimp only
  simp [hn, h]

@[simp] theorem windowEnds_silent (k : Taker) (hn : s.stc.node = .idConflict) (h : s.hli.Silent) : (windowEnds k
    s).hli.Silent := by
  unfold windowEnds
  (repeat' split) <;> simp [hn, h]

@[simp] theorem transitLost_silent (t : ToolId) (hn : s.stc.node = .idConflict) (h : s.hli.Silent) : (transitLost t
    s).hli.Silent := by
  unfold transitLost
  simp [hn, h]

@[simp] theorem countTimers_silent (h : s.hli.Silent) : (countTimers s).hli.Silent := h

@[simp] theorem ageReview_silent (hn : s.stc.node = .idConflict) (h : s.hli.Silent) : (ageReview s).hli.Silent :=
  foldl_silent (by simp) (fun _ _ hn h => by simp [hn, h]) _ hn h

@[simp] theorem alarmAct_silent (a : AlarmAction) (hn : s.stc.node = .idConflict) (h : s.hli.Silent) : (alarmAct a
    s).hli.Silent := by
  unfold alarmAct
  (repeat' split) <;> simp [hn, h]

@[simp] theorem actAlarms_silent (l : List AlarmAction) (hn : s.stc.node = .idConflict) (h : s.hli.Silent) :
    (actAlarms l s).hli.Silent :=
  foldl_silent (by simp) (fun _ _ hn h => by simp [hn, h]) _ hn h

@[simp] theorem minuteEvent_silent (hn : s.stc.node = .idConflict) (h : s.hli.Silent) : (minuteEvent s).hli.Silent :=
    by
  unfold minuteEvent
  dsimp only
  (repeat' split) <;> simp [hn, h]

@[simp] theorem secondEvent_silent (hn : s.stc.node = .idConflict) (h : s.hli.Silent) : (secondEvent s).hli.Silent := by
  unfold secondEvent
  dsimp only
  split <;> exact settleReader_silent (by simp [hn]) (by simp [hn, h])

@[simp] theorem cancelTaker_silent (k : Taker) (hn : s.stc.node = .idConflict) (h : s.hli.Silent) : (cancelTaker k
    s).hli.Silent := by
  unfold cancelTaker
  (repeat' split) <;> simp [hn, h]

@[simp] theorem countUse_silent (p : PocketNo) (e : Entry) (sec : Nat) (hn : s.stc.node = .idConflict) (h :
    s.hli.Silent) : (countUse p e sec s).hli.Silent := by
  unfold countUse
  dsimp only
  (repeat' split) <;> simp [hn, h]

@[simp] theorem freeCondition_silent (t : ToolId) (hn : s.stc.node = .idConflict) (h : s.hli.Silent) : (freeCondition
    t s).hli.Silent := by
  unfold freeCondition
  (repeat' split) <;> simp [hn, h]

@[simp] theorem freeTool_silent (p : PocketNo) (t : ToolId) (hn : s.stc.node = .idConflict) (h : s.hli.Silent) :
    (freeTool p t s).hli.Silent := by
  unfold freeTool
  simp [hn, h]

@[simp] theorem gaugeAgain_silent (t : ToolId) (hn : s.stc.node = .idConflict) (h : s.hli.Silent) : (gaugeAgain t
    s).hli.Silent := by
  unfold gaugeAgain
  (repeat' split) <;> simp [hn, h]

@[simp] theorem forgetEntry_silent (e : Entry) (hn : s.stc.node = .idConflict) (h : s.hli.Silent) : (forgetEntry e
    s).hli.Silent := by
  unfold forgetEntry
  dsimp only
  (repeat' split) <;> simp [hn, h]

/-! ### Commands -/

theorem command_silent {code : Nat} {f : State → Answer} (h : s.hli.Silent) (hf : (f s).state.hli.Silent) :
    (command code f s).hli.Silent := by
  rcases command_cases code f s with hc | hc | ⟨a, rfl | rfl, hc⟩ <;> rw [hc]
  · exact h
  · exact h
  · exact h
  · exact hf

theorem endTransfers_silent (hn : s.stc.node = .idConflict) (h : s.hli.Silent) : (endTransfers s).hli.Silent := by
  unfold endTransfers
  have hgivers : (s.cue.givers.foldl (fun s g => lapseGiver g s) s).hli.Silent :=
    foldl_silent (by simp) (fun _ _ hn h => by simp [hn, h]) _ hn h
  refine foldl_silent (by simp) (fun _ _ _ h => failTaker_silent _ _ h) _ ?_ hgivers
  rw [foldl_same State.stc (by simp)]
  exact hn

/-- R101: the entry into ID_CONFLICT empties the transmitter, and what ends the transfers then hands over no frame. -/
theorem enterConflict_silent : (enterConflict s).hli.Silent := by
  have hstopped : (stopSending (setNode .idConflict s)).hli.Silent := ⟨rfl, rfl, rfl⟩
  have hended := endTransfers_silent (by simp) hstopped
  unfold enterConflict
  dsimp only
  split
  · simpa using hended
  · exact hended

theorem need_silent (p wt w m l : Nat) (hn : s.stc.node = .idConflict) (h : s.hli.Silent) :
    (need p wt w m l s).state.hli.Silent := by
  unfold need openTaker
  (repeat' split) <;> simp [plain, hn, h]

theorem useTool_silent (p sec : Nat) (hn : s.stc.node = .idConflict) (h : s.hli.Silent) :
    (useTool p sec s).state.hli.Silent := by
  unfold useTool
  (repeat' split) <;> simp [plain, hn, h]

theorem toolChecked_silent {sel arg : Nat} {f : ToolSel → State → Answer} (h : s.hli.Silent)
    (hf : ∀ x, (f x s).state.hli.Silent) : (toolChecked sel arg f s).state.hli.Silent := by
  rcases toolChecked_state sel arg f s with hc | ⟨x, hc⟩ <;> rw [hc]
  · exact h
  · exact hf x

theorem toolEntry_silent {key : Bool} {f : Entry → State → Option State} (h : s.hli.Silent)
    (hf : ∀ e t, f e s = some t → t.hli.Silent) (x : ToolSel) : (toolEntry key f x s).state.hli.Silent := by
  rcases toolEntry_state key f x s with hc | ⟨e, t, hft, hc⟩ <;> rw [hc]
  · exact h
  · exact hf e t hft

theorem withhold_silent (hn : s.stc.node = .idConflict) (h : s.hli.Silent) (e : Entry) (t : State)
    (ht : withhold e s = some t) : t.hli.Silent := by
  unfold withhold at ht
  split at ht <;> cases ht <;> simp [hn, h]

theorem releaseTool_silent (hn : s.stc.node = .idConflict) (h : s.hli.Silent) (e : Entry) (t : State)
    (ht : releaseTool e s = some t) : t.hli.Silent := by
  unfold releaseTool at ht
  split at ht <;> cases ht
  simp [hn, h]

/-- In ID_CONFLICT a command that is none of the start, the supplies or the clock leaves the interface silent. -/
theorem effect_silent_of_conflict {c : Instr} (hc : Instr.movesStart c = false) (hn : s.stc.node = .idConflict)
    (h : s.hli.Silent) : (effect c s).hli.Silent := by
  have hsend := send_none_of_silent h
  cases c with
  | clear | unknownCommand | notices | sweepstat => exact command_silent h h
  | need => exact command_silent h (need_silent _ _ _ _ _ hn h)
  | cancel => exact command_silent h (by unfold cancel; split <;> simp [plain, hn, h])
  | stage => exact command_silent h (by unfold stage fillStage; (repeat' split) <;> simp [plain, h])
  | commit => exact command_silent h (by unfold commit commitStage; (repeat' split) <;> simp [plain, h])
  | use => exact command_silent h (useTool_silent _ _ hn h)
  | free => exact command_silent h (by unfold freePocket; (repeat' split) <;> simp [plain, hn, h])
  | tool sel arg act =>
    refine command_silent h ?_
    split
    · exact toolChecked_silent h fun _ => h
    · exact h
  | toolWithhold => exact command_silent h (toolChecked_silent h (toolEntry_silent h (withhold_silent hn h)))
  | toolRelease => exact command_silent h (toolChecked_silent h (toolEntry_silent h (releaseTool_silent hn h)))
  | sweep => exact command_silent h (by unfold sweepCommand; split <;> simp [plain, hn, h])
  | hold | unhold => exact command_silent h (by unfold setHold; (repeat' split) <;> simp [plain, h])
  | forget => exact command_silent h (by unfold forgetTool; (repeat' split) <;> simp [plain, hn, h])
  | transitTimerExpiry t =>
    simp only [effect, exec, execTransitTimerExpiry]
    split
    · exact foldl_silent (by simp) (fun _ _ hn h => by simp [hn, h]) _ hn h
    · exact h
  | sendAttempt | attemptSent | attemptCollided | backoffExpiry =>
    simp only [effect, exec, execSendAttempt, execAttemptSent, execAttemptCollided, execBackoffExpiry, hsend, beginSend, hn,
      ite_self, h]
  | powerOn | resetInput | backupLatchSet | mainPowerLoss | configRead | huntProbe | joinTimerExpiry | idConflict
  | secondEvent | setclock => cases hc
  | moduleChanged | lockFault | doorOpening | doorClosing =>
    simp only [effect, exec, execModuleChanged, execLockFault, execDoorOpening, execDoorClosing]
    split
    · exact settleReader_silent (by simp [hn]) (by simp [hn, h])
    · exact h
  | lapseReceived =>
    simp only [effect, exec, execLapseReceived]
    split
    · split <;> exact settleReader_silent (by simp [hn]) (by simp [hn, h])
    · exact h
  | status =>
    simp only [effect, exec, execStatus]
    (repeat' split) <;> exact h
  | _ =>
    simp only [effect, exec, execModuleSilent, execModuleReturn, execLatchPositionReached, execPressReported,
      execPressServed, execPocketTimerExpiry, execReadAttemptEnd, execAttentionPulseEnd, execHeadMessageDiscarded,
      execHeadTag, execHeadTagGone, execBurstStart, execSample, execBurstEnd, execResultSent, execFrameDiscarded,
      execAnnounceReceived, execSeekReceived, execOfferReceived, execTakeReceived, execReleasedReceived,
      execReceivedFrame, execRecordReceived, execWhereisReceived, execWindowTimerExpiry, execDeadlineExpiry,
      execHoldTimerExpiry, execReleaseTimerExpiry, execAwayTimerExpiry, execTransitCheckExpiry, execClaimWindowExpiry,
      execCommandCheckFail, execCommandOverrun, execReplySent, execAttentionReleaseIntervalEnd]
    (repeat' split) <;> simp [hn, h]

theorem secondEvent_effect_silent (low : Bool) (hn : s.stc.node = .idConflict) (h : s.hli.Silent) :
    (effect (.secondEvent low) s).hli.Silent := by
  have hread : (readLevel low (tickCalendar s)).hli.Silent := by simpa using h
  simp only [effect, exec, execSecondEvent]
  split
  · exact secondEvent_silent (by simpa using hn) hread
  · exact hread

/-- R101: every command keeps the silence of ID_CONFLICT. A command of the start that changes the node state leaves no
ID_CONFLICT; the one that enters it silences the interface. -/
theorem effect_keeps_silent (c : Instr) (hs : s.Silent) : (effect c s).Silent := by
  intro hconflict
  cases hc : Instr.movesStart c with
  | false =>
    have hn : s.stc.node = .idConflict := (effect_keepsStart hc s).stc ▸ hconflict
    exact effect_silent_of_conflict hc hn (hs hn)
  | true =>
    cases c with
    | powerOn => cases hconflict
    | backupLatchSet => exact hs hconflict
    | mainPowerLoss => exact hs hconflict
    | resetInput =>
      simp only [effect, exec, execResetInput] at hconflict ⊢
      split at hconflict
      · cases hconflict
      · next hp => rw [if_neg hp]; exact hs hconflict
    | configRead image =>
      simp only [effect, exec, execConfigRead] at hconflict ⊢
      split at hconflict
      · next hload =>
        unfold readConfig at hconflict
        (repeat' split at hconflict) <;> simp [hload] at hconflict
      · next hload => rw [if_neg hload]; exact hs hconflict
    | huntProbe r =>
      simp only [effect, exec, execHuntProbe] at hconflict ⊢
      split at hconflict
      · next hhunt =>
        rcases hunt_node (s := s) r with hn | hn <;> rw [hn] at hconflict
        · rw [hhunt.2] at hconflict; cases hconflict
        · cases hconflict
      · next hhunt => rw [if_neg hhunt]; exact hs hconflict
    | joinTimerExpiry =>
      simp only [effect, exec, execJoinTimerExpiry] at hconflict ⊢
      split at hconflict
      · simp at hconflict
      · next hjoin => rw [if_neg hjoin]; exact hs hconflict
    | idConflict =>
      simp only [effect, exec, execIdConflict] at hconflict ⊢
      split at hconflict
      · next hrun => rw [if_pos hrun]; exact settleReader_silent enterConflict_node enterConflict_silent
      · next hrun => rw [if_neg hrun]; exact hs hconflict
    | secondEvent low =>
      have hkept : (effect (.secondEvent low) s).stc = s.stc := by
        simp only [effect, exec, execSecondEvent]
        split <;> simp
      rw [hkept] at hconflict
      exact secondEvent_effect_silent low hconflict (hs hconflict)
    | setclock y mo d hr mi sec key =>
      have hkept : (effect (.setclock y mo d hr mi sec key) s).stc = s.stc :=
        command_same State.stc rfl (fun _ => rfl) (by unfold setClockCommand; (repeat' split) <;> simp [plain])
      rw [hkept] at hconflict
      have h : s.hli.Silent := hs hconflict
      exact command_silent h (by unfold setClockCommand; (repeat' split) <;> simp [plain, h])
    | _ => cases hc

/-- Settles O5. -/
theorem stepKeepsSilence : Obligations.StepKeepsSilence := fun _ _ =>
  step_keeps (P := State.Silent) (fun _ _ h => h) (fun c _ h => effect_keeps_silent c h)

end Sys2Proof.Machine

/-! PROOFS. The byte layouts of chapter 12: numbers and their bytes, fields of a byte sequence, the check, and the round trips of the
three ports. -/

namespace Sys2Proof

/-! ### Numbers and their bytes (R199) -/

@[simp] theorem length_be (n v : Nat) : (be n v).length = n := by
  induction n with
  | zero => rfl
  | succ n ih => rw [be, List.length_cons, ih]

theorem foldl_be (n v acc : Nat) :
    (be n v).foldl (fun m b => m * 256 + b.toNat) acc = acc * 256 ^ n + v % 256 ^ n := by
  induction n generalizing acc with
  | zero => simp [be, Nat.mod_one]
  | succ n ih =>
    have hsplit : v % 256 ^ (n + 1) = v % 256 ^ n + 256 ^ n * (v / 256 ^ n % 256) := by
      rw [pow_succ, Nat.mod_mul]
    rw [be, List.foldl_cons, ih, hsplit, BitVec.toNat_ofNat]
    ring

theorem ofBe_be (n v : Nat) : ofBe (be n v) = v % 256 ^ n := by
  rw [ofBe, foldl_be, Nat.zero_mul, Nat.zero_add]

theorem ofBe_lt (l : List Byte) : ofBe l < 256 ^ l.length := by
  induction l using List.reverseRecOn with
  | nil => simp [ofBe]
  | append_singleton l b ih =>
    have hb := b.isLt
    simp only [ofBe, List.foldl_append, List.foldl_cons, List.foldl_nil, List.length_append, List.length_singleton,
      pow_succ] at ih ⊢
    omega

theorem fits_iff {n v : Nat} : fits n v = true ↔ v < 256 ^ n := by simp [fits]

/-! ### Fields -/

theorem field_append_left {off n : Nat} {l r : List Byte} (h : off + n ≤ l.length) : field off n (l ++ r) = field off n l := by
  unfold field
  rw [List.drop_append_of_le_length (by omega), List.take_append_of_le_length (by rw [List.length_drop]; omega)]

theorem field_append_right {off n : Nat} {l r : List Byte} (h : l.length ≤ off) :
    field off n (l ++ r) = field (off - l.length) n r := by
  unfold field
  rw [List.drop_append, List.drop_eq_nil_of_le h, List.nil_append]

theorem field_be (n v : Nat) : field 0 n (be n v) = v % 256 ^ n := by
  rw [field, List.drop_zero, List.take_of_length_le (length_be n v).le, ofBe_be]

/-- A field at the front of a byte sequence. -/
theorem field_front {n v : Nat} {l : List Byte} (h : v < 256 ^ n) : field 0 n (be n v ++ l) = v := by
  rw [field_append_left (by simp), field_be, Nat.mod_eq_of_lt h]

/-- A byte sequence that is one field. -/
theorem field_whole {n v : Nat} (h : v < 256 ^ n) : field 0 n (be n v) = v := by rw [field_be, Nat.mod_eq_of_lt h]

/-- A field that stands behind another. -/
theorem field_behind {off n m v : Nat} {l : List Byte} (h : m ≤ off) : field off n (be m v ++ l) = field (off - m) n l := by
  rw [field_append_right (by simpa using h), length_be]

theorem field_lt (off n : Nat) (l : List Byte) : field off n l < 256 ^ n :=
  (ofBe_lt _).trans_le (Nat.pow_le_pow_right (by decide) (List.length_take_le _ _))

/-! ### Signed numbers (R199) -/

theorem fitsSigned_iff {n : Nat} {v : Int} :
    fitsSigned n v = true ↔ -((256 ^ n : Nat) : Int) ≤ 2 * v ∧ 2 * v < ((256 ^ n : Nat) : Int) := by
  simp [fitsSigned]

/-- The two's complement number comes back from its residue. -/
theorem signedOf_emod {n : Nat} {v : Int} (h : fitsSigned n v = true) : signedOf n (v % (256 ^ n : Nat)).toNat = v := by
  obtain ⟨hlow, hhigh⟩ := fitsSigned_iff.1 h
  unfold signedOf
  generalize 256 ^ n = m at hlow hhigh
  rcases lt_or_ge v 0 with hneg | hnonneg
  · have hmod : v % m = v + m := by rw [← Int.add_emod_right, Int.emod_eq_of_lt (by omega) (by omega)]
    rw [hmod, if_neg (by omega)]
    omega
  · rw [Int.emod_eq_of_lt hnonneg (by omega), if_pos (by omega)]
    omega

theorem emod_toNat_lt (n : Nat) (v : Int) : (v % (256 ^ n : Nat)).toNat < 256 ^ n := by
  have hpos : 0 < 256 ^ n := by positivity
  generalize 256 ^ n = m at hpos
  have := Int.emod_lt_of_pos v (b := m) (by omega)
  omega

@[simp] theorem length_beSigned (n : Nat) (v : Int) : (beSigned n v).length = n := length_be _ _

/-! ### The check (R199) -/

/-- The bytes before a check come back from the bytes with their check. -/
theorem checked_withCheck (l : List Byte) : checked (withCheck l) = some l := by
  have hlen : (withCheck l).length = l.length + 2 := by simp [withCheck]
  have hbody : (withCheck l).take ((withCheck l).length - 2) = l := by
    rw [hlen, Nat.add_sub_cancel, withCheck, List.take_left]
  have htail : (withCheck l).drop ((withCheck l).length - 2) = be 2 (crc16 l).toNat := by
    rw [hlen, Nat.add_sub_cancel, withCheck, List.drop_left]
  unfold checked
  rw [hbody, htail, ofBe_be]
  exact if_pos ⟨by omega, Nat.mod_eq_of_lt (crc16 l).isLt⟩

/-! ### The TDR (R201) -/

/-- A TDR whose fields fit their bytes comes back from its bytes. -/
theorem Tdr.decode_encode {t : Tdr} (h : t.wf = true) : Tdr.decode t.encode = t := by
  simp only [Tdr.wf, Bool.and_eq_true, fits_iff, and_assoc, Nat.reducePow] at h
  obtain ⟨h1, h2, h3, h4, h5, h6, h7, h8, h9, h10, h11, h12, h13, h14, h15⟩ := h
  have hversion : t.version.toNat < 65536 := t.version.isLt
  have hflags : t.flags.toNat < 256 := t.flags.isLt
  simp [Tdr.decode, Tdr.encode, List.append_assoc, field_behind, field_front, field_whole, *]

@[simp] theorem Tdr.length_encode (t : Tdr) : t.encode.length = 35 := by simp [Tdr.encode]

/-! ### The hall line (R91, R200) -/

theorem byte_lt {v : Nat} (h : v < 256) : v < 256 ^ 1 := h

/-- R91: a frame of good form under another station's ID, with this station or all stations as its destination, is read as the
command that its payload delivers. -/
theorem hallCommand_hallFrame {own dst src kind : Nat} {payload : List Byte} {i : Instr} (hdst : dst < 256)
    (hsrc : sourceWf src = true) (hlen : hallLength kind = some payload.length) (hne : src ≠ own)
    (hreach : dst = own ∨ dst = 0) (hbroad : broadcastKind kind = true ∨ dst ≠ 0)
    (hd : hallDeliver dst src kind payload = some i) : hallCommand own (hallFrame dst src kind payload) = i := by
  simp only [sourceWf, Bool.and_eq_true, decide_eq_true_eq] at hsrc
  obtain ⟨hpos, htop⟩ : 1 ≤ src ∧ src ≤ 250 := hsrc
  obtain ⟨hkind, hshort⟩ : kind < 256 ∧ payload.length < 256 := by
    unfold hallLength at hlen
    split at hlen <;> simp only [Option.some.injEq, reduceCtorEq] at hlen <;> rw [← hlen] <;> decide
  have hf0 : field 0 1 (be 1 dst ++ be 1 src ++ be 1 kind ++ be 1 payload.length ++ payload) = dst := by
    simp [List.append_assoc, field_front (byte_lt hdst)]
  have hf1 : field 1 1 (be 1 dst ++ be 1 src ++ be 1 kind ++ be 1 payload.length ++ payload) = src := by
    simp [List.append_assoc, field_behind, field_front (byte_lt (show src < 256 by omega))]
  have hf2 : field 2 1 (be 1 dst ++ be 1 src ++ be 1 kind ++ be 1 payload.length ++ payload) = kind := by
    simp [List.append_assoc, field_behind, field_front (byte_lt hkind)]
  have hf3 : field 3 1 (be 1 dst ++ be 1 src ++ be 1 kind ++ be 1 payload.length ++ payload) = payload.length := by
    simp [List.append_assoc, field_behind, field_front (byte_lt hshort)]
  have hdrop : (be 1 dst ++ be 1 src ++ be 1 kind ++ be 1 payload.length ++ payload).drop 4 = payload :=
    List.drop_left' (by simp)
  have hlength : (be 1 dst ++ be 1 src ++ be 1 kind ++ be 1 payload.length ++ payload).length = 4 + payload.length := by
    simp only [List.length_append, length_be]
  unfold hallCommand hallFrame
  rw [checked_withCheck]
  simp only [hallForm, hf0, hf1, hf2, hf3, hdrop, hlength, hd]
  rw [if_pos ⟨Nat.le_add_right 4 _, hlen, trivial, hpos, htop⟩, hallRoute, if_neg hne, if_pos hreach, if_neg]
  rintro ⟨hb, hz⟩
  rcases hbroad with h | h
  · rw [h] at hb; cases hb
  · exact h hz

theorem flagByte_testBit : ∀ a b c d : Bool, (flagByte [a, b, c, d]).testBit 0 = a ∧ (flagByte [a, b, c, d]).testBit 1 = b ∧
    (flagByte [a, b, c, d]).testBit 2 = c ∧ (flagByte [a, b, c, d]).testBit 3 = d ∧ flagByte [a, b, c, d] < 256 := by
  decide

theorem Announce.decode_encode {a : Announce} (h : a.wf = true) : Announce.decode a.encode = a := by
  obtain ⟨r, hf, l, d, crib, magazine, node⟩ := a
  simp only [Announce.wf, Bool.and_eq_true, fits_iff, and_assoc] at h
  obtain ⟨hc, hm, hn⟩ := h
  obtain ⟨h0, h1, h2, h3, hflags⟩ := flagByte_testBit r hf l d
  simp only [Announce.decode, Announce.encode, Announce.flags, List.append_assoc, field_front (byte_lt hflags),
    field_behind le_rfl, field_behind (show 1 ≤ 2 by decide), field_behind (show 1 ≤ 3 by decide), Nat.sub_self, Nat.reduceSub,
    field_front hc, field_front hm, field_whole hn, h0, h1, h2, h3]

theorem lapseOfCode_lapseCode (r : LapseReason) : lapseOfCode (lapseCode r) = some r := by cases r <;> rfl

theorem wantOfType_code (w : Want) : wantOfType w.code w.value = some w := by cases w <;> rfl

/-- Settles O10, by the kind of the frame. -/
theorem hallRoundTrip : Obligations.HallRoundTrip := by
  intro own i b hown htop hwf hb hsrc hreach
  have hown' : own < 256 := Nat.lt_of_le_of_lt htop (by decide)
  have hown0 : own ≠ 0 := Nat.pos_iff_ne_zero.1 hown
  cases i <;> simp only [encodeHall, Option.some.injEq, reduceCtorEq] at hb <;> subst hb <;>
    simp only [Instr.wf, Bool.and_eq_true, fits_iff, and_assoc, Nat.reducePow] at hwf
  case announceReceived dst src a =>
    obtain ⟨hd, hs, ha⟩ := hwf
    refine hallCommand_hallFrame hd hs (by simp [hallLength, Announce.encode]) (hsrc _ rfl) (Or.symm hreach) (.inl rfl) ?_
    rw [hallDeliver, Announce.decode_encode ha]
  case seekReceived src n w m l =>
    obtain ⟨hs, hn, hw, hm, hl⟩ := hwf
    have hcode : w.code < 256 := by cases w <;> simp [Want.code]
    have hvalue : w.value < 281474976710656 := by cases w <;> simpa [Want.wf, Want.value, fits_iff] using hw
    refine hallCommand_hallFrame (by decide) hs (by simp [hallLength]) (hsrc _ rfl) (.inr rfl) (.inl rfl) ?_
    simp [hallDeliver, List.append_assoc, field_behind, field_front, field_whole, wantOfType_code, *]
  case offerReceived src n t =>
    obtain ⟨hs, hn, ht⟩ := hwf
    refine hallCommand_hallFrame hown' hs (by simp [hallLength]) (hsrc _ rfl) (.inl rfl) (.inr hown0) ?_
    rw [hallDeliver, List.drop_left' (length_be 1 n), field_front hn, Tdr.decode_encode ht]
  case takeReceived src n =>
    obtain ⟨hs, hn⟩ := hwf
    refine hallCommand_hallFrame hown' hs (by simp [hallLength]) (hsrc _ rfl) (.inl rfl) (.inr hown0) ?_
    rw [hallDeliver, field_whole hn]
  case lapseReceived src n r =>
    obtain ⟨hs, hn⟩ := hwf
    have hcode : lapseCode r < 256 := by cases r <;> decide
    refine hallCommand_hallFrame hown' hs (by simp [hallLength]) (hsrc _ rfl) (.inl rfl) (.inr hown0) ?_
    simp [hallDeliver, field_behind, field_front, field_whole, lapseOfCode_lapseCode, *]
  case releasedReceived src n t =>
    obtain ⟨hs, hn, ht⟩ := hwf
    refine hallCommand_hallFrame hown' hs (by simp [hallLength]) (hsrc _ rfl) (.inl rfl) (.inr hown0) ?_
    rw [hallDeliver, List.drop_left' (length_be 1 n), field_front hn, Tdr.decode_encode ht]
  case receivedFrame src n t v =>
    obtain ⟨hs, hn, ht⟩ := hwf
    have hv : v.toNat < 65536 := v.isLt
    refine hallCommand_hallFrame hown' hs (by simp [hallLength]) (hsrc _ rfl) (.inl rfl) (.inr hown0) ?_
    simp [hallDeliver, List.append_assoc, field_behind, field_front, field_whole, *]
  case recordReceived src t =>
    obtain ⟨hs, ht⟩ := hwf
    refine hallCommand_hallFrame (by decide) hs (by simp [hallLength]) (hsrc _ rfl) (.inr rfl) (.inl rfl) ?_
    rw [hallDeliver, Tdr.decode_encode ht]
  case whereisReceived src t =>
    obtain ⟨hs, ht⟩ := hwf
    refine hallCommand_hallFrame (by decide) hs (by simp [hallLength]) (hsrc _ rfl) (.inr rfl) (.inl rfl) ?_
    rw [hallDeliver, field_whole ht]

/-! ### The station link (R153, R202) -/

/-- R153, R155: a frame with a code of one byte and fewer than 255 payload bytes is read by its code and length. -/
theorem linkCommand_linkFrame {code : Nat} {payload : List Byte} (key : Bool) (hcode : code < 256)
    (hshort : payload.length < 255) : linkCommand key (linkFrame code payload) =
      if commandLength code = some payload.length then linkDeliver key code payload else .unknownCommand code payload := by
  have hbody : (linkFrame code payload).drop 1 = withCheck (be 1 (payload.length + 1) ++ be 1 code ++ payload) :=
    List.drop_left' (by simp)
  have hstart : field 0 1 (linkFrame code payload) = 0xA5 := field_front (by decide)
  have hf0 : field 0 1 (be 1 (payload.length + 1) ++ be 1 code ++ payload) = payload.length + 1 := by
    rw [List.append_assoc, field_front (byte_lt (by omega))]
  have hf1 : field 1 1 (be 1 (payload.length + 1) ++ be 1 code ++ payload) = code := by
    rw [List.append_assoc, field_behind le_rfl, Nat.sub_self, field_front (byte_lt hcode)]
  have hdrop : (be 1 (payload.length + 1) ++ be 1 code ++ payload).drop 2 = payload := List.drop_left' (by simp)
  have hlength : (be 1 (payload.length + 1) ++ be 1 code ++ payload).length = payload.length + 2 := by simp; omega
  unfold linkCommand
  rw [hbody, checked_withCheck]
  dsimp only
  rw [hstart, hf0, hf1, hdrop, hlength]
  rw [if_pos ⟨rfl, Nat.le_add_left 2 _, rfl⟩]

theorem linkCommand_of_length {code : Nat} {payload : List Byte} (key : Bool)
    (hlen : commandLength code = some payload.length) :
    linkCommand key (linkFrame code payload) = linkDeliver key code payload := by
  obtain ⟨hcode, hshort⟩ : code < 256 ∧ payload.length < 255 := by
    unfold commandLength at hlen
    split at hlen <;> simp only [Option.some.injEq, reduceCtorEq] at hlen <;> rw [← hlen] <;> decide
  rw [linkCommand_linkFrame key hcode hshort, if_pos hlen]

/-- Settles O11, by the command. -/
theorem linkRoundTrip : Obligations.LinkRoundTrip := by
  intro i b hwf hb
  cases i <;> simp only [encodeLink, Option.some.injEq, reduceCtorEq] at hb <;> subst hb <;>
    simp only [Instr.wf, Bool.and_eq_true, fits_iff, and_assoc, Nat.reducePow, decide_eq_true_eq] at hwf
  case unknownCommand c payload =>
    obtain ⟨hc, hshort, hlen⟩ := hwf
    rw [linkCommand_linkFrame _ hc hshort, if_neg (by simpa using hlen)]
  case tool sel arg act =>
    obtain ⟨hsel, harg, hact, h1, h2⟩ := hwf
    rw [linkCommand_of_length _ (by simp [commandLength])]
    simp [linkDeliver, List.append_assoc, field_behind, field_front, field_whole, *]
  case toolWithhold | toolRelease =>
    obtain ⟨hsel, harg⟩ := hwf
    rw [linkCommand_of_length _ (by simp [commandLength])]
    simp [linkDeliver, Instr.key, List.append_assoc, field_behind, field_front, field_whole, *]
  all_goals
    rw [linkCommand_of_length _ (by simp [commandLength])]
    simp [linkDeliver, Instr.key, List.append_assoc, field_behind, field_front, field_whole, *]

/-! ### The head port (R65, R203) -/

/-- R65: a message with the length of its type is read as the command that its payload delivers. -/
theorem headCommand_headMessage {type : Nat} {payload : List Byte} {i : Instr}
    (hlen : headLength type = some payload.length) (hd : headDeliver type payload = some i) :
    headCommand (headMessage type payload) = i := by
  obtain ⟨htype, hshort⟩ : type < 256 ∧ payload.length < 256 := by
    unfold headLength at hlen
    split at hlen <;> simp only [Option.some.injEq, reduceCtorEq] at hlen <;> rw [← hlen] <;> decide
  have hbody : (headMessage type payload).drop 1 = withCheck (be 1 type ++ be 1 payload.length ++ payload) :=
    List.drop_left' (by simp)
  have hstart : field 0 1 (headMessage type payload) = 0x5A := field_front (by decide)
  have hf0 : field 0 1 (be 1 type ++ be 1 payload.length ++ payload) = type := by
    rw [List.append_assoc, field_front (byte_lt htype)]
  have hf1 : field 1 1 (be 1 type ++ be 1 payload.length ++ payload) = payload.length := by
    rw [List.append_assoc, field_behind le_rfl, Nat.sub_self, field_front (byte_lt hshort)]
  have hdrop : (be 1 type ++ be 1 payload.length ++ payload).drop 2 = payload := List.drop_left' (by simp)
  have hlength : (be 1 type ++ be 1 payload.length ++ payload).length = payload.length + 2 := by simp; omega
  unfold headCommand
  rw [hbody, checked_withCheck]
  dsimp only
  rw [hstart, hf0, hf1, hdrop, hlength, hd]
  rw [if_pos ⟨rfl, Nat.le_add_left 2 _, rfl, hlen⟩]

/-- A signed field of n bytes is read as its number. -/
theorem signedOf_beSigned {n : Nat} {v : Int} {l : List Byte} (h : fitsSigned n v = true) :
    signedOf n (field 0 n (beSigned n v ++ l)) = v := by
  rw [beSigned, field_front (emod_toNat_lt n v), signedOf_emod h]

theorem field_beSigned_behind {off n m : Nat} {v : Int} {l : List Byte} (h : m ≤ off) :
    field off n (beSigned m v ++ l) = field (off - m) n l := field_behind h

theorem temperatureOf_field {x : Option Int} (h : ∀ t, x = some t → fitsSigned 2 t = true ∧ t ≠ -32768) :
    temperatureOf (field 0 2 (temperatureField x)) = x := by
  cases x with
  | none => rw [temperatureField, field_whole (by norm_num), temperatureOf, if_pos rfl]
  | some t =>
    obtain ⟨hfits, hne⟩ := h t rfl
    have hsigned : signedOf 2 (field 0 2 (beSigned 2 t)) = t := by simpa using signedOf_beSigned (l := []) hfits
    rw [temperatureField, temperatureOf, if_neg, hsigned]
    intro hnone
    rw [hnone] at hsigned
    exact hne (hsigned.symm.trans (by norm_num [signedOf]))

theorem testBit_toNat (b : Bool) : (b.toNat).testBit 0 = b := by cases b <;> rfl

theorem Bool.toNat_lt_byte (b : Bool) : b.toNat < 256 ^ 1 := by cases b <;> decide

/-- Settles O12, by the type of the message. -/
theorem headRoundTrip : Obligations.HeadRoundTrip := by
  intro i b hwf hb
  cases i <;> simp only [encodeHead, Option.some.injEq, reduceCtorEq] at hb <;> subst hb
  case headTag t k =>
    simp only [Instr.wf, Bool.and_eq_true, fits_iff] at hwf
    refine headCommand_headMessage (by simp [headLength]) ?_
    rw [headDeliver, field_front hwf.1, field_behind le_rfl, Nat.sub_self, field_whole hwf.2]
  case headTagGone => exact headCommand_headMessage rfl rfl
  case burstEnd => exact headCommand_headMessage rfl rfl
  case burstStart n edge x =>
    have hn : n < 256 ^ 1 := by cases x <;> simp only [Instr.wf, Bool.and_eq_true, fits_iff] at hwf <;> tauto
    have hx : ∀ t, x = some t → fitsSigned 2 t = true ∧ t ≠ -32768 := by
      rintro t rfl
      simp only [Instr.wf, Bool.and_eq_true, decide_eq_true_eq] at hwf
      exact ⟨hwf.1.2, hwf.2⟩
    refine headCommand_headMessage (by cases x <;> simp [headLength, temperatureField]) ?_
    rw [headDeliver, List.append_assoc, field_front hn, field_behind le_rfl, Nat.sub_self,
      field_front (Bool.toNat_lt_byte edge), testBit_toNat, field_behind (show 1 ≤ 2 by decide), field_behind le_rfl,
      temperatureOf_field hx]
  case sample i z x v =>
    simp only [Instr.wf, Bool.and_eq_true, fits_iff] at hwf
    obtain ⟨⟨hi, hz⟩, hx⟩ := hwf
    refine headCommand_headMessage (by simp [headLength]) ?_
    simp only [headDeliver, List.append_assoc]
    rw [field_front hi, field_behind le_rfl, Nat.sub_self, signedOf_beSigned hz, field_behind (show 1 ≤ 5 by decide),
      field_beSigned_behind (by decide), signedOf_beSigned hx, field_behind (show 1 ≤ 9 by decide),
      field_beSigned_behind (by decide), field_beSigned_behind (by decide), field_whole (Bool.toNat_lt_byte v), testBit_toNat]

end Sys2Proof

/-! PROOFS. Bytes written out, the configuration image, the supplies, discarded messages, the burst's start, the command receiver and the
attention output (O13, O14, O15, O31, O33, O51, O52, O54). -/

namespace Sys2Proof.Machine

open Sys2Proof

/-! ### Frames byte by byte -/

/-- Settles O13: the frames are read by evaluation, the check by its round trip. -/
theorem wordsRead : Obligations.WordsRead := by
  refine ⟨⟨?_, ?_, ?_, ?_, ?_, ?_, ?_, ?_⟩, checked_withCheck, ?_⟩ <;> decide +kernel

/-! ### The configuration image -/

theorem readImage_eq {l : List Byte} {c : NodeConfig} (h : readImage (some l) = some c) :
    imageAccepted l = true ∧ c = loadImage l := by
  simp only [readImage] at h
  split at h
  · next ha => exact ⟨ha, (Option.some.inj h).symm⟩
  · exact absurd h (by simp)

theorem imageAccepted_station {l : List Byte} (h : imageAccepted l = true) : 1 ≤ field 2 1 l ∧ field 2 1 l ≤ 250 := by
  simp only [imageAccepted, Bool.and_eq_true, decide_eq_true_eq] at h
  exact ⟨h.1.2, h.2⟩

/-- A byte field is below 256, a two-byte field below 65536. -/
theorem field_one_lt (off : Nat) (l : List Byte) : field off 1 l < 256 := field_lt off 1 l
theorem field_two_lt (off : Nat) (l : List Byte) : field off 2 l < 65536 := field_lt off 2 l

theorem loadKind_eq {l : List Byte} {e : KindEntry} (h : loadKind l = some e) : e = clampKind (rawKind l) := by
  simp only [loadKind] at h
  split at h
  · exact (Option.some.inj h).symm
  · exact absurd h (by simp)

/-- Clamping leaves a kind entry as it was exactly when none of its fields is out of range. -/
theorem clampKind_ne_iff (r : KindEntry) :
    clampKind r ≠ r ↔ 6000000 < r.nominalLength ∨ 6000000 < r.tolLength ∨ 1250000 < r.nominalRadius ∨ 1250000 < r.tolRadius ∨
      1250000 < r.runoutLimit ∨ 3000 < r.alpha ∨ r.bursts = 0 ∨ 2 < r.bursts ∨ r.fullLife < r.reserve ∨
      6000000 < r.wearLimit := by
  obtain ⟨unattended, nominalLength, tolLength, nominalRadius, tolRadius, runoutLimit, alpha, bursts, band, fullLife, reserve,
    wearRate, wearLimit, ageLimit⟩ := r
  simp only [clampKind, ne_eq, KindEntry.mk.injEq, true_and, and_true]
  omega

theorem kindClamped_iff (l : List Byte) : kindClamped l = true ↔
    (field 0 1 l).testBit 0 = true ∧ clampKind (rawKind l) ≠ rawKind l := by
  simp [kindClamped]

theorem anyClamped_iff (top v : Nat) : anyClamped top v = true ↔ v ≠ 0xFF ∧ top < v := by
  simp [anyClamped]

theorem alarmClamped_iff (l : List Byte) : alarmClamped l = true ↔
    (field 1 1 l ≠ 0xFF ∧ 23 < field 1 1 l) ∨ (field 2 1 l ≠ 0xFF ∧ 59 < field 2 1 l) ∨ 1 < field 4 1 l := by
  simp only [alarmClamped, Bool.or_eq_true, anyClamped_iff, decide_eq_true_eq, or_assoc]

theorem loadAny_le {top v h : Nat} (hv : loadAny top v = some h) : h ≤ top := by
  simp only [loadAny] at hv
  split at hv
  · exact absurd hv (by simp)
  · exact (Option.some.inj hv) ▸ Nat.min_le_right v top

theorem imageClamped_iff (l : List Byte) : imageClamped l = true ↔
    (∃ a, a < 6 ∧ 1 < field (3 + a) 1 l) ∨ 1 < field 10 1 l ∨
      (∃ k, k < 64 ∧ kindClamped (kindBytes l k) = true) ∨ (∃ k, k < 4 ∧ alarmClamped (alarmBytes l k) = true) := by
  simp only [imageClamped, Bool.or_eq_true, List.any_eq_true, List.mem_range, decide_eq_true_eq, or_assoc]

/-- R191: a kind entry that is loaded has every field in its range. -/
theorem clampKind_ranges (l : List Byte) {e : KindEntry} (h : e = clampKind (rawKind l)) :
    e.nominalLength ≤ 6000000 ∧ e.tolLength ≤ 6000000 ∧ e.nominalRadius ≤ 1250000 ∧ e.tolRadius ≤ 1250000 ∧
      e.runoutLimit ≤ 1250000 ∧ e.alpha ≤ 3000 ∧ 1 ≤ e.bursts ∧ e.bursts ≤ 2 ∧ e.reserve ≤ e.fullLife ∧
      e.wearLimit ≤ 6000000 ∧ e.band ≤ 65535 ∧ e.fullLife ≤ 65535 ∧ e.wearRate ≤ 65535 ∧ e.ageLimit ≤ 65535 := by
  have hband := field_two_lt 24 l
  have hlife := field_two_lt 26 l
  have hrate := field_two_lt 30 l
  have hage := field_two_lt 36 l
  subst h
  simp only [clampKind, rawKind]
  refine ⟨?_, ?_, ?_, ?_, ?_, ?_, ?_, ?_, ?_, ?_, ?_, ?_, ?_, ?_⟩ <;> omega

/-- The bit at index i of a byte formed from at most eight bits. -/
theorem byteOfBits_six (a b c d e f : Bool) :
    (byteOfBits [a, b, c, d, e, f]).getLsbD 0 = a ∧ (byteOfBits [a, b, c, d, e, f]).getLsbD 1 = b ∧
      (byteOfBits [a, b, c, d, e, f]).getLsbD 2 = c ∧ (byteOfBits [a, b, c, d, e, f]).getLsbD 3 = d ∧
      (byteOfBits [a, b, c, d, e, f]).getLsbD 4 = e ∧ (byteOfBits [a, b, c, d, e, f]).getLsbD 5 = f := by
  revert a b c d e f
  decide

/-- Settles O14, from what a clamp does to each field of the image. -/
theorem imageInRanges : Obligations.ImageInRanges := by
  intro l c hc
  obtain ⟨hacc, rfl⟩ := readImage_eq hc
  refine ⟨imageAccepted_station hacc, by simp [loadImage], by simp [loadImage], by simp [loadImage], by simp [loadImage],
    fun k hk e he => ?kind, fun a ha => ?alarm, ?clamped, fun s hs => ⟨_, rfl, ?shown⟩⟩
  case kind =>
    obtain ⟨i, -, rfl⟩ := List.mem_map.1 hk
    exact clampKind_ranges _ (loadKind_eq he)
  case alarm =>
    obtain ⟨i, -, rfl⟩ := List.mem_map.1 ha
    exact ⟨fun h hh => loadAny_le hh, fun m hm => loadAny_le hm⟩
  case clamped =>
    have hkinds : (∃ k, k < 64 ∧ kindClamped (kindBytes l k) = true) ↔
        ∃ k r, k < 64 ∧ (field 0 1 (kindBytes l k)).testBit 0 = true ∧ r = rawKind (kindBytes l k) ∧
          (6000000 < r.nominalLength ∨ 6000000 < r.tolLength ∨ 1250000 < r.nominalRadius ∨ 1250000 < r.tolRadius ∨
            1250000 < r.runoutLimit ∨ 3000 < r.alpha ∨ r.bursts = 0 ∨ 2 < r.bursts ∨ r.fullLife < r.reserve ∨
            6000000 < r.wearLimit) := by
      simp only [kindClamped_iff, clampKind_ne_iff]
      refine exists_congr fun k => ⟨fun ⟨hk, hd, hr⟩ => ⟨_, hk, hd, rfl, hr⟩, ?_⟩
      rintro ⟨r, hk, hd, rfl, hr⟩
      exact ⟨hk, hd, hr⟩
    have halarms : (∃ k, k < 4 ∧ alarmClamped (alarmBytes l k) = true) ↔
        ∃ k b, k < 4 ∧ b = alarmBytes l k ∧
          ((field 1 1 b ≠ 0xFF ∧ 23 < field 1 1 b) ∨ (field 2 1 b ≠ 0xFF ∧ 59 < field 2 1 b) ∨ 1 < field 4 1 b) := by
      refine exists_congr fun k => ⟨fun ⟨hk, h⟩ => ⟨_, hk, rfl, (alarmClamped_iff _).1 h⟩, ?_⟩
      rintro ⟨b, hk, rfl, h⟩
      exact ⟨hk, (alarmClamped_iff _).2 h⟩
    rw [← hkinds, ← halarms]
    exact imageClamped_iff l
  case shown =>
    have hshown : s.configClamped = (loadImage l).clamped := by rw [State.configClamped, hs]
    rw [← hshown]
    exact (byteOfBits_six _ _ _ _ _ _).2.2.2.2.1

/-! ### Starts and supplies -/

theorem attention_of_unpowered {s : State} (h : s.stc.powered = false) : s.attention = false := by
  simp [State.attention, h]

theorem attention_of_unconfigured {s : State} (h : s.stc.config = none) : s.attention = false := by
  simp [State.attention, h]

theorem lineBytes_of_unpowered {s : State} (h : s.stc.powered = false) : s.lineBytes = none := by
  simp only [State.lineBytes, h]
  split <;> simp

theorem headBytes_of_unpowered {s : State} (h : s.stc.powered = false) : s.headBytes = none := by
  simp [State.headBytes, h]

theorem replyBytes_of_unpowered {s : State} (h : s.stc.powered = false) : s.replyBytes = none := by
  simp [State.replyBytes, h]

/-- Settles O15: each supply command is its one update, read field by field. -/
theorem suppliesAct : Obligations.SuppliesAct := by
  refine ⟨fun s => ⟨beginStart s, rfl, fun h => ?reset, fun h => ?noPower, rfl, rfl, rfl, rfl, rfl, rfl, rfl, rfl, rfl, rfl, rfl,
    rfl, rfl, rfl, attention_of_unconfigured rfl, rfl, rfl, rfl, rfl, rfl⟩,
    fun s => ⟨rfl, _, rfl, rfl, attention_of_unpowered rfl, lineBytes_of_unpowered rfl, headBytes_of_unpowered rfl,
      replyBytes_of_unpowered rfl⟩⟩
  case reset => exact congrArg Host.Outcome.next (if_pos h)
  case noPower => exact congrArg Host.Outcome.next (if_neg (by simp [h]))

/-! ### Messages without effect -/

/-- Settles O31: the commands that discard do nothing, and the head port's own test guards the others. -/
theorem discardedIsNothing : Obligations.DiscardedIsNothing := by
  refine ⟨fun b s => ⟨rfl, rfl, rfl⟩, fun s hs => ⟨fun u k => ?_, ?_, fun n e t => ?_, fun i z x v => ?_, ?_⟩⟩ <;>
    exact congrArg Host.Outcome.next (if_neg (by simp [hs]))

/-! ### The start of a burst -/

/-- R66: a burst in progress is aborted; what becomes of the transmitter follows from what it was sending. -/
theorem abortBurst_pru (s : State) :
    abortBurst s = { s with pru := (abortBurst s).pru } ∧ (abortBurst s).pru.gauge = s.pru.gauge ∧
      (abortBurst s).pru.first = s.pru.first ∧ (abortBurst s).pru.queue = s.pru.queue ∧
      (s.pru.burst = none → abortBurst s = s) ∧
      (s.pru.burst.isSome = true → s.pru.tx = none →
        (abortBurst s).pru.tx = some ⟨.aborted, 0, 0, 0⟩ ∧ (abortBurst s).pru.txWait = s.pru.txWait) ∧
      (s.pru.burst.isSome = true → s.pru.tx.isSome = true →
        (abortBurst s).pru.tx = s.pru.tx ∧ (abortBurst s).pru.txWait = some ⟨.aborted, 0, 0, 0⟩) := by
  cases hb : s.pru.burst <;> cases ht : s.pru.tx <;> simp [abortBurst, sendResult, hb, ht, Result.bare]

theorem clampCount_eq (n : Nat) : clampCount n = if n < 4 then 4 else if 32 < n then 32 else n := by
  unfold clampCount
  split
  · omega
  · split <;> omega

/-- Settles O33, by what the abort leaves and by the place of the temperature against its range. -/
theorem burstOpens : Obligations.BurstOpens := by
  intro n edge temp s hs
  obtain ⟨hrest, hgauge, hfirst, hqueue, hnone, hidle, hbusy⟩ := abortBurst_pru s
  refine ⟨_, congrArg Host.Outcome.next (if_pos hs), ?rest, hgauge, hfirst, hqueue,
    ⟨_, rfl, ?tool, clampCount_eq n, rfl, rfl, ?noTemperature, fun x hx => ?temperature⟩, fun hb => ?none, hidle, hbusy,
    congrArg Host.Outcome.next (if_pos hs)⟩
  case rest => conv_lhs => rw [hrest]
  case tool => simp only [newBurst, hgauge]
  case noTemperature =>
    rintro rfl
    exact ⟨rfl, rfl⟩
  case temperature =>
    subst hx
    simp only [newBurst, clampTemperature, temperatureProvisional, Bool.or_eq_true, Bool.or_eq_false_iff, decide_eq_true_eq,
      decide_eq_false_iff_not]
    refine ⟨fun h => ⟨by omega, .inl h⟩, fun h => ⟨by omega, .inr h⟩, fun h1 h2 => ⟨by omega, by omega, by omega⟩⟩
  case none => simp only [hnone hb, and_self]

/-! ### The command receiver -/

theorem receiverOn_iff (s : State) : s.receiverOn = true ↔ s.stc.powered = true ∧ s.stc.node ≠ .loading := by
  simp [State.receiverOn]

/-- R154: with the receiver off a command is lost. -/
theorem command_of_off {s : State} (h : s.receiverOn = false) (code : Nat) (f : State → Answer) : command code f s = s := by
  simp [command, h]

/-- R153: while a reply is being sent a command sets OVERRUN only. -/
theorem command_of_busy {s : State} (h : s.receiverOn = true) (hr : s.slk.reply.isSome = true) (code : Nat)
    (f : State → Answer) : command code f s = overrun s := by
  simp [command, h, hr]

/-- R154: before the end of RESTORING a command is answered BUSY. -/
theorem command_of_starting {s : State} (h : s.stc.powered = true) (hn : s.stc.node = .hunting ∨ s.stc.node = .restoring)
    (hr : s.slk.reply = none) (code : Nat) (f : State → Answer) : command code f s = s.replied code .busy .none := by
  rcases hn with hn | hn <;> simp [command, State.receiverOn, h, hn, hr, takeCommand, respond, plain, State.replied]

/-- R154: in CONFIG_FAULT a command is answered REFUSED. -/
theorem command_of_configFault {s : State} (h : s.stc.powered = true) (hn : s.stc.node = .configFault)
    (hr : s.slk.reply = none) (code : Nat) (f : State → Answer) : command code f s = s.replied code .refused .none := by
  simp [command, State.receiverOn, h, hn, hr, takeCommand, respond, plain, State.replied]

/-- R153, R202: a station-link command other than STATUS goes through the receiver under its own code. -/
theorem exec_of_linkCode {c : Instr} {code : Nat} (h : linkCode c = some code) :
    ∃ f : State → Answer, ∀ s, exec c s = .next (command code f s) := by
  cases c <;> simp only [linkCode, Option.some.injEq, reduceCtorEq] at h <;> subst h <;> exact ⟨_, fun s => rfl⟩

/-- A command that the node's own rule takes is answered with that rule's answer. -/
theorem exec_unknown_of_takesCommands {s : State} (hs : s.takesCommands) (code : Nat) (payload : List Byte) :
    exec (.unknownCommand code payload) s =
      .next (s.replied code (if (commandLength code).isSome then .range else .refused) .none) :=
  congrArg Host.Outcome.next (command_of_takesCommands hs code (unknown code))

theorem exec_status_of_on {s : State} (h : s.receiverOn = true) :
    exec .status s = .next (if s.slk.reply.isSome then overrun s else s.replied 0x10 .ok .none) :=
  congrArg Host.Outcome.next (if_neg (by simp [h]))

/-- Settles O51: the receiver by its state, then the answers that do not depend on a command's rule. -/
theorem receiverActs : Obligations.ReceiverActs := by
  refine ⟨fun c code s hc => ?gate, fun s hp hn => ?answers⟩
  case gate =>
    obtain ⟨f, hf⟩ := exec_of_linkCode hc
    refine ⟨fun h => ?off, fun hp hn hr => ?busy, fun hp hn hr => ?starting, fun hp hn hr => ?fault⟩
    case off =>
      rw [hf, command_of_off]
      rw [Bool.eq_false_iff, ne_eq, receiverOn_iff]
      rcases h with h | h <;> simp [h]
    case busy => rw [hf, command_of_busy ((receiverOn_iff s).2 ⟨hp, hn⟩) hr]; rfl
    case starting => rw [hf, command_of_starting hp hn hr]
    case fault => rw [hf, command_of_configFault hp hn hr]
  case answers =>
    have hon := (receiverOn_iff s).2 ⟨hp, hn⟩
    refine ⟨fun hr => ?status, fun hr => ⟨?statusBusy, ?overrun⟩, ?sent, fun code payload hs => ⟨fun hc => ?unknown, fun hc => ?length⟩,
      fun hf => ?fault⟩
    case status => rw [exec_status_of_on hon, hr]; rfl
    case statusBusy => rw [exec_status_of_on hon, if_pos hr]; rfl
    case overrun => exact congrArg Host.Outcome.next (if_pos (by simp [hon, hr]))
    case sent => exact congrArg Host.Outcome.next (if_pos hon)
    case unknown => rw [exec_unknown_of_takesCommands hs, hc]; rfl
    case length => rw [exec_unknown_of_takesCommands hs, if_pos hc]
    case fault =>
      refine ⟨_, by simp only [State.statusWord, hf, NodeState.code, decide_true, if_true]; rfl, ?_⟩
      obtain ⟨h0, h1, h2, h3, -, h5⟩ := byteOfBits_six s.cck.low (!true && !s.cck.trust) false true s.configClamped
        (!true && s.sweepActive)
      exact ⟨h0, h1, h2, h3, h5⟩

/-- Settles O52: CLEAR by the node state that takes it. -/
theorem clearClears : Obligations.ClearClears := by
  intro s hp hr
  refine ⟨fun hs => ?taken, fun hn => ?starting, fun hn => ?fault⟩
  case taken => exact congrArg Host.Outcome.next (command_of_takesCommands ⟨hs, hr⟩ 0x11 clearSticky)
  case starting => exact congrArg Host.Outcome.next (command_of_starting hp hn hr 0x11 clearSticky)
  case fault => exact congrArg Host.Outcome.next (command_of_configFault hp hn hr 0x11 clearSticky)

/-! ### Notices and the attention output -/

theorem mem_replaceNotice {n : Notice} {l : List Notice} (h : l.any (fun m => m.matches n) = true) : n ∈ replaceNotice n l := by
  induction l with
  | nil => simp at h
  | cons x xs ih =>
    unfold replaceNotice
    split
    · exact List.mem_cons_self
    · next hx =>
      rw [List.any_cons, Bool.or_eq_true] at h
      exact List.mem_cons_of_mem _ (ih (h.resolve_left hx))

/-- R172: owing a pulse leaves the waiting notices as they are. -/
theorem owePulse_notices (s : State) : (owePulse s).slk.notices = s.slk.notices := by
  unfold owePulse
  split
  · split <;> rfl
  · rfl

/-- R170: what queueing a notice does with the waiting ones, before a pulse is owed. -/
def queueNotice (n : Notice) (s : State) : State :=
  if s.slk.notices.length < 16 then { s with slk := { s.slk with notices := s.slk.notices ++ [n] } }
  else if s.slk.notices.any (fun m => m.matches n) then
    { s with slk := { s.slk with notices := replaceNotice n s.slk.notices } }
  else
    { s with slk := { s.slk with notices := s.slk.notices.drop 1 ++ [n],
                                 sticky := { s.slk.sticky with noticeOverflow := true } } }

theorem pushNotice_of_shown {n : Notice} {s : State} (h : s.masked n.kind = false) :
    pushNotice n s = owePulse (queueNotice n s) := by
  rw [pushNotice, h]
  rfl

theorem mem_queueNotice (n : Notice) (s : State) : n ∈ (queueNotice n s).slk.notices := by
  unfold queueNotice
  split
  · simp
  · split
    · next h => exact mem_replaceNotice h
    · simp

/-- R170: queueing a notice leaves the configuration, the owed count and the output as they are. -/
theorem queueNotice_rest (n : Notice) (s : State) : (queueNotice n s).stc = s.stc ∧
    (queueNotice n s).slk.owed = s.slk.owed ∧ (queueNotice n s).slk.pulse = s.slk.pulse := by
  unfold queueNotice
  split
  · exact ⟨rfl, rfl, rfl⟩
  · split <;> exact ⟨rfl, rfl, rfl⟩

theorem owePulse_of_level {s : State} {c : NodeConfig} (hc : s.stc.config = some c) (h : c.attention = .level) :
    owePulse s = s := by
  simp [owePulse, hc, h]

theorem owePulse_of_pulse {s : State} {c : NodeConfig} (hc : s.stc.config = some c) (h : c.attention = .pulse) :
    owePulse s = { s with slk := { s.slk with owed := min 16 (s.slk.owed + 1),
                                              pulse := if s.slk.pulse = .idle then .asserted else s.slk.pulse } } := by
  simp [owePulse, hc, h]

/-- Settles O54: the output as a function of the state, then a queued notice by the attention mode. -/
theorem attentionFollows : Obligations.AttentionFollows := by
  refine ⟨fun s => ⟨fun hp hn h => ?pulse, fun hp hn h => ?release, fun c hp hc h => ?level, fun c hp hc h => ?pulseMode, ?off⟩,
    fun n c s hc hm => ?queued⟩
  case pulse => exact congrArg Host.Outcome.next (if_pos (by simp [(receiverOn_iff s).2 ⟨hp, hn⟩, h]))
  case release => exact congrArg Host.Outcome.next (if_pos (by simp [(receiverOn_iff s).2 ⟨hp, hn⟩, h]))
  case level => simp [State.attention, hp, hc, h]
  case pulseMode => simp [State.attention, hp, hc, h]
  case off =>
    rintro (h | h)
    · exact attention_of_unpowered h
    · exact attention_of_unconfigured h
  case queued =>
    obtain ⟨hstc, howed, hpulse⟩ := queueNotice_rest n s
    have hc' : (queueNotice n s).stc.config = some c := by rw [hstc, hc]
    rw [pushNotice_of_shown hm, owePulse_notices]
    refine ⟨mem_queueNotice n s, fun h => ?_, fun h => ?_⟩
    · rw [owePulse_of_pulse hc' h]
      exact ⟨by simp only [howed], fun hi => by simp [hpulse, hi], fun hi => by simp [hpulse, hi]⟩
    · rw [owePulse_of_level hc' h]
      exact ⟨howed, hpulse⟩

end Sys2Proof.Machine

/-! PROOFS. What the shared operations do, under the conditions in which they act: the reader that stays where it is, reads asked for,
entries stored and changed as versions, RECORDs and frames handed over, notices, transfers closed. -/

namespace Sys2Proof.Machine

open Sys2Proof

variable {s t : State}

/-! ### The reader -/

/-- R49, R60: there is no grant and no visit while a read is under way or none is queued, and no sweep waits to visit. -/
theorem readerStep_none (hgrant : s.rds.inFlight.isSome = true ∨ s.rds.queue = [])
    (hvisit : s.rds.sweep = .active → s.rds.awaiting = true) : readerStep s = none := by
  have hv : (decide (s.rds.sweep = .active) && !s.rds.awaiting) = false := by
    by_cases h : s.rds.sweep = .active <;> simp [h, hvisit]
  unfold readerStep
  split
  · rfl
  · split
    · next hi hq => rcases hgrant with h | h <;> simp_all
    · simp [hv]

theorem settleReader_of_none (h : readerStep s = none) : settleReader s = s := by
  unfold settleReader readerRun
  rw [h]

theorem settleReader_stays (hgrant : s.rds.inFlight.isSome = true ∨ s.rds.queue = [])
    (hvisit : s.rds.sweep = .active → s.rds.awaiting = true) : settleReader s = s :=
  settleReader_of_none (readerStep_none hgrant hvisit)

theorem settleReader_of_busy (h : s.readerBusy) : settleReader s = s :=
  settleReader_stays (.inl h.1) (fun ha => absurd (h.2.symm.trans ha) (by decide))

theorem State.readerElsewhere.busy {p : PocketNo} (h : s.readerElsewhere p) : s.readerBusy := by
  obtain ⟨⟨r, hr, -⟩, hidle⟩ := h
  exact ⟨by rw [hr]; rfl, hidle⟩

theorem State.readerElsewhere.notInFlight {p : PocketNo} (h : s.readerElsewhere p) :
    s.rds.inFlight.map (·.pocket) ≠ some p := by
  obtain ⟨⟨r, hr, hne⟩, -⟩ := h
  simp [hr, hne]

/-- The reader is as busy after a change that leaves the read under way and the sweep. -/
theorem State.readerBusy.of_rds (h : s.readerBusy) (hf : t.rds.inFlight = s.rds.inFlight) (hw : t.rds.sweep = s.rds.sweep) :
    t.readerBusy := ⟨hf ▸ h.1, hw ▸ h.2⟩

/-! ### Readings that depend on one block -/

theorem State.pocket_of_pkc (h : t.pkc = s.pkc) (p : PocketNo) : t.pocket p = s.pocket p := by
  unfold State.pocket
  rw [h]

theorem State.present_of_pkc (h : t.pkc = s.pkc) (p : PocketNo) : t.present p = s.present p := by
  unfold State.present
  rw [State.pocket_of_pkc h]

theorem State.adoptionOpen_of_cue (h : t.cue = s.cue) (u : ToolId) : t.adoptionOpen u = s.adoptionOpen u := by
  unfold State.adoptionOpen State.window?
  rw [h]

theorem adoptionOpen_of_windowOpen {u : ToolId} (h : s.windowOpen u = false) : s.adoptionOpen u = false := by
  simp only [State.windowOpen, Option.isSome_eq_false_iff, Option.isNone_iff_eq_none] at h
  simp [State.adoptionOpen, h]

theorem windowOpen_of_window? {u : ToolId} (h : s.window? u = none) : s.windowOpen u = false := by
  simp [State.windowOpen, h]

theorem urgentTakes_iff : s.urgentTakes = true ↔ s.hli.urgent.length < 8 ∧ s.stc.node ≠ .idConflict := by
  simp [State.urgentTakes, State.urgentSpace]

theorem hallTaken_running {src : StationId} (h : s.hallTaken src = true) : s.running = true := by
  simp only [State.hallTaken, Bool.and_eq_true] at h
  exact h.1.1.1

theorem Entry.here_iff {e : Entry} : e.here = true ↔ e.custody ≠ .foreign := by
  simp [Entry.here]

/-! ### Pockets -/

theorem State.Bounded.pocket_lt (h : s.Bounded) {p : PocketNo} (hp : p < 48) : p < s.pkc.pockets.length := by
  rw [h.pockets]
  exact hp

/-- Reading the pocket just changed. -/
theorem pocket_modPocket_self {p : PocketNo} (f : Pocket → Pocket) (hp : p < s.pkc.pockets.length) :
    (modPocket p f s).pocket p =
      { f (s.pocket p) with indicator := (f (s.pocket p)).derivedIndicator s.presetHead } := by
  rw [pocket_modPocket p p f s hp, if_pos rfl]

/-- A pocket outside the list of pockets reads as an ABSENT one, and a change of it is lost. -/
theorem lt_of_pocket_present {p : PocketNo} (h : (s.pocket p).state ≠ .absent) : p < s.pkc.pockets.length := by
  by_contra hp
  exact h (by simp [State.pocket, List.getD_eq_getElem?_getD, List.getElem?_eq_none (Nat.le_of_not_lt hp), Pocket.vacant])

/-- A change of a pocket outside the list changes nothing. -/
theorem modPocket_of_le {p : PocketNo} (f : Pocket → Pocket) (h : s.pkc.pockets.length ≤ p) : modPocket p f s = s := by
  simp only [modPocket, putPocket, List.set_eq_of_length_le h]

/-- R37: the indicator does not depend on itself. -/
@[simp] theorem derivedIndicator_with_indicator (head : Option ToolId) (k : Pocket) (i : Indicator) :
    ({ k with indicator := i }).derivedIndicator head = k.derivedIndicator head := rfl

theorem State.present_iff {p : PocketNo} : s.present p = true ↔ p < 48 ∧ (s.pocket p).state ≠ .absent := by
  simp [State.present]

/-- A change of a pocket that leaves its state leaves every pocket as present as it was. -/
theorem present_modPocket {p : PocketNo} {f : Pocket → Pocket} (hf : ((f (s.pocket p)).state = .absent) ↔ (s.pocket p).state = .absent)
    (q : PocketNo) : (modPocket p f s).present q = s.present q := by
  unfold State.present
  by_cases hq : q = p
  · subst hq
    by_cases hlt : q < s.pkc.pockets.length
    · rw [pocket_modPocket_self f hlt]
      simp only [hf]
    · rw [modPocket_of_le f (Nat.le_of_not_lt hlt)]
  · rw [pocket_modPocket_ne hq]

/-! ### Reads asked for (R49) -/

/-- R49: a read that is neither queued nor under way goes to the tail. -/
theorem enqueueRead_eq {p : PocketNo} (hp : s.present p = true) (hq : p ∉ s.rds.queue)
    (hf : s.rds.inFlight.map (·.pocket) ≠ some p) :
    enqueueRead p s = { s with rds := { s.rds with queue := s.rds.queue ++ [p] } } := by
  simp [enqueueRead, hp, hq, hf]

/-- A read asked for changes the queue alone. -/
theorem enqueueRead_queue (p : PocketNo) (s : State) :
    enqueueRead p s = { s with rds := { s.rds with queue := (enqueueRead p s).rds.queue } } := by
  unfold enqueueRead
  split <;> rfl

theorem mem_enqueueRead {p : PocketNo} (hp : s.present p = true) (hf : s.rds.inFlight.map (·.pocket) ≠ some p) :
    p ∈ (enqueueRead p s).rds.queue := by
  by_cases hq : p ∈ s.rds.queue
  · simp [enqueueRead, hq]
  · rw [enqueueRead_eq hp hq hf]
    simp

theorem enqueueRead_subset {p q : PocketNo} (h : q ∈ (enqueueRead p s).rds.queue) : q = p ∨ q ∈ s.rds.queue := by
  unfold enqueueRead at h
  split at h
  · exact .inr h
  · simpa [or_comm] using h

@[simp] theorem enqueueRead_pocket (p q : PocketNo) (s : State) : (enqueueRead p s).pocket q = s.pocket q :=
  State.pocket_of_pkc (by simp) q

theorem requestRead_eq (p : PocketNo) (s : State) :
    requestRead p s = { modPocket p (fun k => { k with readRequested := true }) s with
      rds := { s.rds with queue := (requestRead p s).rds.queue } } :=
  enqueueRead_queue p _

/-- A read asked for leaves the reader and the sweep where they are. -/
@[simp] theorem requestRead_reader (p : PocketNo) (s : State) :
    (requestRead p s).rds.inFlight = s.rds.inFlight ∧ (requestRead p s).rds.sweep = s.rds.sweep ∧
      (requestRead p s).rds.cursor = s.rds.cursor ∧ (requestRead p s).rds.awaiting = s.rds.awaiting ∧
      (requestRead p s).rds.table = s.rds.table := by
  rw [requestRead_eq]
  exact ⟨rfl, rfl, rfl, rfl, rfl⟩

theorem State.readerBusy.requestRead (h : s.readerBusy) (p : PocketNo) : (requestRead p s).readerBusy :=
  h.of_rds (by simp) (by simp)

theorem requestRead_pocket_self {p : PocketNo} (hp : p < s.pkc.pockets.length) :
    (requestRead p s).pocket p =
      { s.pocket p with readRequested := true, indicator := (s.pocket p).derivedIndicator s.presetHead } := by
  rw [requestRead, enqueueRead_pocket, pocket_modPocket_self _ hp]
  rfl

theorem requestRead_pocket_ne {p q : PocketNo} (h : q ≠ p) : (requestRead p s).pocket q = s.pocket q := by
  rw [requestRead, enqueueRead_pocket, pocket_modPocket_ne h]

theorem mem_requestRead {p : PocketNo} (hp : s.present p = true) (hf : s.rds.inFlight.map (·.pocket) ≠ some p) :
    p ∈ (requestRead p s).rds.queue :=
  mem_enqueueRead (by rwa [present_modPocket Iff.rfl]) hf

/-! ### Entries (R8, R11) -/

theorem tool_of_entry? {u : ToolId} {e : Entry} (h : s.entry? u = some e) : e.tool = u := (mem_of_entry? h).2

/-- Reading the entry just stored, in an ascending register. -/
theorem entry?_putEntry_self {e : Entry} (h : s.trg.entries.Pairwise (fun a b => a.tool < b.tool)) :
    (putEntry e s).entry? e.tool = some e := by
  rw [entry_putEntry e e.tool s h, if_pos rfl]

theorem entry?_putEntry_ne {e : Entry} {v : ToolId} (h : s.trg.entries.Pairwise (fun a b => a.tool < b.tool)) (hv : v ≠ e.tool) :
    (putEntry e s).entry? v = s.entry? v := by
  rw [entry_putEntry e v s h, if_neg hv]

theorem modEntry_eq {u : ToolId} {e : Entry} (h : s.entry? u = some e) (f : Entry → Entry) : modEntry u f s = putEntry (f e) s := by
  simp [modEntry, h]

/-- R8, R94: the RECORD of a custody entry is handed over as it stands. -/
theorem handRecord_eq {u : ToolId} {e : Entry} (h : s.entry? u = some e) (hh : e.custody ≠ .foreign)
    (ha : s.adoptionOpen u = false) (hn : s.stc.node ≠ .idConflict) :
    handRecord u s = { s with hli := { s.hli with routine := placeRecord e.record s.hli.routine } } := by
  simp [handRecord, h, Entry.here_iff.2 hh, ha, hn]

/-- What a RECORD handed over does not change. -/
theorem handRecord_rest (u : ToolId) (s : State) :
    handRecord u s = { s with hli := { s.hli with routine := (handRecord u s).hli.routine } } := by
  unfold handRecord
  split
  · split <;> rfl
  · rfl

/-- R1, R101, R141: no RECORD goes out for a cached entry, for none, under an adoption window, or in ID_CONFLICT. -/
theorem handRecord_none {u : ToolId} (h : (∀ e, s.entry? u = some e → e.custody = .foreign) ∨ s.adoptionOpen u = true ∨
    s.stc.node = .idConflict) : handRecord u s = s := by
  unfold handRecord
  split
  · next e he =>
    split
    · next hc =>
      simp only [Bool.and_eq_true, Bool.not_eq_true', decide_eq_false_iff_not, Entry.here_iff] at hc
      obtain ⟨⟨hhere, hadopt⟩, hnode⟩ := hc
      rcases h with h | h | h
      · exact absurd (h e he) hhere
      · rw [h] at hadopt; exact absurd hadopt (by decide)
      · exact absurd h hnode
    · rfl
  · rfl

theorem clearMark_none {p : PocketNo} (h : (s.pocket p).mark = none) (u : Option ToolId) : clearMark p u s = s := by
  simp [clearMark, h]

theorem clearMark_some {p : PocketNo} {m : Mark} (h : (s.pocket p).mark = some m) (u : Option ToolId) :
    clearMark p u s = pushNotice (pocketNotice .recordChanged p u) (modPocket p (fun k => { k with mark := none }) s) := by
  simp [clearMark, h]

theorem clearEntryMark_none {e : Entry} (h : e.pocket = none) : clearEntryMark e s = s := by
  simp [clearEntryMark, h]

theorem clearEntryMark_some {e : Entry} {p : PocketNo} (h : e.pocket = some p) :
    clearEntryMark e s = clearMark p (some e.tool) s := by
  simp [clearEntryMark, h]

/-- R8: a versioned change outside an adoption window. -/
theorem versioned_eq {u : ToolId} {e : Entry} (h : s.entry? u = some e) (ha : s.adoptionOpen u = false) (f : Entry → Entry) :
    versioned u f s =
      (if (f e).condition = e.condition then id else presetReport u)
        (handRecord u (putEntry { f e with version := e.version + 1 } (clearEntryMark e s))) := by
  simp only [versioned, h, ha]
  split <;> simp

/-- R8: a versioned change of an entry in no pocket, its condition kept. -/
theorem versioned_eq_outside {u : ToolId} {e : Entry} (h : s.entry? u = some e) (ha : s.adoptionOpen u = false)
    (hp : e.pocket = none) {f : Entry → Entry} (hf : (f e).condition = e.condition) :
    versioned u f s = handRecord u (putEntry { f e with version := e.version + 1 } s) := by
  rw [versioned_eq h ha, clearEntryMark_none hp, if_pos hf, id]

/-! ### Frames and transfers -/

theorem handPlain_eq (hu : s.hli.urgent.length < 8) (hn : s.stc.node ≠ .idConflict) (f : Frame) (o : FrameOwner) :
    handPlain f o s = { s with hli := { s.hli with urgent := s.hli.urgent ++ [⟨f, o⟩] } } :=
  if_pos (urgentTakes_iff.2 ⟨hu, hn⟩)

theorem sendLapse_eq (hu : s.hli.urgent.length < 8) (hn : s.stc.node ≠ .idConflict) (dst : StationId) (n : SeekNo)
    (reason : LapseReason) (o : FrameOwner) :
    sendLapse dst n reason o s = { s with hli := { s.hli with urgent := s.hli.urgent ++ [⟨.lapse dst n reason, o⟩] } } :=
  handPlain_eq hu hn _ _

/-- R112: a giver transfer is found under its own seeker and seek number. -/
theorem giver?_ids {src : StationId} {n : SeekNo} {g : Giver} (h : s.giver? src n = some g) :
    g ∈ s.cue.givers ∧ g.seeker = src ∧ g.seek = n := by
  have hm := List.find?_some h
  simp only [Bool.and_eq_true, beq_iff_eq] at hm
  exact ⟨List.mem_of_find?_eq_some h, hm.1, hm.2⟩

theorem taker?_ids {n : SeekNo} {k : Taker} (h : s.taker? n = some k) : k ∈ s.cue.takers ∧ k.seek = n := by
  have hm := List.find?_some h
  simp only [beq_iff_eq] at hm
  exact ⟨List.mem_of_find?_eq_some h, hm⟩

theorem giver?_closeGiver (g : Giver) (s : State) : (closeGiver g s).giver? g.seeker g.seek = none := by
  simp only [State.giver?, closeGiver_givers, List.find?_eq_none, List.mem_filter]
  rintro x ⟨-, hx⟩
  simpa only [Bool.not_eq_true', Bool.not_eq_true] using hx

/-- R113: the pair just closed stands at the tail of the lapsed list. -/
theorem addLapsed_getLast? (x : StationId × SeekNo) (l : List (StationId × SeekNo)) : (addLapsed x l).getLast? = some x := by
  unfold addLapsed
  rw [List.getLast?_drop, List.getLast?_append]
  simp

/-- R112: a giver transfer put back under its own identity is found there. -/
theorem giver?_putGiver {g g' : Giver} (h : s.giver? g.seeker g.seek = some g) (h1 : g'.seeker = g.seeker)
    (h2 : g'.seek = g.seek) : (putGiver g' s).giver? g.seeker g.seek = some g' := by
  have key : ∀ l : List Giver, l.find? (fun x => x.seeker == g.seeker && x.seek == g.seek) = some g →
      (l.map (fun x => if x.seeker = g'.seeker ∧ x.seek = g'.seek then g' else x)).find?
        (fun x => x.seeker == g.seeker && x.seek == g.seek) = some g' := by
    intro l
    induction l with
    | nil => simp
    | cons x xs ih =>
      intro hl
      by_cases hx : x.seeker = g.seeker ∧ x.seek = g.seek
      · simp [h1, h2, hx]
      · have hb : (x.seeker == g.seeker && x.seek == g.seek) = false := by simpa using hx
        rw [List.find?_cons, hb] at hl
        rw [List.map_cons, h1, h2, if_neg hx, List.find?_cons, hb]
        simpa [h1, h2] using ih hl
  exact key _ h

theorem taker?_putTaker {n : SeekNo} {k k' : Taker} (h : s.taker? n = some k) (hk : k'.seek = n) :
    (putTaker k' s).taker? n = some k' := by
  have key : ∀ l : List Taker, l.find? (fun x => x.seek == n) = some k →
      (l.map (fun x => if x.seek = k'.seek then k' else x)).find? (fun x => x.seek == n) = some k' := by
    intro l
    induction l with
    | nil => simp
    | cons x xs ih =>
      intro hl
      by_cases hx : x.seek = n
      · simp [hk, hx]
      · rw [List.find?_cons, beq_eq_false_iff_ne.2 hx] at hl
        rw [List.map_cons, hk, if_neg hx, List.find?_cons, beq_eq_false_iff_ne.2 hx]
        simpa [hk] using ih hl
  exact key _ h

/-! ### Notices (R170) -/

/-- R170: an unmasked notice goes behind the others while there is room. -/
theorem pushNotice_notices {n : Notice} (hm : s.masked n.kind = false) (hl : s.slk.notices.length < 16) :
    (pushNotice n s).slk.notices = s.slk.notices ++ [n] := by
  rw [pushNotice_of_shown hm, owePulse_notices, queueNotice, if_pos hl]

theorem masked_of_stc (h : t.stc = s.stc) (k : NoticeKind) : t.masked k = s.masked k := by
  unfold State.masked
  rw [h]

end Sys2Proof.Machine

/-! PROOFS. Marks, doors, latches and reads of one pocket: what becomes of the pocket and of the reader; the ends of a transfer. -/

namespace Sys2Proof.Machine

open Sys2Proof

variable {s t : State} {p q : PocketNo}

/-! ### LOADED marks (R164) -/

theorem clearMark_pkc (p : PocketNo) (u : Option ToolId) (s : State) :
    (clearMark p u s).pkc =
      if (s.pocket p).mark = none then s.pkc else (modPocket p (fun k => { k with mark := none }) s).pkc := by
  cases h : (s.pocket p).mark with
  | none => rw [clearMark_none h, if_pos rfl]
  | some m => rw [clearMark_some h, if_neg (by simp), (pushNotice_frame _ _).2.1]

@[simp] theorem clearMark_length (p : PocketNo) (u : Option ToolId) (s : State) :
    (clearMark p u s).pkc.pockets.length = s.pkc.pockets.length := by
  rw [clearMark_pkc]
  split <;> simp

/-- A cleared mark is all of its pocket that changes, but for the indicator. -/
theorem clearMark_pocket_self (hp : p < s.pkc.pockets.length) (u : Option ToolId) :
    ∃ i, (clearMark p u s).pocket p = { s.pocket p with mark := none, indicator := i } := by
  cases h : (s.pocket p).mark with
  | none =>
    rw [clearMark_none h]
    exact ⟨(s.pocket p).indicator, by rw [← h]⟩
  | some m =>
    rw [State.pocket_of_pkc (clearMark_pkc p u s ▸ if_neg (by simp [h])) p, pocket_modPocket_self _ hp]
    exact ⟨_, rfl⟩

theorem clearMark_pocket_ne (h : q ≠ p) (u : Option ToolId) : (clearMark p u s).pocket q = s.pocket q := by
  cases hm : (s.pocket p).mark with
  | none => rw [clearMark_none hm]
  | some m =>
    rw [State.pocket_of_pkc (clearMark_pkc p u s ▸ if_neg (by simp [hm])) q, pocket_modPocket_ne h]

@[simp] theorem clearMark_modules (p : PocketNo) (u : Option ToolId) (s : State) :
    (clearMark p u s).pkc.modules = s.pkc.modules := by
  rw [clearMark_pkc]
  split <;> rfl

/-! ### Reads withdrawn (R51), stages disturbed (R160) -/

theorem withdrawReads_pkc (p : PocketNo) (s : State) :
    (withdrawReads p s).pkc = (modPocket p (fun k => { k with readRequested := false }) s).pkc := rfl

theorem withdrawReads_rds (p : PocketNo) (s : State) :
    (withdrawReads p s).rds = { s.rds with
      queue := s.rds.queue.filter (· != p),
      inFlight := if s.rds.inFlight.map (·.pocket) = some p then none else s.rds.inFlight,
      awaiting := s.rds.awaiting && !decide (s.rds.cursor = p) } := rfl

theorem withdrawReads_cue (p : PocketNo) (s : State) :
    (withdrawReads p s).cue = { s.cue with waiting := s.cue.waiting.filter (fun w => !w.isAt (.pocket p)) } := rfl

@[simp] theorem disturbStage_pocket (p q : PocketNo) (s : State) : (disturbStage p s).pocket q = s.pocket q :=
  State.pocket_of_pkc (by simp) q

/-- R160: what a disturbed stage leaves of the Station Link. -/
theorem disturbStage_slk (p : PocketNo) (s : State) :
    (disturbStage p s).slk = { s.slk with stage := (disturbStage p s).slk.stage } ∧
      (s.slk.stage = none → disturbStage p s = s) := by
  unfold disturbStage
  split
  · next g h =>
    refine ⟨?_, fun hn => absurd (h.symm.trans hn) (by simp)⟩
    split
    · rfl
    · rfl
  · exact ⟨rfl, fun _ => rfl⟩

/-! ### Unlatching (R34) and door openings (R32) -/

/-- R32, R34: what an opening does to its pocket, whatever the pocket's state. -/
def Pocket.opening (k : Pocket) : Pocket := { k with mark := none, verified := false, readRequested := false }

/-- The pocket after the steps that a door opening and an unlatch share, with f the door's own part. -/
theorem opening_pocket_self {f : Pocket → Pocket} (hp : p < s.pkc.pockets.length)
    (hf : ∀ k i, (f { k with mark := none, indicator := i }) = { f k with mark := none, indicator := i }) :
    (disturbStage p (withdrawReads p (modPocket p f (clearMark p (s.pocket p).contents s)))).pocket p =
      { f (s.pocket p) with mark := none, readRequested := false,
                            indicator := (f (s.pocket p)).derivedIndicator s.presetHead } := by
  obtain ⟨i, hi⟩ := clearMark_pocket_self hp (s.pocket p).contents
  have hlen : p < (clearMark p (s.pocket p).contents s).pkc.pockets.length := by simpa using hp
  rw [disturbStage_pocket, State.pocket_of_pkc (withdrawReads_pkc p _) p, pocket_modPocket_self _ (by simpa using hp),
    pocket_modPocket_self _ hlen, hi, hf]
  simp only [State.presetHead, (modPocket_frame _ _ _).2.2.1, (clearMark_frame _ _ _).2.2.1]
  rfl

theorem opening_pocket_ne {f : Pocket → Pocket} (h : q ≠ p) (u : Option ToolId) :
    (disturbStage p (withdrawReads p (modPocket p f (clearMark p u s)))).pocket q = s.pocket q := by
  rw [disturbStage_pocket, State.pocket_of_pkc (withdrawReads_pkc p _) q, pocket_modPocket_ne h, pocket_modPocket_ne h,
    clearMark_pocket_ne h]

/-- R32: the pocket whose door opened. -/
theorem openDoor_pocket_self (hp : p < s.pkc.pockets.length) :
    (openDoor p s).pocket p =
      { s.pocket p with door := .opened, verified := false, timerRunning := false, mark := none, readRequested := false,
                        indicator := (s.pocket p).derivedIndicator s.presetHead } :=
  opening_pocket_self hp (fun _ _ => rfl)

theorem openDoor_pocket_ne (h : q ≠ p) : (openDoor p s).pocket q = s.pocket q := opening_pocket_ne h _

/-- R34: the pocket unlatched on a module without door sensors. -/
theorem unlatchOpens_pocket_self (hp : p < s.pkc.pockets.length) :
    (unlatchOpens p s).pocket p =
      { s.pocket p with verified := false, mark := none, readRequested := false,
                        indicator := (s.pocket p).derivedIndicator s.presetHead } :=
  opening_pocket_self hp (fun _ _ => rfl)

theorem unlatchOpens_pocket_ne (h : q ≠ p) : (unlatchOpens p s).pocket q = s.pocket q := opening_pocket_ne h _

/-- R32, R34: what an opening leaves of the reader, the transfers and the modules. -/
theorem opening_rest (f : Pocket → Pocket) (u : Option ToolId) :
    (disturbStage p (withdrawReads p (modPocket p f (clearMark p u s)))).rds = (withdrawReads p s).rds ∧
      (disturbStage p (withdrawReads p (modPocket p f (clearMark p u s)))).cue = (withdrawReads p s).cue ∧
      (disturbStage p (withdrawReads p (modPocket p f (clearMark p u s)))).pkc.modules = s.pkc.modules ∧
      (disturbStage p (withdrawReads p (modPocket p f (clearMark p u s)))).pkc.pockets.length = s.pkc.pockets.length := by
  refine ⟨?_, ?_, ?_, ?_⟩
  · simp [withdrawReads_rds]
  · simp [withdrawReads_cue]
  · rw [(disturbStage_frame _ _).2.1, withdrawReads_pkc]
    simp
  · rw [(disturbStage_frame _ _).2.1, withdrawReads_pkc]
    simp

theorem hasDoor_of_modules (h : t.pkc.modules = s.pkc.modules) (q : PocketNo) : t.hasDoor q = s.hasDoor q := by
  unfold State.hasDoor State.moduleOf
  rw [h]

theorem moduleActive_of_modules (h : t.pkc.modules = s.pkc.modules) (q : PocketNo) : t.moduleActive q = s.moduleActive q := by
  unfold State.moduleActive State.moduleOf
  rw [h]

/-- R34: the pocket whose latch is commanded OPEN. -/
theorem openLatch_pocket_self (hp : p < s.pkc.pockets.length) (hl : (s.pocket p).latch ≠ .opened) :
    (openLatch p s).pocket p =
      { s.pocket p with
        latch := .opened,
        verified := if s.hasDoor p then (s.pocket p).verified else false,
        mark := if s.hasDoor p then (s.pocket p).mark else none,
        readRequested := if s.hasDoor p then (s.pocket p).readRequested else false,
        indicator := (s.pocket p).derivedIndicator s.presetHead } := by
  have hself : (modPocket p (fun k => { k with latch := .opened }) s).pocket p =
      { s.pocket p with latch := .opened, indicator := (s.pocket p).derivedIndicator s.presetHead } :=
    pocket_modPocket_self _ hp
  have hdoor : (modPocket p (fun k => { k with latch := .opened }) s).hasDoor p = s.hasDoor p := rfl
  unfold openLatch
  rw [if_neg hl]
  dsimp only
  rw [hdoor]
  split
  · next h => simp [hself]
  · next h =>
    rw [unlatchOpens_pocket_self (by simpa using hp), hself]
    simp [h]
    rfl

theorem openLatch_pocket_ne (h : q ≠ p) : (openLatch p s).pocket q = s.pocket q := by
  unfold openLatch
  split
  · rfl
  · dsimp only
    split
    · rw [pocket_modPocket_ne h]
    · rw [unlatchOpens_pocket_ne h, pocket_modPocket_ne h]

/-- R34, R51: an unlatch leaves the modules, the transfers and a read under way for another pocket. -/
theorem openLatch_rest (p : PocketNo) (s : State) :
    (openLatch p s).pkc.modules = s.pkc.modules ∧ (openLatch p s).pkc.pockets.length = s.pkc.pockets.length ∧
      (openLatch p s).cue = { s.cue with waiting := (openLatch p s).cue.waiting } ∧
      (openLatch p s).rds.sweep = s.rds.sweep ∧
      (s.rds.inFlight.map (·.pocket) ≠ some p → (openLatch p s).rds.inFlight = s.rds.inFlight) := by
  unfold openLatch
  split
  · exact ⟨rfl, rfl, rfl, rfl, fun _ => rfl⟩
  · dsimp only
    split
    · exact ⟨rfl, by simp, rfl, rfl, fun _ => rfl⟩
    · obtain ⟨hr, hc, hm, hl⟩ := opening_rest (p := p) (s := modPocket p (fun k => { k with latch := .opened }) s)
        (fun k => { k with verified := false })
        ((modPocket p (fun k => { k with latch := .opened }) s).pocket p).contents
      unfold unlatchOpens
      refine ⟨hm, hl.trans (by simp), ?_, ?_, fun h => ?_⟩
      · rw [hc]; rfl
      · rw [hr]; rfl
      · rw [hr, withdrawReads_rds]
        simp [h]

theorem State.readerElsewhere.openLatch (h : s.readerElsewhere p) : (openLatch p s).readerBusy := by
  obtain ⟨-, -, -, hw, hf⟩ := openLatch_rest p s
  exact h.busy.of_rds (hf h.notInFlight) hw

/-! ### Transfers that end (R44, R128, R131) -/

theorem unreserve_eq (h : (s.pocket p).state = .reserved) : unreserve p s = modPocket p Pocket.toStocked s := if_pos h

theorem relatchPresent_eq (h : (s.pocket p).state = .releasing) : relatchPresent p s = modPocket p Pocket.toStocked s := if_pos h

theorem relatchGone_eq (h : (s.pocket p).state = .releasing) : relatchGone p s = modPocket p Pocket.freed s := if_pos h

theorem restock_eq {u : ToolId} {e : Entry} (h : s.entry? u = some e) (hc : e.custody = .reserved ∨ e.custody = .releasing) :
    restock u s = putEntry { e with custody := .stocked } s := by
  rw [restock, modEntry_eq h, if_pos hc]

/-- R128, R131: a giver in OFFERED ends with its pocket and its entry STOCKED again. -/
theorem endOffered_eq {g : Giver} {e : Entry} (hq : g.pocket = some q) (hr : (s.pocket q).state = .reserved)
    (he : s.entry? g.tool = some e) (hc : e.custody = .reserved) :
    endOffered g s = closeGiver g (putEntry { e with custody := .stocked } (modPocket q Pocket.toStocked s)) := by
  have he' : (modPocket q Pocket.toStocked s).entry? g.tool = some e := he
  simp only [endOffered, hq, unreserve_eq hr, restock_eq he' (.inl hc)]

theorem giver?_of_cue (h : t.cue = s.cue) (src : StationId) (n : SeekNo) : t.giver? src n = s.giver? src n := by
  unfold State.giver?
  rw [h]

/-- What an ended OFFERED transfer leaves, part by part. -/
theorem endOffered_spec {g : Giver} {e : Entry} (hb : s.Bounded) (hq : g.pocket = some q) (hlt : q < 48)
    (hr : (s.pocket q).state = .reserved) (he : s.entry? g.tool = some e) (hc : e.custody = .reserved) :
    ((endOffered g s).pocket q).state = .stocked ∧ ((endOffered g s).pocket q).latch = .locked ∧
      ((endOffered g s).pocket q).contents = (s.pocket q).contents ∧
      (∀ p, p ≠ q → (endOffered g s).pocket p = s.pocket p) ∧
      (endOffered g s).entry? g.tool = some { e with custody := .stocked } ∧
      (∀ v, v ≠ g.tool → (endOffered g s).entry? v = s.entry? v) ∧
      (endOffered g s).cue = { s.cue with
        givers := s.cue.givers.filter (fun x => !(x.seeker == g.seeker && x.seek == g.seek)),
        lapsed := addLapsed (g.seeker, g.seek) s.cue.lapsed } := by
  have htool : e.tool = g.tool := tool_of_entry? he
  have hself : (endOffered g s).pocket q = { (s.pocket q).toStocked with
      indicator := (s.pocket q).toStocked.derivedIndicator s.presetHead } := by
    rw [endOffered_eq hq hr he hc]
    exact pocket_modPocket_self Pocket.toStocked (hb.pocket_lt hlt)
  refine ⟨by rw [hself]; rfl, by rw [hself]; rfl, by rw [hself]; rfl, fun p hp => ?_, ?_, fun v hv => ?_, ?_⟩ <;>
    rw [endOffered_eq hq hr he hc]
  · exact pocket_modPocket_ne hp _ _
  · exact htool ▸ entry?_putEntry_self (e := { e with custody := .stocked }) (s := modPocket q Pocket.toStocked s) hb.register
  · exact entry?_putEntry_ne (s := modPocket q Pocket.toStocked s) hb.register (htool.symm ▸ hv)
  · rfl

/-- R44: an AWAITING target without a read asked for is EMPTY and latched again. -/
theorem untarget_eq (h : (s.pocket p).state = .awaiting) (hr : (s.pocket p).readRequested = false) :
    untarget p s = modPocket p Pocket.toEmpty s := by
  have hfreed : Pocket.freed (s.pocket p) = Pocket.toEmpty (s.pocket p) := if_neg (by simp [hr])
  simp only [untarget, h, modPocket, hfreed]

/-- A taker transfer that is closed is what failing it does to the transfers. -/
theorem failTaker_cue (k : Taker) (r : FailReason) (s : State) :
    (failTaker k r s).cue = { s.cue with takers := s.cue.takers.filter (fun x => x.seek != k.seek) } := by
  unfold failTaker
  cases k.state <;> simp [closeTaker]

theorem failTaker_seeking {k : Taker} (h : k.state = .seeking) (r : FailReason) :
    failTaker k r s = noticeNeedFailed k r (closeTaker k s) := by
  simp [failTaker, h]

theorem failTaker_targeting {k : Taker} (h : k.state ≠ .seeking) (r : FailReason) :
    failTaker k r s = noticeNeedFailed k r (untarget k.pocket (closeTaker k s)) := by
  cases hs : k.state <;> simp_all [failTaker]

/-- R170: a failed transfer queues NEED_FAILED, whatever its state. -/
theorem failTaker_notices {k : Taker} {r : FailReason} (hm : s.masked .needFailed = false) (hl : s.slk.notices.length < 16) :
    (failTaker k r s).slk.notices = s.slk.notices ++ [⟨.needFailed, some k.pocket, none, some k.seek, some r, []⟩] := by
  by_cases h : k.state = .seeking
  · rw [failTaker_seeking h]
    exact pushNotice_notices (s := closeTaker k s) hm hl
  · rw [failTaker_targeting h, noticeNeedFailed]
    rw [pushNotice_notices]
    · simp
    · rw [masked_of_stc (t := untarget k.pocket (closeTaker k s)) (s := s) (by simp)]
      exact hm
    · simpa using hl

theorem requestRead_pkc (p : PocketNo) (s : State) :
    (requestRead p s).pkc = (modPocket p (fun k => { k with readRequested := true }) s).pkc := by
  rw [requestRead, (enqueueRead_frame _ _).2.1]

/-- Closing a taker transfer and untargeting a pocket do not concern each other. -/
theorem untarget_closeTaker_pkc (k : Taker) (p : PocketNo) (s : State) :
    (untarget p (closeTaker k s)).pkc = (untarget p s).pkc := by
  have hk : (closeTaker k s).pocket p = s.pocket p := rfl
  unfold untarget
  rw [hk]
  split
  · rfl
  · rw [requestRead_pkc, requestRead_pkc]
    rfl
  · rfl

/-- R44: the target of a failed transfer past SEEKING is untargeted. -/
theorem failTaker_pocket {k : Taker} (h : k.state ≠ .seeking) (r : FailReason) (q : PocketNo) :
    (failTaker k r s).pocket q = (untarget k.pocket s).pocket q := by
  rw [failTaker_targeting h, State.pocket_of_pkc (noticeNeedFailed_frame _ _ _).2.1]
  exact State.pocket_of_pkc (untarget_closeTaker_pkc k k.pocket s) q

theorem failTaker_untargeted {k : Taker} (hb : s.Bounded) (h : k.state ≠ .seeking) (r : FailReason) :
    s.Untargeted (failTaker k r s) k := by
  intro hlt ha hr
  have hself := pocket_modPocket_self Pocket.toEmpty (hb.pocket_lt hlt)
  simp only [failTaker_pocket h, untarget_eq ha hr, hself]
  exact ⟨rfl, rfl, rfl, fun q hq => pocket_modPocket_ne hq _ _⟩

end Sys2Proof.Machine

/-! PROOFS. WHEREIS, OFFER, TAKE and LAPSE (O41, O43, O44, O45). -/

namespace Sys2Proof.Machine

open Sys2Proof

variable {s t : State} {p q : PocketNo}

/-! ### The routine queue (R94, R95) -/

theorem placeRecord_present {r : Record} {l : List Frame} (h : l.any (Frame.isRecordOf r.tool) = true) :
    placeRecord r l = l.map (fun f => if f.isRecordOf r.tool then .record r else f) := if_pos h

theorem placeRecord_room {r : Record} {l : List Frame} (h : l.any (Frame.isRecordOf r.tool) = false) (hl : l.length < 16) :
    placeRecord r l = l ++ [.record r] := by
  rw [placeRecord, if_neg (by simp [h]), appendRoutine, if_pos hl]

theorem placeRecord_full {r : Record} {l : List Frame} (h : l.any (Frame.isRecordOf r.tool) = false) (hl : 16 ≤ l.length)
    (hr : l.any Frame.isRecord = true) : placeRecord r l = l.eraseP Frame.isRecord ++ [.record r] := by
  rw [placeRecord, if_neg (by simp [h]), appendRoutine, if_neg (Nat.not_lt.2 hl), if_pos hr]

/-- R95: a RECORD handed over to a queue that can take one stands in it. -/
theorem mem_placeRecord {r : Record} {l : List Frame} (h : l.length < 16 ∨ l.any Frame.isRecord = true) :
    .record r ∈ placeRecord r l := by
  by_cases hp : l.any (Frame.isRecordOf r.tool) = true
  · rw [placeRecord_present hp]
    obtain ⟨f, hf, hr⟩ := List.any_eq_true.1 hp
    exact List.mem_map.2 ⟨f, hf, if_pos hr⟩
  · rw [Bool.not_eq_true] at hp
    by_cases hl : l.length < 16
    · rw [placeRecord_room hp hl]
      simp
    · rw [placeRecord_full hp (Nat.le_of_not_lt hl) (h.resolve_left hl)]
      simp

@[simp] theorem record_tool (e : Entry) : e.record.tool = e.tool := rfl

/-! ### WHEREIS -/

theorem exec_whereis {src : StationId} (h : s.hallTaken src = true) (u : ToolId) :
    exec (.whereisReceived src u) s = .next (handRecord u s) := congrArg Host.Outcome.next (if_pos h)

/-- Settles O41: a WHEREIS hands over the RECORD, and the places of the queue that takes it are those of R94 and R95. -/
theorem whereisAnswered : Obligations.WhereisAnswered := by
  intro src u s hs
  simp only [exec_whereis hs]
  refine ⟨fun hn => ?none, fun e he hf => ?cached, fun e he hh ha hn => ?held, fun h => ?silent⟩
  case none => rw [handRecord_none (.inl fun e he => absurd (hn.symm.trans he) (by simp))]
  case cached => rw [handRecord_none (.inl fun e' he' => by rw [he] at he'; exact Option.some.inj he' ▸ hf)]
  case silent => rw [handRecord_none (.inr h)]
  case held =>
    have htool : e.record.tool = u := tool_of_entry? he
    refine ⟨_, rfl, handRecord_rest u s, ?_, ?_, ?_, fun hroom => ⟨_, ?_, rfl⟩, ?_⟩ <;> rw [handRecord_eq he hh ha hn]
    · exact fun h => htool ▸ placeRecord_present (htool.symm ▸ h)
    · exact fun h hl => placeRecord_room (htool.symm ▸ h) hl
    · exact fun h hl hr => placeRecord_full (htool.symm ▸ h) hl hr
    · exact mem_placeRecord hroom
    · exact he

/-! ### The ranking of offers (R116, R127) -/

theorem better_iff (a b : Rank) : a.better b = true ↔
    (a.full = true ∧ b.full = false) ∨
    (a.full = b.full ∧ (b.life < a.life ∨
      (a.life = b.life ∧ (b.remainder < a.remainder ∨
        (a.remainder = b.remainder ∧ (a.age < b.age ∨ (a.age = b.age ∧ a.last < b.last))))))) := by
  obtain ⟨fa, la, ra, ga, na⟩ := a
  obtain ⟨fb, lb, rb, gb, nb⟩ := b
  simp only [Rank.better]
  split
  · next h => cases fa <;> cases fb <;> simp_all
  · next h =>
    have hf : fa = fb := not_not.1 h
    subst hf
    have hno : ¬(fa = true ∧ fa = false) := by rintro ⟨h1, h2⟩; rw [h1] at h2; exact absurd h2 (by decide)
    simp only [hno, false_or, true_and]
    split
    · simp only [decide_eq_true_eq]; omega
    · split
      · simp only [decide_eq_true_eq]; omega
      · split <;> simp only [decide_eq_true_eq] <;> omega

theorem better_trans {a b c : Rank} (h1 : a.better b = true) (h2 : b.better c = true) : a.better c = true := by
  rw [better_iff] at *
  rcases h1 with ⟨h1, h1'⟩ | ⟨h1, h1'⟩ <;> rcases h2 with ⟨h2, h2'⟩ | ⟨h2, h2'⟩
  · exact absurd (h1'.symm.trans h2) (by decide)
  · exact .inl ⟨h1, h2 ▸ h1'⟩
  · exact .inl ⟨h1 ▸ h2, h2'⟩
  · exact .inr ⟨h1.trans h2, by omega⟩

theorem better_asymm {a b : Rank} (h : a.better b = true) : b.better a = false := by
  rw [Bool.eq_false_iff, ne_eq, better_iff]
  rw [better_iff] at h
  rcases h with ⟨h, h'⟩ | ⟨h, h'⟩
  · simp [h, h']
  · rw [h]
    rintro (⟨h1, h2⟩ | ⟨-, h1⟩)
    · exact absurd (h1.symm.trans h2) (by decide)
    · omega

/-- Of three, where the second is not better than the first and the third not better than the second, the third is not better
than the first: the ranking is a total preorder. -/
theorem better_false_trans {a b c : Rank} (h1 : b.better a = false) (h2 : c.better b = false) : c.better a = false := by
  rw [Bool.eq_false_iff, ne_eq, better_iff] at *
  rintro (⟨hc, ha⟩ | ⟨hf, h⟩)
  · cases hb : b.full
    · exact h2 (.inl ⟨hc, hb⟩)
    · exact h1 (.inl ⟨hb, ha⟩)
  · by_cases hb : b.full = a.full
    · have h1' := not_and.1 (not_or.1 h1).2 hb
      have h2' := not_and.1 (not_or.1 h2).2 (hf.trans hb.symm)
      omega
    · cases ha : a.full
      · exact h1 (.inl ⟨by cases hb' : b.full <;> simp_all, ha⟩)
      · exact h2 (.inl ⟨by rw [hf, ha], by cases hb' : b.full <;> simp_all⟩)

section
variable {α : Type} (rank : α → Rank)

theorem mem_insertRanked {x y : α} {l : List α} : y ∈ insertRanked rank x l ↔ y = x ∨ y ∈ l := by
  induction l with
  | nil => simp [insertRanked]
  | cons z zs ih =>
    unfold insertRanked
    split
    · simp
    · simp only [List.mem_cons, ih]
      tauto

theorem length_insertRanked (x : α) (l : List α) : (insertRanked rank x l).length = l.length + 1 := by
  induction l with
  | nil => rfl
  | cons z zs ih =>
    unfold insertRanked
    split <;> simp [ih]

/-- R116: an insertion keeps a list in which none stands behind one it is better than. -/
theorem insertRanked_ordered {x : α} {l : List α} (h : l.Pairwise (fun a b => (rank b).better (rank a) = false)) :
    (insertRanked rank x l).Pairwise (fun a b => (rank b).better (rank a) = false) := by
  induction l with
  | nil => simp [insertRanked]
  | cons z zs ih =>
    rw [List.pairwise_cons] at h
    unfold insertRanked
    split
    · next hx =>
      refine List.pairwise_cons.2 ⟨fun y hy => ?_, List.pairwise_cons.2 h⟩
      rcases List.mem_cons.1 hy with rfl | hy
      · exact better_asymm hx
      · exact better_false_trans (better_asymm hx) (h.1 y hy)
    · next hx =>
      refine List.pairwise_cons.2 ⟨fun y hy => ?_, ih h.2⟩
      rcases (mem_insertRanked rank).1 hy with rfl | hy
      · exact Bool.eq_false_iff.2 hx
      · exact h.1 y hy

end

theorem mem_placeOffer {o x : Offer} {l : List Offer} (h : x ∈ placeOffer o l) : x = o ∨ (x ∈ l ∧ x.station ≠ o.station) := by
  have hx := (mem_insertRanked Offer.rank).1 (List.mem_of_mem_take h)
  simpa using hx

/-- R116: while there is room the offers of other stations stay, and the new one takes its place. -/
theorem placeOffer_room {o : Offer} {l : List Offer} (h : l.length < 4) :
    placeOffer o l = insertRanked Offer.rank o (l.filter (fun x => x.station != o.station)) := by
  refine List.take_of_length_le ?_
  rw [length_insertRanked]
  exact Nat.succ_le_of_lt (Nat.lt_of_le_of_lt (List.length_filter_le _ _) h)

/-- R116: of an ordered list, the offers that are dropped are better than none of those kept. -/
theorem not_better_of_dropped {o x y : Offer} {l : List Offer} (h : l.Pairwise (fun x y => y.rank.better x.rank = false))
    (hx : x = o ∨ (x ∈ l ∧ x.station ≠ o.station)) (hdrop : x ∉ placeOffer o l) :
    (placeOffer o l).length = 4 ∧ (y ∈ placeOffer o l → x.rank.better y.rank = false) := by
  set full := insertRanked Offer.rank o (l.filter (fun x => x.station != o.station)) with hfull
  have hmem : x ∈ full := (mem_insertRanked Offer.rank).2 (by simpa using hx)
  have hkeep : x ∈ full.take 4 ++ full.drop 4 := by rwa [List.take_append_drop]
  have htail : x ∈ full.drop 4 := (List.mem_append.1 hkeep).resolve_left hdrop
  have hord : full.Pairwise (fun a b => b.rank.better a.rank = false) := insertRanked_ordered Offer.rank (h.filter _)
  have hlen : 4 < full.length := by
    have := List.length_pos_of_mem htail
    rw [List.length_drop] at this
    exact Nat.lt_of_sub_pos this
  rw [← List.take_append_drop 4 full] at hord
  exact ⟨by simp only [placeOffer, List.length_take, ← hfull]; omega, fun hy => (List.pairwise_append.1 hord).2.2 y hy x htail⟩

theorem acceptsOffer_iff (k : Taker) (r : Record) : k.acceptsOffer r = true ↔
    r.heard = .stocked ∧ r.condition = .ready ∧ wantAccepts k.want r.tool r.kind = true ∧ k.minLife ≤ r.life ∧
      ∃ p, r.preset = some p ∧ (k.mode = .attended ∨ p.cls = .full) := by
  cases hm : k.mode <;> cases hp : r.preset <;> simp [Taker.acceptsOffer, hm, hp] <;> tauto

theorem repeatFrame_queued {f : Frame} (h : s.frameQueued f = true) : repeatFrame f s = s := if_pos h

theorem repeatFrame_eq {f : Frame} (h : s.frameQueued f = false) (hu : s.hli.urgent.length < 8)
    (hn : s.stc.node ≠ .idConflict) :
    repeatFrame f s = { s with hli := { s.hli with urgent := s.hli.urgent ++ [⟨f, .unowned⟩] } } := by
  rw [repeatFrame, if_neg (by simp [h]), handPlain_eq hu hn]

theorem exec_offer {src : StationId} {n : SeekNo} {k : Taker} (h : s.hallTaken src = true) (hk : s.taker? n = some k)
    (tdr : Tdr) : exec (.offerReceived src n tdr) s = .next (takeOffer src (recordOfTdr src tdr) k s) := by
  show Host.Outcome.next _ = _
  rw [if_pos h, hk]

theorem takeOffer_taking {src : StationId} {k : Taker} (hs : k.state = .taking) (r : Option Record) :
    takeOffer src r k s = if k.counterpart = some src then repeatFrame k.lastFrame s else s := by
  simp [takeOffer, hs]

/-- Settles O43: an OFFER by the state of the transfer it names, and the list's insertion for the ranking. -/
theorem offerIsRanked : Obligations.OfferIsRanked := by
  refine ⟨fun src n tdr s hs => ⟨fun hn => ?unknown, fun k hk hst => ⟨fun hr => ?malformed, fun r hr => ⟨fun hno => ?refused,
    fun h1 h2 h3 h4 h5 => ?taken⟩⟩, fun k hk hst => ⟨fun hc => ?other, fun hc => ⟨fun hq => ?queued, fun hq hu hn => ?again⟩⟩,
    fun k hk hst => ?arriving⟩, fun o l => ⟨List.length_take_le 4 _, fun x hx => mem_placeOffer hx, fun h => ?room,
    fun h => ⟨?ordered, fun x hx hd => ⟨?_, fun y hy => ?dropped⟩⟩⟩, fun o p hp => ?rank, better_iff⟩
  case unknown =>
    show Host.Outcome.next _ = _
    rw [if_pos hs, hn]
  case malformed => rw [exec_offer hs hk, hr]; simp [takeOffer, hst]
  case refused =>
    have hrefused : k.acceptsOffer r = false := by
      rw [Bool.eq_false_iff, ne_eq, acceptsOffer_iff]
      rintro ⟨h1, h2, h3, h4, p, hp, h5⟩
      rcases hno with h | h | h | h | h | ⟨hm, h⟩
      · exact h h1
      · exact h h2
      · exact absurd (h.symm.trans hp) (by simp)
      · exact absurd (h.symm.trans h3) (by simp)
      · exact absurd h4 (Nat.not_le.2 h)
      · rcases h5 with h5 | h5
        · exact absurd (hm.symm.trans h5) (by simp)
        · exact h (by rw [hp, Option.map_some, h5])
    rw [exec_offer hs hk, hr]
    simp [takeOffer, hst, hrefused]
  case taken =>
    rw [exec_offer hs hk, hr]
    simp only [takeOffer, hst, (acceptsOffer_iff k r).2 ⟨h1, h2, h3, h4, h5⟩]
    rfl
  case other => rw [exec_offer hs hk, takeOffer_taking hst, if_neg hc]
  case queued => rw [exec_offer hs hk, takeOffer_taking hst, if_pos hc, repeatFrame_queued hq]
  case again => rw [exec_offer hs hk, takeOffer_taking hst, if_pos hc, repeatFrame_eq hq hu hn]
  case arriving => rw [exec_offer hs hk]; simp [takeOffer, hst]
  case room =>
    rw [placeOffer_room h]
    exact ⟨(mem_insertRanked _).2 (.inl rfl), fun x hx hne => (mem_insertRanked _).2 (.inr (by simp [hx, hne]))⟩
  case ordered => exact (insertRanked_ordered Offer.rank (h.filter _)).sublist (List.take_sublist 4 _)
  case dropped => exact (not_better_of_dropped h hx hd).2 hy
  · exact (not_better_of_dropped (y := o) h hx hd).1
  case rank => simp [Offer.rank, Record.rank, hp]

/-! ### TAKE -/

theorem exec_take {src : StationId} (h : s.hallTaken src = true) (n : SeekNo) :
    exec (.takeReceived src n) s = .next (settleReader (takeTaken src n s)) := congrArg Host.Outcome.next (if_pos h)

/-- R128: what the release of a reserved pocket does, part by part. -/
theorem release_eq {g : Giver} {e : Entry} (hq : g.pocket = some q) (he : s.entry? g.tool = some e) :
    release g s = openLatch q (modPocket q (fun k => { k with state := .releasing })
      (putEntry { e with custody := .releasing } (putGiver { g with state := .releasing, timer := some 300 } s))) := by
  have he' : (putGiver { g with state := .releasing, timer := some 300 } s).entry? g.tool = some e := he
  simp only [release, modEntry_eq he']
  simp only [hq]

/-- Settles O44: a TAKE by the state of the giver transfer it names. -/
theorem takeReleases : Obligations.TakeReleases := by
  intro src n s hs hbusy
  refine ⟨fun g q e hg hst hq hread he hb hlt hl => ?offered, fun g hg hst => ?releasing, fun hg hu hn => ?unknown⟩
  case offered =>
    obtain ⟨-, rfl, rfl⟩ := giver?_ids hg
    have htool : e.tool = g.tool := tool_of_entry? he
    set x := modPocket q (fun k => { k with state := .releasing })
      (putEntry { e with custody := .releasing } (putGiver { g with state := .releasing, timer := some 300 } s)) with hx
    have hxread : x.readerElsewhere q := hread
    have hself : x.pocket q = { s.pocket q with state := .releasing, indicator := .blink } :=
      pocket_modPocket_self (fun k => { k with state := .releasing }) (hb.pocket_lt hlt)
    have hlock : (x.pocket q).latch ≠ .opened := by rw [hself]; simp [hl]
    have hlen : q < x.pkc.pockets.length := by simpa [hx, hb.pockets] using hlt
    obtain ⟨-, -, hcue, -, -⟩ := openLatch_rest q x
    have hexec : exec (.takeReceived g.seeker g.seek) s = .next (openLatch q x) := by
      rw [exec_take hs, takeTaken, hg]
      simp only [hst]
      rw [release_eq hq he, settleReader_of_busy hxread.openLatch]
    refine ⟨_, hexec, ?_, ?_, ?_, fun p hp => ?_, ?_, fun v hv => ?_, ?_, ?_, ?_, ?_, ?_, ?_⟩
    · rw [openLatch_pocket_self hlen hlock, hself]
    · rw [openLatch_pocket_self hlen hlock]
    · rw [openLatch_pocket_self hlen hlock, hself]
    · rw [openLatch_pocket_ne hp]
      exact pocket_modPocket_ne hp _ _
    · rw [entry?_of_trg (openLatch_frame q x).1]
      exact htool ▸ entry?_putEntry_self (e := { e with custody := .releasing }) hb.register
    · rw [entry?_of_trg (openLatch_frame q x).1]
      exact entry?_putEntry_ne (e := { e with custody := .releasing }) hb.register (htool.symm ▸ hv)
    · rw [State.giver?, hcue]
      exact giver?_putGiver (g' := { g with state := .releasing, timer := some 300 }) hg rfl rfl
    · rw [hcue]; rfl
    · exact (openLatch_frame q x).2.2.1
    · exact (openLatch_frame q x).2.1
    · exact (openLatch_frame q x).2.2.2.1
    · exact (openLatch_frame q x).2.2.2.2.1
  case releasing =>
    rw [exec_take hs, takeTaken, hg]
    simp only [hst]
    rw [settleReader_of_busy hbusy]
  case unknown =>
    rw [exec_take hs, takeTaken, hg]
    simp only [lateTake, sendLapse_eq hu hn]
    exact congrArg Host.Outcome.next (settleReader_of_busy hbusy)

/-! ### LAPSE -/

theorem exec_lapse {src : StationId} (h : s.hallTaken src = true) (hg : s.giver? src n = none) (reason : LapseReason) :
    exec (.lapseReceived src n reason) s =
      .next (settleReader (match s.taker? n with
        | some k => takerLapse src k s
        | none => s)) := by
  refine (congrArg Host.Outcome.next (if_pos h)).trans ?_
  simp only [giverLapse, hg] <;> rfl

theorem exec_lapse_taker {src : StationId} {k : Taker} (h : s.hallTaken src = true) (hg : s.giver? src n = none)
    (hk : s.taker? n = some k) (reason : LapseReason) :
    exec (.lapseReceived src n reason) s = .next (settleReader (takerLapse src k s)) := by
  rw [exec_lapse h hg, hk]

/-- R119: the next offer becomes the current one and its TAKE is handed over. -/
theorem takeNext_cons {o : Offer} {rest : List Offer} (hu : s.hli.urgent.length < 8) (hn : s.stc.node ≠ .idConflict) (k : Taker) :
    takeNext (o :: rest) k s = pushUrgent (.take o.station k.seek) (.taker k.seek)
      (putTaker { k with current := some o, offers := rest, lastFrame := .take o.station k.seek } s) := by
  rw [takeNext, if_pos (urgentTakes_iff.2 ⟨hu, hn⟩)]

theorem counterpart_eq {k : Taker} {o : Offer} (h : k.current = some o) : k.counterpart = some o.station := by
  rw [Taker.counterpart, h, Option.map_some]

/-- R119: a LAPSE that only takes an offer off the list. -/
theorem takerLapse_drop {src : StationId} {k : Taker} (h : k.state = .seeking ∨ (k.state = .taking ∧ k.counterpart ≠ some src)) :
    takerLapse src k s = dropOffer src k s := by
  rcases h with h | ⟨h, hc⟩ <;> simp [takerLapse, *]

theorem takerLapse_fallBack {src : StationId} {k : Taker} (h : k.state = .taking) (hc : k.counterpart = some src) :
    takerLapse src k s = fallBack k s := by
  simp [takerLapse, h, hc]

/-- A failed transfer leaves a busy reader busy. -/
theorem failTaker_busy (h : s.readerBusy) (k : Taker) (r : FailReason) : (failTaker k r s).readerBusy := by
  have hu : ∀ x : State, (untarget k.pocket x).rds.inFlight = x.rds.inFlight ∧ (untarget k.pocket x).rds.sweep = x.rds.sweep := by
    intro x
    unfold untarget
    split <;> simp
  refine h.of_rds ?_ ?_ <;> by_cases hs : k.state = .seeking
  · rw [failTaker_seeking hs]; simp
  · rw [failTaker_targeting hs]; simp [hu]
  · rw [failTaker_seeking hs]; simp
  · rw [failTaker_targeting hs]; simp [hu]

/-- Settles O45: a LAPSE by the side and the state of the transfer it is for. -/
theorem lapseEnds : Obligations.LapseEnds := by
  intro src n reason s hs hbusy
  refine ⟨fun hg hk => ?none, fun k hg hk hst => ?seeking, fun g q e hg hk hst hq hlt hb hr he hc => ?giver,
    fun k o hg hk ho => ⟨fun hst hne => ?drop, fun hst hne => ?ignored, fun x rest hst heq hoff hu hn => ?next,
      fun heq hend hb => ?failed⟩⟩
  case none => rw [exec_lapse hs hg, hk]; exact congrArg Host.Outcome.next (settleReader_of_busy hbusy)
  case seeking =>
    rw [exec_lapse_taker hs hg hk, takerLapse_drop (.inl hst)]
    exact congrArg Host.Outcome.next (settleReader_of_busy (s := dropOffer src k s) hbusy)
  case giver =>
    obtain ⟨-, hseeker, hseek⟩ := giver?_ids hg
    obtain ⟨h1, h2, h3, h4, h5, h6, hcue⟩ := endOffered_spec hb hq hlt hr he hc
    have hrds : (endOffered g s).rds = s.rds := by rw [endOffered_eq hq hr he hc]; rfl
    have hslk : (endOffered g s).slk = s.slk := by rw [endOffered_eq hq hr he hc]; rfl
    have hclosed : (endOffered g s).giver? src n = none := by
      rw [← hseeker, ← hseek, giver?_of_cue (t := endOffered g s) (s := closeGiver g s) (by rw [hcue]; rfl)]
      exact giver?_closeGiver g s
    have hexec : exec (.lapseReceived src n reason) s = .next (endOffered g s) := by
      refine (congrArg Host.Outcome.next (if_pos hs)).trans ?_
      have hlapse : giverLapse src n s = endOffered g s := by simp [giverLapse, hg, lapseGiver, hst]
      have htaker : (endOffered g s).taker? n = none := by
        rw [State.taker?, hcue]
        exact hk
      simp only [hlapse, htaker]
      exact congrArg Host.Outcome.next (settleReader_of_busy (hbusy.of_rds (by rw [hrds]) (by rw [hrds])))
    refine ⟨_, hexec, h1, h2, h3, h4, h5, h6, hclosed, ?_, by rw [hcue], by simp, hrds, by simp, hslk, by simp, by simp⟩
    rw [hcue, ← hseeker, ← hseek]
    exact addLapsed_getLast? _ _
  case drop =>
    rw [exec_lapse_taker hs hg hk, takerLapse_drop (.inr ⟨hst, fun h => hne (Option.some.inj (h.symm.trans (counterpart_eq ho)))⟩)]
    exact congrArg Host.Outcome.next (settleReader_of_busy (s := dropOffer src k s) hbusy)
  case ignored =>
    rw [exec_lapse_taker hs hg hk, takerLapse]
    simp only [hst, counterpart_eq ho, Option.some.injEq]
    rw [if_neg (Ne.symm hne)]
    exact congrArg Host.Outcome.next (settleReader_of_busy hbusy)
  case next =>
    have hfall : takerLapse src k s = takeNext (x :: rest) k
        (if (s.pocket k.pocket).state = .wrongTool then requestRead k.pocket s else s) := by
      rw [takerLapse_fallBack hst (heq ▸ counterpart_eq ho), fallBack, hoff]
    by_cases hw : (s.pocket k.pocket).state = .wrongTool
    · rw [if_pos hw, takeNext_cons (by simpa using hu) (by simpa using hn)] at hfall
      have hexec : exec (.lapseReceived src n reason) s = .next (takerLapse src k s) := by
        rw [exec_lapse_taker hs hg hk, hfall, settleReader_of_busy]
        exact hbusy.requestRead k.pocket
      refine ⟨_, hexec, ?_, ?_, fun h => absurd hw h, fun _ hb hlt he => ⟨?_, ?_, ?_, fun p hp => ?_⟩, ?_, ?_, ?_, ?_, ?_⟩ <;>
        rw [hfall]
      · simp [putTaker, pushUrgent]
      · simp [pushUrgent]
      · exact (congrArg Pocket.state (requestRead_pocket_self (hb.pocket_lt hlt))).trans hw
      · exact congrArg Pocket.readRequested (requestRead_pocket_self (hb.pocket_lt hlt))
      · exact mem_requestRead (State.present_iff.2 ⟨hlt, by simp [hw]⟩) he.notInFlight
      · exact requestRead_pocket_ne hp
      all_goals simp
    · rw [if_neg hw, takeNext_cons hu hn] at hfall
      have hexec : exec (.lapseReceived src n reason) s = .next (takerLapse src k s) := by
        rw [exec_lapse_taker hs hg hk, hfall, settleReader_of_busy]
        exact hbusy
      refine ⟨_, hexec, ?_, ?_, fun _ => ⟨?_, ?_⟩, fun h => absurd h hw, ?_, ?_, ?_, ?_, ?_⟩ <;> rw [hfall] <;> rfl
  case failed =>
    have hstate : k.state ≠ .seeking := by rcases hend with ⟨h, -⟩ | h <;> simp [h]
    have hfail : takerLapse src k s = failTaker k .lapsed s := by
      rcases hend with ⟨h, hoff, hw⟩ | h
      · rw [takerLapse_fallBack h (heq ▸ counterpart_eq ho), fallBack, hoff, if_neg hw]
        rfl
      · simp only [takerLapse, h, counterpart_eq ho, heq, if_true]
    have hexec : exec (.lapseReceived src n reason) s = .next (failTaker k .lapsed s) := by
      rw [exec_lapse_taker hs hg hk, hfail, settleReader_of_busy (failTaker_busy hbusy k .lapsed)]
    exact ⟨_, hexec, failTaker_cue k _ s, failTaker_untargeted hb hstate _, failTaker_notices, by simp, by simp, by simp,
      by simp, by simp⟩

end Sys2Proof.Machine

/-! PROOFS. RELEASED and RECEIVED, the timers of transfers, entries and claim windows (O46, O47, O48, O49, O50). -/

namespace Sys2Proof.Machine

open Sys2Proof

variable {s t : State} {p q : PocketNo}

/-! ### Claim windows without a waiting list -/

/-- R138: with nothing waiting, a closed window leaves the others as they are. -/
theorem closeWindow_eq (hw : s.cue.waiting = []) (u : ToolId) :
    closeWindow u s = { s with cue := { s.cue with windows := s.cue.windows.filter (fun w => w.tool != u) } } := by
  unfold closeWindow
  split
  · simp only [hw]
    rfl
  · next h =>
    have hall : s.cue.windows.filter (fun w => w.tool != u) = s.cue.windows := by
      rw [Bool.not_eq_true, State.windowOpen, State.window?, Option.isSome_eq_false_iff, Option.isNone_iff_eq_none,
        List.find?_eq_none] at h
      exact List.filter_eq_self.2 fun w hm => by simpa using h w hm
    simp only [hall]

theorem filter_of_window?_none {u : ToolId} (h : s.window? u = none) :
    s.cue.windows.filter (fun w => w.tool != u) = s.cue.windows := by
  rw [State.window?, List.find?_eq_none] at h
  exact List.filter_eq_self.2 fun w hm => by simpa using h w hm

/-- A tool without a window and without a place in the waiting list has no transit check to close. -/
theorem closeTransitCheck_eq {u : ToolId} (hw : s.cue.waiting = []) (h : s.window? u = none) : closeTransitCheck u s = s := by
  have hwait : { s.cue with waiting := s.cue.waiting.filter (fun w => !decide (w = .transitCheck u)) } = s.cue := by
    rw [hw]
    exact congrArg (fun l => { s.cue with waiting := l }) hw.symm
  simp only [closeTransitCheck, hwait]
  split
  · rfl
  · rw [closeWindow_eq hw, filter_of_window?_none h]

theorem window?_filter (u : ToolId) (s : State) :
    ({ s with cue := { s.cue with windows := s.cue.windows.filter (fun w => w.tool != u) } } : State).window? u = none := by
  simp [State.window?]

/-! ### Records that create a cached entry (R17) -/

/-- R21: a flagged record drops the presence checks of its tool. -/
theorem dropCheck_flagged (r : Record) (s : State) :
    (if r.conflict then dropCheck r.tool s else s) =
      { s with trg := { s.trg with checks := s.trg.checks.filter (fun c => !r.conflict || c.tool != r.tool) } } := by
  cases r.conflict with
  | true => simp [dropCheck]
  | false =>
    have hall : s.trg.checks.filter (fun c => !false || c.tool != r.tool) = s.trg.checks :=
      List.filter_eq_self.2 fun _ _ => rfl
    simp only [hall]
    rfl

/-- R17: a record of a tool without an entry here, in a register with room. -/
theorem mergeRecord_new {r : Record} (hn : s.entry? r.tool = none) (ha : s.adoptionOpen r.tool = false)
    (hl : s.trg.entries.length < 256) :
    mergeRecord r s = { s with trg := { s.trg with
      entries := insertEntry r.cached s.trg.entries, heard := r.tool :: s.trg.heard.filter (· != r.tool),
      checks := s.trg.checks.filter (fun c => !r.conflict || c.tool != r.tool) } } := by
  unfold mergeRecord
  rw [dropCheck_flagged]
  set x : State := { s with trg := { s.trg with checks := s.trg.checks.filter (fun c => !r.conflict || c.tool != r.tool) } }
  have hxn : x.entry? r.tool = none := hn
  have hxa : x.adoptionOpen r.tool = false := ha
  have hxl : x.trg.entries.length < 256 := hl
  have hcached : x.entry? r.cached.tool = none := hn
  simp only [hxa, hxn, createCached, createEntry, hcached, evictForRoom, hxl, if_true]
  rfl

theorem takeTdr_none {src : StationId} {tdr : Tdr} (h : recordOfTdr src tdr = none) (s : State) : s.takeTdr src tdr = none := by
  simp [State.takeTdr, h]

/-! ### RELEASED -/

theorem exec_released_none {src : StationId} {n : SeekNo} {tdr : Tdr} (h : s.takeTdr src tdr = none) :
    exec (.releasedReceived src n tdr) s = .next s := by
  show Host.Outcome.next _ = _
  rw [h]
  split <;> rfl

theorem exec_released {src : StationId} {n : SeekNo} {tdr : Tdr} {r : Record} (hs : s.hallTaken src = true)
    (h : s.takeTdr src tdr = some r) :
    exec (.releasedReceived src n tdr) s = .next (settleReader (takerReleased src n r.tool (mergeRecord r s))) := by
  show Host.Outcome.next _ = _
  rw [if_pos hs, h]

/-! ### RECEIVED (R133) -/

theorem presetRemove_absent {u : ToolId} (h : s.pru.queue.contains u = false) : presetRemove u s = s :=
  if_neg (by rw [h]; decide)

/-- R133: an entry outside the Preset Queue becomes cached at the sender. -/
theorem cacheReceived_eq {u : ToolId} {e : Entry} (he : s.entry? u = some e) (hq : s.pru.queue.contains u = false) (src : StationId)
    (v : Version) :
    cacheReceived src u v s = withdrawRecord u (touchHeard u (putEntry (e.passTo src v) s)) := by
  simp only [cacheReceived, modEntry_eq he]
  rw [presetRemove_absent]
  exact hq

theorem exec_received_match {src : StationId} {n : SeekNo} {u : ToolId} {g : Giver} (hs : s.hallTaken src = true)
    (hg : s.giver? src n = some g) (hu : g.tool = u) (hst : g.state ≠ .offered) (v : Version) :
    exec (.receivedFrame src n u v) s = .next (settleReader (received g v s)) := by
  have hm : s.receivedMatch src n u = some g := by simp [State.receivedMatch, hg, hu, hst]
  show Host.Outcome.next _ = _
  rw [if_pos hs, hm]

theorem exec_received_unmatched {src : StationId} {n : SeekNo} {u : ToolId} (hs : s.hallTaken src = true)
    (hg : s.giver? src n = none) (v : Version) :
    exec (.receivedFrame src n u v) s =
      .next (match s.entry? u with
        | some e => if e.custody = .lost then cacheReceived src u v s else s
        | none => s) := by
  have hm : s.receivedMatch src n u = none := by simp [State.receivedMatch, hg]
  show Host.Outcome.next _ = _
  rw [if_pos hs, hm] <;> rfl

/-- Settles O46: a RELEASED through the merge of its record, a RECEIVED by the giver transfer or the LOST entry it finds. -/
theorem releasedAndReceived : Obligations.ReleasedAndReceived := by
  refine ⟨fun src n tdr s hs => ⟨fun h => ?dropped, fun r hr ha hn hl hbusy => ⟨fun hk => ?plain, fun k hk hst hc he => ?expected⟩⟩,
    fun src n u v s hs => ⟨fun hg h => ?ignored, fun g e hg hu hst he hb hw hwait hq hbusy => ?transit,
      fun g e q hg hu hst hpq he hb hlt hrel hread hw hwait hq hbusy => ?releasing, fun e hg he hc hq => ?lost⟩⟩
  case dropped => exact exec_released_none (takeTdr_none h s)
  case plain =>
    have hk' : (mergeRecord r s).taker? n = none := by rw [mergeRecord_new hn ha hl]; exact hk
    rw [exec_released hs hr, takerReleased, hk', mergeRecord_new hn ha hl]
    exact congrArg Host.Outcome.next (settleReader_of_busy hbusy)
  case expected =>
    have hk' : (mergeRecord r s).taker? n = some k := by rw [mergeRecord_new hn ha hl]; exact hk
    rw [exec_released hs hr, takerReleased, hk']
    simp only [hst, hc, he, and_self, if_true, mergeRecord_new hn ha hl]
    exact congrArg Host.Outcome.next (settleReader_of_busy hbusy)
  case ignored =>
    rw [exec_received_unmatched hs hg]
    rcases h with h | ⟨e, h, hc⟩ <;> rw [h]
    exact congrArg Host.Outcome.next (if_neg hc)
  case transit =>
    obtain ⟨-, rfl, rfl⟩ := giver?_ids hg
    subst hu
    rw [exec_received_match hs hg rfl (by simp [hst])]
    have hrec : received g v s = closeGiver g (withdrawRecord g.tool (touchHeard g.tool (putEntry (e.passTo g.seeker v) s))) := by
      rw [received, cacheReceived_eq he hq]
      simp only [giverPocketGone, hst]
      exact closeTransitCheck_eq hwait hw
    rw [hrec]
    exact congrArg Host.Outcome.next (settleReader_of_busy hbusy)
  case releasing =>
    obtain ⟨-, rfl, rfl⟩ := giver?_ids hg
    subst hu
    set x := withdrawRecord g.tool (touchHeard g.tool (putEntry (e.passTo g.seeker v) s)) with hx
    set y := modPocket q (fun k => { k with verified := false }) x with hy
    have hlen : q < x.pkc.pockets.length := hb.pocket_lt hlt
    have hyq : y.pocket q = { s.pocket q with verified := false, indicator := (s.pocket q).derivedIndicator s.presetHead } :=
      pocket_modPocket_self _ hlen
    have hfreed : Pocket.freed (y.pocket q) = Pocket.toEmpty (y.pocket q) := if_neg (by simp [hyq, hread])
    have hgone : relatchGone q y = modPocket q Pocket.toEmpty y := by
      rw [relatchGone_eq (by rw [hyq]; exact hrel)]
      simp only [modPocket, hfreed]
    have hrec : received g v s = closeGiver g (modPocket q Pocket.toEmpty y) := by
      rw [received, cacheReceived_eq he hq]
      simp only [giverPocketGone, hst, hpq]
      rw [← hx, ← hy, hgone]
      exact closeTransitCheck_eq hwait hw
    have hself : (closeGiver g (modPocket q Pocket.toEmpty y)).pocket q = { (y.pocket q).toEmpty with
        indicator := (y.pocket q).toEmpty.derivedIndicator y.presetHead } :=
      pocket_modPocket_self Pocket.toEmpty (s := y) (by rw [hy]; simpa using hlen)
    have hexec : exec (.receivedFrame g.seeker g.seek g.tool v) s = .next (closeGiver g (modPocket q Pocket.toEmpty y)) := by
      rw [exec_received_match hs hg rfl (by simp [hst]), hrec]
      exact congrArg Host.Outcome.next (settleReader_of_busy hbusy)
    refine ⟨_, hexec, ?_, ?_, ?_, ?_, fun p hp => ?_, rfl⟩
    · rw [hself]; rfl
    · rw [hself]; rfl
    · rw [hself]; rfl
    · rw [hself, hyq]; rfl
    · exact (pocket_modPocket_ne hp Pocket.toEmpty y).trans (pocket_modPocket_ne hp _ x)
  case lost =>
    rw [exec_received_unmatched hs hg, he]
    simp only [hc, if_true, cacheReceived_eq he hq]
    rfl

/-! ### The timers of a taker transfer (R118, R122) -/

theorem targetable_iff : s.targetable p = true ↔ p < 48 ∧ s.isMagazine p = true ∧ s.moduleActive p = true ∧
    (s.pocket p).state = .empty ∧ (s.pocket p).hold = false := by
  simp [State.targetable]
  tauto

theorem exec_windowTimer {k : Taker} (hs : s.running = true) (hk : s.taker? k.seek = some k) (hst : k.state = .seeking)
    (ht : k.timer = 0) : exec (.windowTimerExpiry k.seek) s = .next (settleReader (windowEnds k s)) := by
  show Host.Outcome.next _ = _
  simp only [hk]
  rw [if_pos ⟨hs, hst, ht⟩]

/-- A transfer in SEEKING that fails. -/
theorem exec_windowTimer_fails {k : Taker} {r : FailReason} (hs : s.running = true) (hk : s.taker? k.seek = some k)
    (hst : k.state = .seeking) (ht : k.timer = 0) (hr : s.readerElsewhere k.pocket) (hw : windowEnds k s = failTaker k r s) :
    exec (.windowTimerExpiry k.seek) s = .next (noticeNeedFailed k r { s with cue := { s.cue with
      takers := s.cue.takers.filter (fun x => x.seek != k.seek) } }) := by
  rw [exec_windowTimer hs hk hst ht, hw, settleReader_of_busy (failTaker_busy hr.busy k r), failTaker_seeking hst]
  rfl

/-- Settles O47: the window of a taker by its offers and its pocket, the deadline by the failure of the transfer. -/
theorem takerTimersExpire : Obligations.TakerTimersExpire := by
  intro k s hs hk hb hread
  refine ⟨fun hst ht ho => ?noOffer, targetable_iff, fun hst ht ho hno => ?noPocket,
    fun o rest hst ht ho htar hl hu hn => ?takes, fun hst ht hlt ha hr => ?deadline⟩
  case noOffer => exact exec_windowTimer_fails hs hk hst ht hread (by simp [windowEnds, ho])
  case noPocket => exact exec_windowTimer_fails hs hk hst ht hread (by simp [windowEnds, ho, hno])
  case takes =>
    obtain ⟨hlt, -, -, -, -⟩ := targetable_iff.1 htar
    set x := modPocket k.pocket (fun y => { y with state := .awaiting, target := some k.seek }) s with hx
    set k' : Taker := { k with state := .taking, timer := 320, current := some o, offers := rest,
                               lastFrame := .take o.station k.seek } with hk'
    have hxread : x.readerElsewhere k.pocket := hread
    have hself : x.pocket k.pocket = { s.pocket k.pocket with state := .awaiting, target := some k.seek, indicator := .blink } :=
      pocket_modPocket_self _ (hb.pocket_lt hlt)
    have hlen : k.pocket < x.pkc.pockets.length := by simpa [hx, hb.pockets] using hlt
    have hlock : (x.pocket k.pocket).latch ≠ .opened := by rw [hself]; simp [hl]
    obtain ⟨-, -, hcue, -, -⟩ := openLatch_rest k.pocket x
    set y := pushUrgent (.take o.station k.seek) (.taker k.seek) (putTaker k' (openLatch k.pocket x)) with hy
    have hexec : exec (.windowTimerExpiry k.seek) s = .next y := by
      rw [exec_windowTimer hs hk hst ht, windowEnds, ho]
      simp only [List.isEmpty_cons, Bool.false_eq_true, if_false, htar, if_true, target]
      rw [← hx, takeNext_cons (by simpa [hx] using hu) (by simpa [hx] using hn)]
      exact congrArg Host.Outcome.next (settleReader_of_busy (s := y) hxread.openLatch)
    have hpockets : ∀ r, y.pocket r = (openLatch k.pocket x).pocket r := fun r => rfl
    refine ⟨y, hexec, ?_, ?_, ?_, ?_, fun p hp => ?_, ?_, ?_, ?_, ?_, ?_, ?_⟩
    · have hfound : (openLatch k.pocket x).taker? k.seek = some k := by
        rw [State.taker?, hcue]
        exact hk
      exact taker?_putTaker hfound rfl
    · rw [hpockets, openLatch_pocket_self hlen hlock, hself]
    · rw [hpockets, openLatch_pocket_self hlen hlock]
    · rw [hpockets, openLatch_pocket_self hlen hlock, hself]
    · rw [hpockets, openLatch_pocket_ne hp]
      exact pocket_modPocket_ne hp _ s
    · simp [hy, hx, pushUrgent]
    · simp [hy, hx]
    · simp [hy, hx]
    · simp [hy, hx]
    · simp [hy, hx]
    · rw [hy, (pushUrgent_frame _ _ _).2.2.2.2.1, putTaker_givers, hcue]
      rfl
  case deadline =>
    have hexec : exec (.deadlineExpiry k.seek) s = .next (failTaker k .timeout s) := by
      show Host.Outcome.next _ = _
      simp only [hk]
      rw [if_pos ⟨hs, hst, ht⟩, settleReader_of_busy (failTaker_busy hread.busy k .timeout)]
    obtain ⟨h1, h2, h3, h4⟩ := failTaker_untargeted hb hst .timeout hlt ha hr
    have hrds : (failTaker k .timeout s).rds = s.rds := by
      rw [failTaker_targeting hst, (noticeNeedFailed_frame _ _ _).2.2.1, untarget_eq (s := closeTaker k s) ha hr]
      rfl
    exact ⟨_, hexec, failTaker_cue k _ s, h1, h2, h3, h4, failTaker_notices, by simp, hrds, by simp, by simp, by simp, by simp⟩

/-! ### The timers of a giver transfer (R128, R130) -/

/-- R130, R131: a read of a giver's pocket is asked for with the door CLOSED, unless one is. -/
theorem readGiverPocket_eq {g : Giver} (hq : g.pocket = some q) :
    readGiverPocket g s =
      if (s.pocket q).door = .closed ∧ (s.pocket q).readRequested = false then requestRead q s else s := by
  simp [readGiverPocket, hq]

/-- What asking for a read of a giver's pocket leaves, part by part. -/
theorem readGiverPocket_spec {g : Giver} (hq : g.pocket = some q) (hp : s.present q = true) (hlen : q < s.pkc.pockets.length)
    (hf : s.rds.inFlight.map (·.pocket) ≠ some q) :
    ((s.pocket q).door = .closed → (s.pocket q).readRequested = false →
      ((readGiverPocket g s).pocket q).readRequested = true ∧ q ∈ (readGiverPocket g s).rds.queue) ∧
    ((s.pocket q).door = .opened → readGiverPocket g s = s) ∧
    ((readGiverPocket g s).pocket q).state = (s.pocket q).state ∧
    (∀ p, p ≠ q → (readGiverPocket g s).pocket p = s.pocket p) := by
  rw [readGiverPocket_eq hq]
  refine ⟨fun hd hr => ?_, fun hd => if_neg (by simp [hd]), ?_, fun p hne => ?_⟩
  · rw [if_pos ⟨hd, hr⟩, requestRead_pocket_self hlen]
    exact ⟨rfl, mem_requestRead hp hf⟩
  · split
    · rw [requestRead_pocket_self hlen]
    · rfl
  · split
    · exact requestRead_pocket_ne hne
    · rfl

theorem readGiverPocket_busy (h : s.readerBusy) (g : Giver) : (readGiverPocket g s).readerBusy := by
  unfold readGiverPocket
  split
  · split
    · exact h.requestRead _
    · exact h
  · exact h

theorem readGiverPocket_keeps (g : Giver) (s : State) : (readGiverPocket g s).cue = s.cue ∧ (readGiverPocket g s).slk = s.slk := by
  unfold readGiverPocket
  split
  · split <;> simp
  · exact ⟨rfl, rfl⟩

/-- Settles O48: the hold's end through the end of an OFFERED transfer, the release timer's through the read it asks for. -/
theorem giverTimersExpire : Obligations.GiverTimersExpire := by
  intro g q s hs hg hq hlt hb
  refine ⟨fun e hst ht hr he hc => ?hold, fun hst ht hx hread hp => ?release⟩
  case hold =>
    obtain ⟨h1, -, h3, h4, h5, h6, hcue⟩ := endOffered_spec hb hq hlt hr he hc
    have hexec : exec (.holdTimerExpiry g.seeker g.seek) s = .next (endOffered g s) := by
      show Host.Outcome.next _ = _
      simp only [hg]
      rw [if_pos ⟨hs, hst, ht⟩]
    have hclosed : (endOffered g s).giver? g.seeker g.seek = none := by
      rw [giver?_of_cue (t := endOffered g s) (s := closeGiver g s) (by rw [hcue]; rfl)]
      exact giver?_closeGiver g s
    have hrest := endOffered_eq hq hr he hc
    refine ⟨_, hexec, h1, h3, h4, h5, h6, hclosed, ?_, by rw [hcue], ?_, ?_, ?_, ?_, ?_, ?_⟩
    · rw [hcue]
      exact addLapsed_getLast? _ _
    all_goals rw [hrest]; rfl
  case release =>
    set x := putGiver { g with expired := true } s with hxdef
    have hexec : exec (.releaseTimerExpiry g.seeker g.seek) s = .next (readGiverPocket g x) := by
      show Host.Outcome.next _ = _
      simp only [hg]
      rw [if_pos ⟨hs, hst, ht, hx⟩, releaseEnds, settleReader_of_busy (readGiverPocket_busy (s := x) hread.busy g)]
    obtain ⟨h1, h2, h3, h4⟩ := readGiverPocket_spec (s := x) hq hp (hb.pocket_lt hlt) hread.notInFlight
    obtain ⟨hcue, hslk⟩ := readGiverPocket_keeps g x
    refine ⟨_, hexec, ?_, h1, fun hd => ?_, h3, h4, ?_, ?_, ?_, hslk, ?_, ?_⟩
    · rw [giver?_of_cue hcue]
      exact giver?_putGiver (g' := { g with expired := true }) hg rfl rfl
    · rw [h2 hd]
      exact ⟨rfl, rfl⟩
    all_goals simp [x]

/-! ### The timers of entries and claim windows (R134, R135, R143, R151) -/

theorem find_filter_ne {α : Type} {P Q : α → Bool} {l : List α} (h : ∀ x, P x = true → Q x = true) :
    (l.filter (fun x => !Q x)).find? P = none := by
  rw [List.find?_eq_none]
  intro x hx hp
  simp only [List.mem_filter, Bool.not_eq_true'] at hx
  exact absurd (hx.2.symm.trans (h x hp)) (by decide)

/-- R135: the giver transfer of a tool, if one is open, closes; nothing else changes. -/
theorem closeGiverOf_spec (u : ToolId) (s : State) :
    (∃ c, closeGiverOf u s = { s with cue := c } ∧ c.takers = s.cue.takers ∧ c.windows = s.cue.windows ∧
      c.waiting = s.cue.waiting) ∧
    ∀ g, s.giverOf? u = some g → (closeGiverOf u s).giver? g.seeker g.seek = none := by
  unfold closeGiverOf
  split
  · next g hg =>
    refine ⟨⟨_, rfl, rfl, rfl, rfl⟩, fun g' hg' => ?_⟩
    rw [hg] at hg'
    obtain rfl := Option.some.inj hg'
    exact giver?_closeGiver g s
  · next hg => exact ⟨⟨s.cue, rfl, rfl, rfl, rfl⟩, fun g hg' => absurd (hg.symm.trans hg') (by simp)⟩

/-- Settles O49: the two away timers, and the unanswered transit check. -/
theorem awayTimersExpire : Obligations.AwayTimersExpire := by
  intro u e s hs hb he hp
  refine ⟨fun hc ht ha => ?away, fun hc hdue hw hu hn => ?transit, fun hwin hwait hbusy => ?lost⟩
  case away =>
    show Host.Outcome.next _ = _
    simp only [he]
    rw [if_pos ⟨hs, hc, ht⟩, versioned_eq_outside he ha hp rfl]
    rfl
  case transit =>
    have hexec : exec (.transitTimerExpiry u) s =
        .next ((s.transitsDue.filter (fun v => decide (v ≤ u))).foldl (fun s v => beginTransitCheck v s) s) :=
      congrArg Host.Outcome.next (if_pos (by simp [hs, hdue]))
    have hlist : s.transitsDue.filter (fun v => decide (v ≤ u)) = [u] := by
      rw [hdue]
      simp
    rw [hexec, hlist, List.foldl_cons, List.foldl_nil, beginTransitCheck, if_pos hw, openTransitCheck]
    exact congrArg Host.Outcome.next (handPlain_eq (s := openWindow ⟨u, .transitCheck, 3⟩ s) hu hn _ _)
  case lost =>
    have hadopt : s.adoptionOpen u = false := by simp [State.adoptionOpen, hwin]
    have htool : e.tool = u := tool_of_entry? he
    set x := handRecord u (putEntry { e.lose with version := e.version + 1 } s) with hx
    have hxcue : x.cue = s.cue := by simp [hx]
    obtain ⟨⟨c, hc, htakers, -, hcwait⟩, hclosed⟩ := closeGiverOf_spec u x
    have hfinal : transitLost u s = { x with cue := { c with windows := c.windows.filter (fun w => w.tool != u) } } := by
      rw [transitLost, versioned_eq_outside he hadopt hp rfl, ← hx, hc]
      exact closeWindow_eq (s := { x with cue := c }) (by rw [hcwait, hxcue, hwait]) u
    have hexec : exec (.transitCheckExpiry u) s = .next (transitLost u s) := by
      show Host.Outcome.next _ = _
      simp only [hwin]
      rw [if_pos ⟨hs, trivial, trivial⟩, settleReader_of_busy]
      rw [hfinal]
      exact hbusy.of_rds (by simp [hx]) (by simp [hx])
    have htrg : (transitLost u s).trg = (putEntry { e.lose with version := e.version + 1 } s).trg := by
      rw [hfinal]
      simp [hx]
    refine ⟨_, hexec, ?_, fun v hv => ?_, ?_, fun g hg => ?_, ?_, ?_, ?_, ?_, ?_, ?_, ?_⟩
    · rw [entry?_of_trg htrg]
      exact htool ▸ entry?_putEntry_self (e := { e.lose with version := e.version + 1 }) hb.register
    · rw [entry?_of_trg htrg]
      exact entry?_putEntry_ne (e := { e.lose with version := e.version + 1 }) hb.register (htool.symm ▸ hv)
    · rw [hfinal]
      exact window?_filter u { x with cue := c }
    · have hxg : x.giverOf? u = some g := by
        rw [State.giverOf?, hxcue]
        exact hg
      have hnone := hclosed g hxg
      rw [hc] at hnone
      rw [hfinal]
      exact hnone
    · rw [hfinal]
      exact htakers.trans (by rw [hxcue])
    all_goals rw [hfinal]; simp [hx]

/-- R143, R144: the place and the kind of an adopted entry are its own. -/
theorem atClose_fixed (s : State) (fb h : Option Record) (e : Entry) :
    (e.atClose s fb h).tool = e.tool ∧ (e.atClose s fb h).kind = e.kind ∧ (e.atClose s fb h).custodian = e.custodian ∧
      (e.atClose s fb h).custody = e.custody ∧ (e.atClose s fb h).pocket = e.pocket := by
  unfold Entry.atClose
  split
  · exact ⟨rfl, rfl, rfl, rfl, rfl⟩
  · split <;> exact ⟨rfl, rfl, rfl, rfl, rfl⟩

/-- R144: data of the entry's own kind, no claim against it. -/
theorem settle_same {full : Nat} {r : Record} {e : Entry} (h : r.kind = e.kind) :
    (e.settle full r false).version = r.version + 1 ∧ (e.settle full r false).preset = r.preset ∧
      (e.settle full r false).life = min r.life full ∧ (e.settle full r false).remainder = r.remainder ∧
      (e.settle full r false).used = r.used ∧
      (e.settle full r false).condition = adjustCondition r.condition r.preset.isSome (min r.life full) ∧
      (e.settle full r false).conflict = decide ((e.settle full r false).condition = .quarantine .duplicate) := by
  simp [Entry.settle, Record.adjust, h]

/-- R144: a physical claim, or the conflict flag. -/
theorem settle_duplicate (full : Nat) (r : Record) (e : Entry) :
    (e.settle full r true).version = r.version + 1 ∧ (e.settle full r true).condition = .quarantine .duplicate ∧
      (e.settle full r true).conflict = true ∧
      (e.settle full r true).preset = (if r.kind = e.kind then r.preset else none) ∧
      (e.settle full r true).life = min r.life full ∧ (e.settle full r true).remainder = r.remainder ∧
      (e.settle full r true).used = r.used := by
  by_cases h : r.kind = e.kind <;> simp [Entry.settle, Record.adjust, h]

theorem adjustCondition_ready (b : Bool) (l : Nat) :
    adjustCondition .ready b l = .needsPreset ∨ adjustCondition .ready b l = .expired ∨ adjustCondition .ready b l = .ready := by
  cases b with
  | false => exact .inl rfl
  | true => by_cases h : l = 0 <;> simp [adjustCondition, h]

/-- R143: an adjusted condition is a duplicate's or a withheld one's exactly when the record's is. -/
theorem settle_otherKind {full : Nat} {r : Record} {e : Entry} (h : r.kind ≠ e.kind) :
    (e.settle full r false).version = r.version + 1 ∧ (e.settle full r false).preset = none ∧
      (e.settle full r false).life = min r.life full ∧ (e.settle full r false).used = r.used ∧
      (e.settle full r false).condition =
        (if r.condition = .quarantine .duplicate ∨ r.condition = .quarantine .operator then r.condition else .needsPreset) ∧
      (e.settle full r false).conflict = decide ((e.settle full r false).condition = .quarantine .duplicate) := by
  refine ⟨rfl, by simp [Entry.settle, Record.adjust, h], rfl, rfl, ?_, rfl⟩
  cases hc : r.condition with
  | quarantine x => cases x <;> simp [Entry.settle, Record.adjust, adjustCondition, h, hc]
  | ready =>
    rcases adjustCondition_ready r.preset.isSome (min r.life full) with hr | hr | hr <;>
      simp [Entry.settle, Record.adjust, h, hc, hr]
  | needsPreset | expired => simp [Entry.settle, Record.adjust, adjustCondition, h, hc]

theorem physical_iff (h : HeardCustody) : h.physical = true ↔ h = .stocked ∨ h = .atGauge := by
  cases h <;> simp [HeardCustody.physical]

/-- Settles O50: the entry at the close of the window by what was heard, then what the close leaves. -/
theorem adoptionSettles : Obligations.AdoptionSettles := by
  intro u x fb h e s hs hb hwin hwait hbusy he
  have htool : e.tool = u := tool_of_entry? he
  set y : State := { s with cue := { s.cue with windows := s.cue.windows.filter (fun w => w.tool != u) } } with hy
  set e' := e.atClose s fb h with he'def
  obtain ⟨h1, h2, h3, h4, h5⟩ := atClose_fixed s fb h e
  have he'tool : e'.tool = u := h1.trans htool
  have hye : y.entry? u = some e := he
  have hadopt : y.adoptionOpen u = false := adoptionOpen_of_windowOpen (windowOpen_of_window? (window?_filter u s))
  have hz : (putEntry e' y).entry? u = some e' := he'tool ▸ entry?_putEntry_self hb.register
  have hfinal : settleAdoption u fb h s = presetReport u (handRecord u (putEntry e' y)) := by
    have hserve : ∀ z : State, z.cue = y.cue → serveWaiting z.cue.waiting z = z := by
      intro z hz
      rw [hz, show y.cue.waiting = [] from hwait]
      rfl
    simp only [settleAdoption]
    rw [← hy, modEntry_eq hye]
    exact hserve _ (by simp)
  have hexec : exec (.claimWindowExpiry u) s = .next (settleAdoption u fb h s) := by
    show Host.Outcome.next _ = _
    simp only [hwin]
    rw [if_pos ⟨hs, trivial⟩, settleReader_of_busy]
    rw [hfinal]
    exact hbusy.of_rds (by simp [hy]) (by simp [hy])
  have htrg : (settleAdoption u fb h s).trg = (putEntry e' y).trg := by
    rw [hfinal]
    simp
  have hheard : ∀ r, h = some r → e' = e.settle (s.fullLife e.kind) r (r.heard.physical || r.conflict) := by
    rintro r rfl
    rfl
  have hfall : ∀ f, fb = some f → h = none → e' = e.settle (s.fullLife e.kind) f false := by
    rintro f rfl rfl
    rfl
  have hquiet : ∀ r : Record, r.heard ≠ .stocked → r.heard ≠ .atGauge → r.conflict = false →
      (r.heard.physical || r.conflict) = false := by
    intro r hr1 hr2 hr3
    rw [hr3, Bool.or_false, Bool.eq_false_iff, ne_eq, physical_iff]
    exact not_or.2 ⟨hr1, hr2⟩
  refine ⟨_, e', hexec, ?_, fun v hv => ?_, ?_, ⟨h1, h2, h3, h4, h5⟩, ?_, fun f hf hn hk => ?_, fun r hr hphys => ?_,
    fun r hr hr1 hr2 hr3 hk => ?_, fun d hd hk => ?_, fun hc hn hl hnot => ?_, ?_, ?_, ?_, ?_⟩
  · rw [entry?_of_trg htrg, hz]
  · rw [entry?_of_trg htrg]
    exact entry?_putEntry_ne (s := y) hb.register (he'tool.symm ▸ hv)
  · rw [hfinal, State.window?]
    simp only [(presetReport_frame _ _).2.2.1, (handRecord_frame _ _).2.2.2.2.1, (putEntry_frame _ _).2.2.2.1]
    exact window?_filter u s
  · rintro rfl rfl
    rfl
  · rw [hfall f hf hn]
    exact settle_same hk
  · have hdup : (r.heard.physical || r.conflict) = true := by
      rw [Bool.or_eq_true, physical_iff]
      tauto
    rw [hheard r hr, hdup]
    exact settle_duplicate _ r e
  · rw [hheard r hr, hquiet r hr1 hr2 hr3]
    exact settle_same hk
  · have hsrc : e' = e.settle (s.fullLife e.kind) d false := by
      rcases hd with ⟨hf, hn⟩ | ⟨hr, hr1, hr2, hr3⟩
      · exact hfall d hf hn
      · rw [hheard d hr, hquiet d hr1 hr2 hr3]
    rw [hsrc]
    exact settle_otherKind hk
  · have hrec := handRecord_eq hz (by rw [h4]; exact hc) (s := putEntry e' y) hadopt hn
    rw [hfinal, (presetReport_frame _ _).2.2.2.1, hrec]
    exact placeRecord_room (r := e'.record) (by rw [record_tool, he'tool]; exact hnot) hl
  all_goals rw [hfinal]; simp [hy]

end Sys2Proof.Machine

/-! PROOFS. The hall line: sends and their failures, station ID conflict, a peer's ANNOUNCE (O37, O38, O39). -/

namespace Sys2Proof.Machine

open Sys2Proof

variable {s t : State} {p q : PocketNo}

/-! ### Sends (R96 to R99) -/

theorem exec_sendAttempt_begins (hs : s.running = true) (h : s.hli.send = none) : exec .sendAttempt s = .next (beginSend s) := by
  show Host.Outcome.next _ = _
  rw [if_pos hs, h]

theorem exec_attemptCollided {x : Send} (hs : s.running = true) (hx : s.hli.send = some x) (hp : x.phase = .driving) :
    exec .attemptCollided s = .next (settleReader (collide x s)) := by
  show Host.Outcome.next _ = _
  rw [hx]
  exact congrArg Host.Outcome.next (if_pos ⟨hs, hp⟩)

/-- R100: the eighth attempt drops the frame and reports it to its owner. -/
theorem collide_last (f : Frame) (o : FrameOwner) (s : State) :
    collide ⟨f, o, 8, .driving⟩ s = sendFailed f o { s with hli := { s.hli with send := none } } := rfl

/-- R97: the frames other than the ANNOUNCE are the same at every attempt. -/
theorem all_not_announce {l : List Frame} (h : l.all (fun f => !f.isAnnounce) = true) : l.find? Frame.isAnnounce = none := by
  rw [List.find?_eq_none]
  intro f hf
  simpa using List.all_eq_true.1 h f hf

/-- R44: a TAKE that failed falls back as a LAPSE of the counterpart does. -/
theorem fallBack_of_awaiting {k : Taker} (h : (s.pocket k.pocket).state ≠ .wrongTool) : fallBack k s = takeNext k.offers k s := by
  simp [fallBack, h]

/-- Settles O37: the sends by node state, and the failed attempt by what the frame's owner does with it. -/
theorem framesAreSent : Obligations.FramesAreSent := by
  refine ⟨fun s hs => ⟨fun h hn => ⟨fun u q hu => ?urgent, fun f q hu hf => ?routine⟩, fun h hn => ⟨fun a q ha => ?announce,
    fun ha => ?quietJoin⟩, fun h hn => ?silent, fun f o n h => ?again, fun f o n h => ?sent⟩,
    fun f o k s hs => ⟨fun h hk hb => ?waits, fun n h => ?backoff, fun h hb => ?last⟩, by decide, by decide, by decide, by decide⟩
  case urgent => rw [exec_sendAttempt_begins hs h, beginSend, hn]; simp [beginRun, hu, drive, setSend, hn]
  case routine => rw [exec_sendAttempt_begins hs h, beginSend, hn]; simp [beginRun, beginRoutine, hu, hf, drive, setSend, hn]
  case announce =>
    have hf : s.hli.routine.find? Frame.isAnnounce = some (.announce a) := by rw [ha]; rfl
    have he : s.hli.routine.eraseP Frame.isAnnounce = q := by rw [ha]; rfl
    rw [exec_sendAttempt_begins hs h, beginSend, hn]
    simp [beginJoining, hf, he, drive, setSend, hn, Frame.atAttempt, NodeState.announced]
  case quietJoin => rw [exec_sendAttempt_begins hs h, beginSend, hn]; simp [beginJoining, all_not_announce ha]
  case silent => rw [exec_sendAttempt_begins hs h, beginSend, hn]
  case again =>
    show Host.Outcome.next _ = _
    rw [if_pos hs, h]
    rfl
  case sent =>
    show Host.Outcome.next _ = _
    rw [h]
    exact congrArg Host.Outcome.next (if_pos ⟨hs, rfl⟩)
  case waits =>
    rw [exec_attemptCollided hs h rfl, collide, if_pos hk]
    exact congrArg Host.Outcome.next (settleReader_of_busy (s := setSend _ s) hb)
  case backoff =>
    show Host.Outcome.next _ = _
    rw [h]
    exact congrArg Host.Outcome.next (if_pos hs)
  case last =>
    rw [exec_attemptCollided hs h rfl, collide_last]
    set x : State := { s with hli := { s.hli with send := none } } with hx
    have hbx : x.readerBusy := hb
    refine ⟨fun ho => ?unowned, fun m w md l y hf ho hy hst => ?seek, fun d m y c hf ho hy hst hc => ?take,
      fun d m r g q e hf ho hg hst hq hlt hbd hr he hcust => ?offer⟩
    case unowned => rw [ho]; exact congrArg Host.Outcome.next (settleReader_of_busy hbx)
    case seek =>
      obtain ⟨-, rfl⟩ := taker?_ids hy
      have hfail : sendFailed f o x = failTaker y .line x := by
        rw [hf, ho]
        show takerSendFailed _ _ _ = _
        have hy' : x.taker? y.seek = some y := hy
        simp [takerSendFailed, hy', hst]
      rw [hfail, settleReader_of_busy (failTaker_busy hbx y .line), failTaker_seeking hst]
      rfl
    case take =>
      obtain ⟨-, rfl⟩ := taker?_ids hy
      have hy' : x.taker? y.seek = some y := hy
      have hfail : sendFailed f o x = if c.station = d then fallBack y x else x := by
        rw [hf, ho]
        show takerSendFailed _ _ _ = _
        simp [takerSendFailed, hy', hst, counterpart_eq hc]
      rw [hfail]
      refine ⟨fun hne => ?_, fun z rest heq hoff hpk hu hn => ?_, fun heq hoff hpk hbd => ?_⟩
      · rw [if_neg hne, settleReader_of_busy hbx]
      · rw [if_pos heq, fallBack_of_awaiting (s := x) hpk, hoff, takeNext_cons (s := x) hu hn]
        exact congrArg Host.Outcome.next (settleReader_of_busy (s := pushUrgent _ _ (putTaker _ x)) hbx)
      · have hend : fallBack y x = failTaker { y with offers := [] } .lapsed x := by
          rw [fallBack_of_awaiting (s := x) hpk, hoff, takeNext]
        have hne : ({ y with offers := [] } : Taker).state ≠ .seeking := by simp [hst]
        rw [if_pos heq, hend, settleReader_of_busy (failTaker_busy hbx _ _)]
        have hbd' : x.Bounded := { hbd with }
        exact ⟨_, rfl, by simp [x], failTaker_cue _ _ _, failTaker_untargeted hbd' hne _,
          fun hm hl => failTaker_notices (s := x) hm hl, by simp [x], by simp [x], by simp [x], by simp [x]⟩
    case offer =>
      obtain ⟨-, rfl, rfl⟩ := giver?_ids hg
      have hg' : x.giver? g.seeker g.seek = some g := hg
      have hfail : sendFailed f o x = endOffered g x := by
        rw [hf, ho]
        show giverSendFailed _ _ _ _ = _
        simp [giverSendFailed, hg', hst]
      have hbd' : x.Bounded := { hbd with }
      obtain ⟨h1, h2, h3, h4, h5, h6, hcue⟩ := endOffered_spec (s := x) hbd' hq hlt hr he hcust
      have hrest := endOffered_eq (s := x) hq hr he hcust
      have hbusy : (endOffered g x).readerBusy := by rw [hrest]; exact hb
      rw [hfail, settleReader_of_busy hbusy]
      have hclosed : (endOffered g x).giver? g.seeker g.seek = none :=
        (giver?_of_cue (hcue.trans rfl) g.seeker g.seek).trans (giver?_closeGiver g x)
      refine ⟨_, rfl, ?_, h1, h2, h3, h4, h5, h6, hclosed, hcue ▸ addLapsed_getLast? _ _, ?_⟩
      · rw [hrest]; rfl
      · rw [hrest]; exact ⟨rfl, rfl, rfl, rfl, rfl, rfl⟩

/-! ### The entry after a versioned change (R8) -/

theorem entry?_putEntry_of_tool {u : ToolId} {e : Entry} (h : s.trg.entries.Pairwise (fun a b => a.tool < b.tool)) (hu : e.tool = u) :
    (putEntry e s).entry? u = some e := hu ▸ entry?_putEntry_self h

/-- R8: the register after a versioned change outside an adoption window. -/
theorem versioned_trg {u : ToolId} {e : Entry} (h : s.entry? u = some e) (ha : s.adoptionOpen u = false) (f : Entry → Entry) :
    (versioned u f s).trg = (putEntry { f e with version := e.version + 1 } s).trg := by
  rw [versioned_eq h ha]
  split <;> simp [putEntry]

theorem versioned_entry_self {u : ToolId} {e : Entry} (hb : s.Bounded) (h : s.entry? u = some e) (ha : s.adoptionOpen u = false)
    {f : Entry → Entry} (hf : (f e).tool = e.tool) :
    (versioned u f s).entry? u = some { f e with version := e.version + 1 } := by
  rw [entry?_of_trg (versioned_trg h ha f)]
  exact entry?_putEntry_of_tool hb.register (hf.trans (tool_of_entry? h))

theorem versioned_entry_ne {u v : ToolId} {e : Entry} (hb : s.Bounded) (h : s.entry? u = some e) (ha : s.adoptionOpen u = false)
    {f : Entry → Entry} (hf : (f e).tool = e.tool) (hv : v ≠ u) : (versioned u f s).entry? v = s.entry? v := by
  rw [entry?_of_trg (versioned_trg h ha f)]
  exact entry?_putEntry_ne hb.register (by rw [show ({ f e with version := e.version + 1 } : Entry).tool = u from hf.trans (tool_of_entry? h)]; exact hv)

/-! ### What ending a transfer leaves of the reader and of the other transfers -/

/-- The read under way, the sweep, the transfers and the join timer: what closing a claim window does not touch. -/
def State.Core (s : State) : Option Read × SweepState × List Giver × List Taker × Option Nat :=
  (s.rds.inFlight, s.rds.sweep, s.cue.givers, s.cue.takers, s.hli.joinTimer)

theorem core_of_parts (hr : t.rds = s.rds) (hc : t.cue = s.cue) (hj : t.hli.joinTimer = s.hli.joinTimer) : t.Core = s.Core := by
  simp only [State.Core, hr, hc, hj]

@[simp] theorem handRecord_joinTimer (u : ToolId) (s : State) : (handRecord u s).hli.joinTimer = s.hli.joinTimer := by
  rw [handRecord_rest]

@[simp] theorem handPlain_joinTimer (f : Frame) (o : FrameOwner) (s : State) :
    (handPlain f o s).hli.joinTimer = s.hli.joinTimer := by
  unfold handPlain
  split <;> rfl

@[simp] theorem versioned_joinTimer (u : ToolId) (f : Entry → Entry) (s : State) :
    (versioned u f s).hli.joinTimer = s.hli.joinTimer := by
  unfold versioned
  split
  · rfl
  · dsimp only
    split <;> simp

@[simp] theorem displaceGauge_core (u : ToolId) (s : State) : (displaceGauge u s).Core = s.Core := by
  unfold displaceGauge
  split
  · exact core_of_parts (by simp) (by simp) (by simp)
  · rfl

@[simp] theorem createEntry_core (e : Entry) (s : State) : (createEntry e s).Core = s.Core :=
  core_of_parts (by simp) (by simp) (by simp)

@[simp] theorem requestRead_core (p : PocketNo) (s : State) : (requestRead p s).Core = s.Core := by
  simp [State.Core]

@[simp] theorem handPlain_core (f : Frame) (o : FrameOwner) (s : State) : (handPlain f o s).Core = s.Core :=
  core_of_parts (by simp) (by simp) (by simp)

@[simp] theorem openWindow_core (w : Window) (s : State) : (openWindow w s).Core = s.Core := rfl

@[simp] theorem modPocket_core (p : PocketNo) (f : Pocket → Pocket) (s : State) : (modPocket p f s).Core = s.Core := rfl

@[simp] theorem presetReport_core (u : ToolId) (s : State) : (presetReport u s).Core = s.Core :=
  core_of_parts (by simp) (by simp) (by simp)

@[simp] theorem dropHeard_core (u : ToolId) (s : State) : (dropHeard u s).Core = s.Core := rfl

@[simp] theorem noticeLimit_core (p : PocketNo) (u : ToolId) (s : State) : (noticeLimit p u s).Core = s.Core :=
  core_of_parts (by simp) (by simp) (by simp)

@[simp] theorem openAdoption_core (u : ToolId) (kind : Nat) (x : Place) (s : State) : (openAdoption u kind x s).Core = s.Core := by
  unfold openAdoption
  split
  · simp
  · cases x <;> simp

@[simp] theorem openTransitCheck_core (u : ToolId) (s : State) : (openTransitCheck u s).Core = s.Core := by
  simp [openTransitCheck]

theorem core_with_waiting (l : List Waiting) (s : State) : ({ s with cue := { s.cue with waiting := l } } : State).Core = s.Core := rfl

theorem core_with_windows (l : List Window) (s : State) : ({ s with cue := { s.cue with windows := l } } : State).Core = s.Core := rfl

@[simp] theorem takeWaiting_core (w : Waiting) (s : State) : (takeWaiting w s).Core = s.Core := by
  unfold takeWaiting
  cases w with
  | transitCheck u => simp [core_with_waiting]
  | adoption u kind x =>
    dsimp only
    split
    · cases x <;> simp [core_with_waiting]
    · simp [core_with_waiting]

@[simp] theorem serveWaiting_core (l : List Waiting) (s : State) : (serveWaiting l s).Core = s.Core := by
  induction l generalizing s with
  | nil => rfl
  | cons w ws ih =>
    unfold serveWaiting
    split
    · rw [ih, takeWaiting_core]
    · rfl

@[simp] theorem closeWindow_core (u : ToolId) (s : State) : (closeWindow u s).Core = s.Core := by
  unfold closeWindow
  split
  · rw [serveWaiting_core, core_with_windows]
  · rfl

@[simp] theorem closeTransitCheck_core (u : ToolId) (s : State) : (closeTransitCheck u s).Core = s.Core := by
  unfold closeTransitCheck
  dsimp only
  split
  · rfl
  · rw [closeWindow_core, core_with_waiting]

@[simp] theorem versioned_core (u : ToolId) (f : Entry → Entry) (s : State) : (versioned u f s).Core = s.Core :=
  core_of_parts (by simp) (by simp) (by simp)

@[simp] theorem restock_core (u : ToolId) (s : State) : (restock u s).Core = s.Core :=
  core_of_parts (by simp) (by simp) (by simp)

@[simp] theorem unreserve_core (p : PocketNo) (s : State) : (unreserve p s).Core = s.Core := by
  unfold unreserve
  split <;> rfl

@[simp] theorem readGiverPocket_core (g : Giver) (s : State) : (readGiverPocket g s).Core = s.Core := by
  unfold readGiverPocket
  split
  · split <;> simp
  · rfl

/-- The giver transfers other than one. -/
def othersThan (g : Giver) (l : List Giver) : List Giver := l.filter (fun x => !(x.seeker == g.seeker && x.seek == g.seek))

/-- R131: what ending a giver transfer as on LAPSE(WITHDRAWN) leaves of the transfers, the reader and the sweep. -/
theorem lapseGiver_core (g : Giver) (s : State) :
    (lapseGiver g s).Core =
      (s.rds.inFlight, s.rds.sweep,
        (if g.state = .releasing then (putGiver { g with withdrawing := true } s).cue.givers else othersThan g s.cue.givers),
        s.cue.takers, s.hli.joinTimer) := by
  have hclose : ∀ x : State, (closeGiver g x).Core =
      (x.Core.1, x.Core.2.1, othersThan g x.Core.2.2.1, x.Core.2.2.2) := fun _ => rfl
  unfold lapseGiver
  cases hst : g.state with
  | offered =>
    simp only [endOffered]
    rw [hclose, restock_core]
    cases g.pocket <;> simp [State.Core]
  | releasing =>
    simp only [startWithdrawing, readGiverPocket_core, hst, if_pos]
    rfl
  | transit =>
    simp only [closeTransitCheck_core]
    rw [hclose, versioned_core]
    rfl

theorem putGiver_singleton {g g' : Giver} (h : s.cue.givers = [g]) (h1 : g'.seeker = g.seeker) (h2 : g'.seek = g.seek) :
    (putGiver g' s).cue.givers = [g'] := by
  show s.cue.givers.map _ = _
  rw [h, List.map_singleton, if_pos ⟨h1.symm, h2.symm⟩]

theorem window?_of_windows_nil (h : s.cue.windows = []) (u : ToolId) : s.window? u = none := by
  simp [State.window?, h]

theorem adoptionOpen_of_windows_nil (h : s.cue.windows = []) (u : ToolId) : s.adoptionOpen u = false := by
  simp [State.adoptionOpen, window?_of_windows_nil h]

/-- A giver transfer in TRANSIT ended with no claim window open and none waiting. -/
theorem lapseGiver_transit {g : Giver} (hst : g.state = .transit) (hw : s.cue.windows = []) (hwait : s.cue.waiting = []) :
    lapseGiver g s = closeGiver g (versioned g.tool Entry.goAway s) := by
  have hcl := closeTransitCheck_eq (s := closeGiver g (versioned g.tool Entry.goAway s)) (u := g.tool) (by simp [hwait])
    (window?_of_windows_nil (by simp [hw]) _)
  simpa [lapseGiver, hst] using hcl

/-- R102, R108, R131: the one giver transfer, ended in its state. -/
theorem lapseGiver_ended {g : Giver} (hb : s.Bounded) (hg : s.cue.givers = [g]) : s.GiverEnded (lapseGiver g s) g where
  offered := by
    intro hst q e hq hlt hr he hc
    obtain ⟨h1, h2, h3, h4, h5, h6, hcue⟩ := endOffered_spec hb hq hlt hr he hc
    have hl : lapseGiver g s = endOffered g s := by simp [lapseGiver, hst]
    rw [hl]
    exact ⟨by simp [hcue, hg], hcue ▸ addLapsed_getLast? _ _, h1, h2, h3, h4, h5, h6⟩
  releasing := by
    intro hst q hq hp hread
    have hl : lapseGiver g s = readGiverPocket g (putGiver { g with withdrawing := true } s) := by simp [lapseGiver, hst, startWithdrawing]
    obtain ⟨h1, h2, h3, h4⟩ := readGiverPocket_spec (s := putGiver { g with withdrawing := true } s) hq hp
      (hb.pocket_lt (State.present_iff.1 hp).1) hread.notInFlight
    have hgiv : (readGiverPocket g (putGiver { g with withdrawing := true } s)).cue.givers = [{ g with withdrawing := true }] := by
      rw [(readGiverPocket_keeps g _).1]
      exact putGiver_singleton hg rfl rfl
    rw [hl]
    exact ⟨hgiv, (readGiverPocket_frame g _).1, h3, h4, h1, fun hd => by rw [h2 hd]; exact ⟨rfl, rfl⟩⟩
  transit := by
    intro hst e he hc hpk hw hwait
    have hv := versioned_eq_outside he (adoptionOpen_of_windows_nil hw g.tool) hpk (f := Entry.goAway) rfl
    have hl := lapseGiver_transit hst hw hwait
    have ha := adoptionOpen_of_windows_nil hw g.tool
    have htrg : (lapseGiver g s).trg = (versioned g.tool Entry.goAway s).trg := by rw [hl]; rfl
    refine ⟨by rw [hl]; simp [hg], by rw [hl, hv]; exact (handRecord_frame _ _).2.1, ?_, fun v hv' => ?_⟩
    · rw [entry?_of_trg htrg, versioned_entry_self hb he ha rfl]
      simp [Entry.goAway, hpk]
    · rw [entry?_of_trg htrg, versioned_entry_ne hb he ha rfl hv']

/-! ### Station ID conflict (R101 to R103) -/

/-- R102: every taker transfer is closed once each of them has been failed. -/
theorem foldl_failTaker_takers (r : FailReason) (l : List Taker) (s : State) :
    (l.foldl (fun s k => failTaker k r s) s).cue =
      { s.cue with takers := s.cue.takers.filter (fun x => l.all (fun k => x.seek != k.seek)) } := by
  induction l generalizing s with
  | nil => simp
  | cons k ks ih =>
    rw [List.foldl_cons, ih, failTaker_cue]
    simp [List.filter_filter, Bool.and_comm]

theorem foldl_failTaker_busy (r : FailReason) (l : List Taker) (h : s.readerBusy) :
    (l.foldl (fun s k => failTaker k r s) s).readerBusy := by
  induction l generalizing s with
  | nil => exact h
  | cons k ks ih => exact ih (failTaker_busy h k r)

/-- R131: a giver transfer that stays after each of a list has been ended is withdrawing, or was none of them. -/
theorem foldl_lapseGiver_core (l : List Giver) (s : State) :
    (l.foldl (fun s g => lapseGiver g s) s).Core =
      (s.rds.inFlight, s.rds.sweep, (l.foldl (fun s g => lapseGiver g s) s).cue.givers, s.cue.takers, s.hli.joinTimer) := by
  induction l generalizing s with
  | nil => rfl
  | cons g gs ih =>
    have h := lapseGiver_core g s
    simp only [State.Core, Prod.mk.injEq] at h
    obtain ⟨h1, h2, -, h4, h5⟩ := h
    rw [List.foldl_cons, ih, h1, h2, h4, h5]

/-- R102: a giver transfer that a conflict leaves. -/
def Giver.Withdrawn (g : Giver) : Prop := g.state = .releasing ∧ g.withdrawing = true

theorem foldl_lapseGiver_givers (l : List Giver) (s : State)
    (h : ∀ g ∈ s.cue.givers, g.Withdrawn ∨ ∃ x ∈ l, x.seeker = g.seeker ∧ x.seek = g.seek) :
    ∀ g ∈ (l.foldl (fun s g => lapseGiver g s) s).cue.givers, g.Withdrawn := by
  induction l generalizing s with
  | nil => simpa using h
  | cons g gs ih =>
    refine ih _ fun x hx => ?_
    have hc := lapseGiver_core g s
    simp only [State.Core, Prod.mk.injEq] at hc
    rw [hc.2.2.1] at hx
    by_cases hst : g.state = .releasing
    · rw [if_pos hst] at hx
      obtain ⟨y, hy, rfl⟩ := List.mem_map.1 hx
      split
      · exact .inl ⟨hst, rfl⟩
      · next hne =>
        rcases h y hy with hw | ⟨z, hz, h1, h2⟩
        · exact .inl hw
        · rcases List.mem_cons.1 hz with rfl | hz
          · exact absurd ⟨h1.symm, h2.symm⟩ hne
          · exact .inr ⟨z, hz, h1, h2⟩
    · rw [if_neg hst] at hx
      obtain ⟨hy, hne⟩ := List.mem_filter.1 hx
      rcases h x hy with hw | ⟨z, hz, h1, h2⟩
      · exact .inl hw
      · rcases List.mem_cons.1 hz with rfl | hz
        · simp [h1, h2] at hne
        · exact .inr ⟨z, hz, h1, h2⟩

/-- The node just after it heard its own ID: silent, its transfers still open. -/
def State.conflicted (s : State) : State :=
  { s with stc := { s.stc with node := .idConflict }, hli := { s.hli with urgent := [], routine := [], send := none } }

theorem enterConflict_eq (s : State) :
    enterConflict s =
      if s.stc.node = .joining then startIdleSweep (endTransfers s.conflicted) else endTransfers s.conflicted := by
  by_cases h : s.stc.node = .joining <;> simp only [enterConflict, h] <;> rfl

theorem exec_idConflict (hs : s.running = true) (hn : s.stc.node ≠ .idConflict) :
    exec .idConflict s = .next (settleReader (enterConflict s)) :=
  congrArg Host.Outcome.next (if_pos ⟨hs, hn⟩)

theorem endTransfers_none (hg : s.cue.givers = []) (hk : s.cue.takers = []) : endTransfers s = s := by
  simp [endTransfers, hg, hk]

theorem endTransfers_giver {g : Giver} (hg : s.cue.givers = [g]) (hk : s.cue.takers = []) : endTransfers s = lapseGiver g s := by
  have hc := lapseGiver_core g s
  simp only [State.Core, Prod.mk.injEq] at hc
  have hk' : (lapseGiver g s).cue.takers = [] := hc.2.2.2.1.trans hk
  simp [endTransfers, hg, hk']

theorem endTransfers_busy (h : s.readerBusy) : (endTransfers s).readerBusy := by
  have hc := foldl_lapseGiver_core s.cue.givers s
  simp only [State.Core, Prod.mk.injEq] at hc
  exact foldl_failTaker_busy .line _ (h.of_rds hc.1 hc.2.1)

/-- R101, R102: what is left of the transfers and of the transmitter when a conflict has ended them. -/
theorem endTransfers_conflicted (s : State) :
    (endTransfers s.conflicted).hli = s.conflicted.hli ∧ (endTransfers s.conflicted).cue.takers = [] ∧
      (∀ g ∈ (endTransfers s.conflicted).cue.givers, g.Withdrawn) := by
  set x := s.conflicted with hx
  have hc := foldl_lapseGiver_core x.cue.givers x
  simp only [State.Core, Prod.mk.injEq] at hc
  have hcue : (endTransfers x).cue = _ := foldl_failTaker_takers .line _ _
  refine ⟨?_, ?_, fun g hg => ?_⟩
  · have hsil : (endTransfers x).hli.Silent := endTransfers_silent rfl ⟨rfl, rfl, rfl⟩
    have hj : (endTransfers x).hli.joinTimer = x.hli.joinTimer := by
      unfold endTransfers
      exact (foldl_same (fun s => s.hli.joinTimer) (fun _ _ => by simp) _ _).trans hc.2.2.2.2
    generalize (endTransfers x).hli = y at hsil hj
    obtain ⟨u, r, w, j⟩ := y
    obtain ⟨rfl, rfl, rfl⟩ : u = [] ∧ r = [] ∧ w = none := hsil
    obtain rfl : j = x.hli.joinTimer := hj
    rfl
  · rw [hcue]
    simp only [List.filter_eq_nil_iff]
    intro k hk hall
    simpa using List.all_eq_true.1 hall k hk
  · rw [hcue] at hg
    exact foldl_lapseGiver_givers x.cue.givers x (fun g hg => .inr ⟨g, hg, rfl, rfl⟩) g hg

/-- Settles O38: the conflict as the end of every open transfer in a silent node. -/
theorem conflictEnters : Obligations.ConflictEnters := by
  intro s hs
  have hsilent : s.stc.node ≠ .joining → enterConflict s = endTransfers s.conflicted := fun h => by rw [enterConflict_eq, if_neg h]
  refine ⟨fun hn hb hg hk => ?run, fun hn hf hg hk => ⟨fun hw hq => ?starts, fun hw => ?goesOn⟩, fun hn => ?again, ?node,
    fun hn hb hbd => ?transfers⟩
  case run =>
    rw [exec_idConflict hs (by simp [hn]), hsilent (by simp [hn]), endTransfers_none (s := s.conflicted) hg hk]
    exact congrArg Host.Outcome.next (settleReader_of_busy (s := s.conflicted) hb)
  case starts =>
    have hq' : s.conflicted.quiet = false := hq
    have hw' : s.conflicted.rds.sweep = .idle := hw
    rw [exec_idConflict hs (by simp [hn]), enterConflict_eq, if_pos hn, endTransfers_none (s := s.conflicted) hg hk,
      startIdleSweep, if_pos hw', startSweep, hq']
    exact congrArg Host.Outcome.next (settleReader_stays (.inl hf) (fun h => absurd h (by simp)))
  case goesOn =>
    have hne : s.conflicted.rds.sweep ≠ .idle := by
      show s.rds.sweep ≠ .idle
      rcases hw with h | ⟨h, -⟩ <;> simp [h]
    rw [exec_idConflict hs (by simp [hn]), enterConflict_eq, if_pos hn, endTransfers_none (s := s.conflicted) hg hk,
      startIdleSweep, if_neg hne]
    refine congrArg Host.Outcome.next (settleReader_stays (s := s.conflicted) (.inl hf) fun h => ?_)
    rcases hw with hw | ⟨-, hw⟩
    · exact absurd (hw.symm.trans h) (by decide)
    · exact hw
  case again => exact congrArg Host.Outcome.next (if_neg (by simp [hn]))
  case node =>
    by_cases hn : s.stc.node = .idConflict
    · exact ⟨s, congrArg Host.Outcome.next (if_neg (by simp [hn])), by rw [← hn], rfl⟩
    · refine ⟨_, exec_idConflict hs hn, ?_, by simp⟩
      rw [(settleReader_frame _).2.1, enterConflict_eq]
      split <;> simp [State.conflicted]
  case transfers =>
    obtain ⟨hhli, htk, hgv⟩ := endTransfers_conflicted s
    have hbusy : (endTransfers s.conflicted).readerBusy := endTransfers_busy (s := s.conflicted) hb
    have hbd' : s.conflicted.Bounded := { hbd with urgent := Nat.zero_le _, routine := Nat.zero_le _ }
    rw [exec_idConflict hs (by simp [hn]), hsilent (by simp [hn]), settleReader_of_busy hbusy]
    refine ⟨_, rfl, hhli, htk, hgv, fun g hg hk => ?_, fun k hg hk => ?_⟩
    · have hone := endTransfers_giver (s := s.conflicted) hg hk
      obtain ⟨h1, h2, h3⟩ := lapseGiver_ended (s := s.conflicted) hbd' hg
      rw [hone]
      exact ⟨h1, h2, h3⟩
    · have hone : endTransfers s.conflicted = failTaker k .line s.conflicted := by
        simp [endTransfers, State.conflicted, hg, hk]
      rw [hone]
      refine ⟨fun hst => ?_, fun hst => ?_, fun hm hl => failTaker_notices (s := s.conflicted) hm hl⟩
      · rw [failTaker_seeking hst]; exact (noticeNeedFailed_frame _ _ _).2.1
      · exact failTaker_untargeted (s := s.conflicted) hbd' hst .line

/-! ### A peer's ANNOUNCE (R107 to R110) -/

theorem exec_announce {dst src : StationId} {a : Announce} (hs : s.hallTaken src = true) (hd : dst = 0)
    (hp : a.crib + a.magazine ≤ 48) (hn : a.nodeState = 4 ∨ a.nodeState = 5) :
    exec (.announceReceived dst src a) s =
      .next (if a.ramValid then resync src s else settleReader (counterpartReset src s)) :=
  congrArg Host.Outcome.next (if_pos (by simpa [announceTested, hs, hd, hp] using hn))

/-- R11: an ascending register holds no tool twice. -/
theorem eq_of_tool_eq {l : List Entry} (h : l.Pairwise (fun a b => a.tool < b.tool)) {x y : Entry} (hx : x ∈ l) (hy : y ∈ l)
    (ht : x.tool = y.tool) : x = y := by
  have hnodup : (l.map Entry.tool).Nodup := List.pairwise_map.2 (h.imp Nat.ne_of_lt)
  exact List.inj_on_of_nodup_map hnodup hx hy ht

theorem foldl_dropEntry_entries (l : List Entry) (s : State) :
    (l.foldl (fun s e => dropEntry e.tool s) s).trg.entries = s.trg.entries.filter (fun x => l.all (fun e => x.tool != e.tool)) := by
  induction l generalizing s with
  | nil => simp
  | cons e es ih =>
    rw [List.foldl_cons, ih]
    simp [dropEntry, List.filter_filter, Bool.and_comm]

/-- R107: every cached entry of the station goes, and no other. -/
theorem purgeCached_entries (hb : s.Bounded) (src : StationId) :
    (purgeCached src s).trg.entries = s.trg.entries.filter (fun e => !(!e.here && decide (e.custodian = src))) := by
  unfold purgeCached
  rw [foldl_dropEntry_entries]
  refine List.filter_congr fun e he => ?_
  rw [Bool.eq_iff_iff, List.all_eq_true]
  constructor
  · intro h
    rw [Bool.not_eq_true']
    by_contra hc
    simpa using h e (List.mem_filter.2 ⟨he, by simpa using hc⟩)
  · intro h x hx
    obtain ⟨hx, hc⟩ := List.mem_filter.1 hx
    rw [bne_iff_ne]
    intro ht
    rw [eq_of_tool_eq hb.register he hx ht, hc] at h
    exact absurd h (by decide)

theorem purgeCached_same {src : StationId} (h : ∀ e ∈ s.trg.entries, e.custody = .foreign → e.custodian ≠ src) :
    purgeCached src s = s := by
  have hnil : s.trg.entries.filter (fun e => !e.here && decide (e.custodian = src)) = [] := by
    rw [List.filter_eq_nil_iff]
    intro e he
    simpa [Entry.here] using h e he
  unfold purgeCached
  rw [hnil]
  rfl

theorem entries_of_putEntry {e x : Entry} (h : x ∈ (putEntry e s).trg.entries) : x = e ∨ x ∈ s.trg.entries := mem_insertEntry h

/-- R108: an ended giver transfer leaves no more cached entries of a station than there were. -/
theorem lapseGiver_uncached {g : Giver} {src : StationId} (hc : ∀ e ∈ s.trg.entries, e.custody = .foreign → e.custodian ≠ src)
    (hw : g.state = .transit → s.cue.windows = [] ∧ s.cue.waiting = []) :
    ∀ e ∈ (lapseGiver g s).trg.entries, e.custody = .foreign → e.custodian ≠ src := by
  have hput : ∀ e' : Entry, e'.custody ≠ .foreign → ∀ e ∈ (putEntry e' s).trg.entries, e.custody = .foreign → e.custodian ≠ src := by
    intro e' hne e he hf
    rcases entries_of_putEntry he with rfl | he
    · exact absurd hf hne
    · exact hc e he hf
  cases hst : g.state with
  | offered =>
    have htrg : (lapseGiver g s).trg = (restock g.tool s).trg := by
      simp only [lapseGiver, hst, endOffered]
      cases g.pocket with
      | none => rfl
      | some q =>
        have hu : (unreserve q s).trg = s.trg := by simp
        show (restock g.tool (unreserve q s)).trg = _
        unfold restock modEntry
        rw [entry?_of_trg hu]
        cases s.entry? g.tool <;> simp [putEntry]
    rw [htrg]
    unfold restock modEntry
    cases he : s.entry? g.tool with
    | none => exact hc
    | some e' =>
      dsimp only
      split
      · exact hput _ (by simp)
      · next hne =>
        intro e hmem hf
        rcases entries_of_putEntry hmem with rfl | hmem
        · exact hc e (mem_of_entry? he).1 hf
        · exact hc e hmem hf
  | releasing =>
    have htrg : (lapseGiver g s).trg = s.trg := by simp [lapseGiver, hst]
    rwa [htrg]
  | transit =>
    obtain ⟨hwin, hwait⟩ := hw hst
    rw [lapseGiver_transit hst hwin hwait]
    cases he : s.entry? g.tool with
    | none => simpa [versioned, he] using hc
    | some e' =>
      rw [(closeGiver_frame _ _).1, versioned_trg he (adoptionOpen_of_windows_nil hwin _)]
      exact hput _ (by simp [Entry.goAway])

/-- R131: ending a giver transfer sends no frame, but for the RECORD of a tool that came back from TRANSIT. -/
theorem lapseGiver_hli {g : Giver} (hst : g.state ≠ .transit) : (lapseGiver g s).hli = s.hli := by
  cases h : g.state <;> simp_all [lapseGiver]

/-- R131: a tool that came back from TRANSIT has its RECORD handed over as its entry then stands. -/
theorem lapseGiver_transit_hli {g : Giver} {e : Entry} (hb : s.Bounded) (hst : g.state = .transit) (hw : s.cue.windows = [])
    (hwait : s.cue.waiting = []) (hn : s.stc.node ≠ .idConflict) (he : (lapseGiver g s).entry? g.tool = some e) :
    (lapseGiver g s).hli = { s.hli with routine := placeRecord e.record s.hli.routine } := by
  have ha := adoptionOpen_of_windows_nil hw g.tool
  rw [lapseGiver_transit hst hw hwait] at he ⊢
  have he' : (versioned g.tool Entry.goAway s).entry? g.tool = some e := he
  cases h : s.entry? g.tool with
  | none => simp [versioned, h] at he'
  | some e' =>
    have hnew : ({ e'.goAway with version := e'.version + 1 } : Entry) = e := by
      rw [versioned_entry_self hb h ha rfl] at he'
      exact Option.some.inj he'
    have hput : (putEntry e (clearEntryMark e' s)).entry? g.tool = some e :=
      entry?_putEntry_of_tool (by simpa using hb.register) (by rw [← hnew]; exact tool_of_entry? (e := e') h)
    have hrec := handRecord_eq (s := putEntry e (clearEntryMark e' s)) hput (by rw [← hnew]; simp [Entry.goAway])
      ((State.adoptionOpen_of_cue (by simp) g.tool).trans ha) (by simpa using hn)
    rw [(closeGiver_frame _ _).2.2.2.2.1, versioned_eq h ha, if_pos (by rfl), hnew, id, hrec]
    simp

theorem takersOf_nil (h : s.cue.takers = []) (src : StationId) : s.takersOf src = [] := by simp [State.takersOf, h]

/-- Settles O39: an ANNOUNCE as discarded, as the end of the transfers of its station, or as a resync. -/
theorem announceActs : Obligations.AnnounceActs := by
  intro dst src a s hb
  refine ⟨fun h => ?discarded, fun hs hd hp hn hbusy => ⟨fun hv hg hk => ?purged, fun hv hc => ⟨fun g hg hsrc hk => ?giver,
    fun k hg hk hst hcp => ?taker⟩, fun k hv hg hk => ?resyncTaker, fun g hv hg hk => ?resyncGiver⟩⟩
  case discarded =>
    refine congrArg Host.Outcome.next (if_neg ?_)
    simp only [announceTested, Bool.and_eq_true, Bool.or_eq_true, decide_eq_true_eq]
    rintro ⟨-, ⟨hd, h48⟩, h45⟩
    rcases h with h | ⟨h4, h5⟩ | h0
    · exact absurd h48 (by omega)
    · exact h45.elim h4 h5
    · exact h0 hd
  case purged =>
    have hreset : counterpartReset src s = purgeCached src (dropOffers src s) := by simp [counterpartReset, hg, hk]
    have hbusy' : (purgeCached src (dropOffers src s)).readerBusy := hbusy.of_rds (by simp) (by simp)
    rw [exec_announce hs hd hp hn, hv, if_neg (by simp), hreset, settleReader_of_busy hbusy']
    refine ⟨_, rfl, ?_, ?_, ?_, ?_⟩
    · rw [purgeCached_entries (s := dropOffers src s) (dropOffers_bounded src hb)]
      simp
    · simp [dropOffers]
    · simp [dropOffers]
    · simp
  case giver =>
    set z := lapseGiver g s with hz
    have hcore := lapseGiver_core g s
    simp only [State.Core, Prod.mk.injEq] at hcore
    obtain ⟨hinfl, hsw, -, htk, -⟩ := hcore
    rw [← hz, hk] at htk
    have hgof : s.giversOf src = [g] := by simp [State.giversOf, hg, hsrc]
    have hreset : counterpartReset src s = purgeCached src (dropOffers src z) := by
      simp [counterpartReset, hgof, ← hz, takersOf_nil htk]
    have hbusy' : (purgeCached src (dropOffers src z)).readerBusy := hbusy.of_rds (by simpa using hinfl) (by simpa using hsw)
    have hsame : (g.state = .transit → s.cue.windows = [] ∧ s.cue.waiting = []) →
        purgeCached src (dropOffers src z) = dropOffers src z := fun hw =>
      purgeCached_same (by simpa using lapseGiver_uncached hc hw)
    obtain ⟨h1, h2, h3⟩ := lapseGiver_ended hb hg
    rw [exec_announce hs hd hp hn, hv, if_neg (by simp), hreset, settleReader_of_busy hbusy']
    refine ⟨_, rfl, ⟨fun hst => ?_, fun hst => ?_, fun hst e he hcust hpk hwin hwait => ?_⟩, ?_, fun hst => ?_,
      fun e hst he hne hwin hwait hnode => ?_⟩
    · rw [hsame (by simp [hst])]
      exact h1 hst
    · rw [hsame (by simp [hst])]
      exact h2 hst
    · rw [hsame (fun _ => ⟨hwin, hwait⟩)]
      exact h3 hst e he hcust hpk hwin hwait
    · simp [dropOffers, htk]
    · rw [(purgeCached_frame _ _).2.2.2.2.1]
      exact lapseGiver_hli hst
    · rw [hsame (fun _ => ⟨hwin, hwait⟩)] at he ⊢
      exact lapseGiver_transit_hli hb hst hwin hwait hnode he
  case taker =>
    have hkof : s.takersOf src = [k] := by simp [State.takersOf, hk, Taker.targeting, hst, hcp]
    have hgof : s.giversOf src = [] := by simp [State.giversOf, hg]
    set z := failTaker k .counterpartReset s with hz
    have hcue : z.cue = _ := failTaker_cue k _ s
    have htrg : z.trg = s.trg := (failTaker_frame k _ s).1
    have hreset : counterpartReset src s = dropOffers src z := by
      simp only [counterpartReset, hgof, hkof, List.foldl_nil, List.foldl_cons, ← hz]
      exact purgeCached_same (by simpa [htrg] using hc)
    have hbusy' : (dropOffers src z).readerBusy := failTaker_busy hbusy k .counterpartReset
    rw [exec_announce hs hd hp hn, hv, if_neg (by simp), hreset, settleReader_of_busy hbusy']
    refine ⟨_, rfl, ?_, ?_, failTaker_untargeted hb hst .counterpartReset, htrg, ?_, fun hm hl => failTaker_notices hm hl⟩
    · simp [dropOffers, hcue, hg]
    · simp [dropOffers, hcue, hk]
    · exact (failTaker_frame k _ s).2.2.1
  case resyncTaker =>
    have hres : resync src s = repeatFrame k.lastFrame s := by simp [resync, hg, hk]
    rw [exec_announce hs hd hp hn, hv, if_pos rfl, hres]
    exact ⟨fun hq => by rw [repeatFrame_queued hq], fun hq hu hnode => by rw [repeatFrame_eq hq hu hnode]⟩
  case resyncGiver =>
    have hkof : (repeatFrame g.lastFrame s).takersOf src = [] := by simpa [State.takersOf] using hk
    have hres : resync src s = repeatFrame g.lastFrame s := by simp [resync, hg, hkof]
    rw [exec_announce hs hd hp hn, hv, if_pos rfl, hres]
    exact ⟨fun hq => by rw [repeatFrame_queued hq], fun hq hu hnode => by rw [repeatFrame_eq hq hu hnode]⟩

end Sys2Proof.Machine

/-! PROOFS. CONFIG_READ, the probes of HUNTING and the end of JOINING (O16, O18). -/

namespace Sys2Proof.Machine

open Sys2Proof

variable {s t : State} {p q : PocketNo}

/-! ### The reader that does one thing and then stays -/

theorem readerRun_of_none (h : readerStep s = none) (n : Nat) : readerRun n s = s := by
  cases n with
  | zero => rfl
  | succ n => rw [readerRun, h]

theorem settleReader_of_step (h : readerStep s = some t) (ht : readerStep t = none) : settleReader s = t := by
  unfold settleReader readerRun
  rw [h]
  exact readerRun_of_none ht 255

/-- R60: an ACTIVE sweep that awaits no read visits its cursor pocket while a read is under way. -/
theorem readerStep_visits (hs : s.running = true) (hf : s.rds.inFlight.isSome = true) (hw : s.rds.sweep = .active)
    (ha : s.rds.awaiting = false) : readerStep s = some (visit s) := by
  obtain ⟨r, hr⟩ := Option.isSome_iff_exists.1 hf
  simp [readerStep, hs, hr, hw, ha]

/-- R60: the visit of a pocket whose read can be queued. -/
theorem visit_queues (hp : s.present s.rds.cursor = true) (ho : (s.pocket s.rds.cursor).passedOver = false)
    (hr : (s.pocket s.rds.cursor).readRequested = false) (hc : (s.pocket s.rds.cursor).state ≠ .checking)
    (hq : s.rds.cursor ∉ s.rds.queue) (hf : s.rds.inFlight.map (·.pocket) ≠ some s.rds.cursor) :
    visit s = { s with rds := { s.rds with awaiting := true, queue := s.rds.queue ++ [s.rds.cursor] } } := by
  have hen := enqueueRead_eq (s := { s with rds := { s.rds with awaiting := true } }) (p := s.rds.cursor) hp hq hf
  simp only [visit, hp, ho, hr, hc]
  simpa using hen

/-- R59, R60: a sweep started while the node is quiet has the read of pocket 0 queued at once. -/
theorem startSweep_visits (hs : s.running = true) (hq : s.quiet = true) (he : s.readerElsewhere 0) (hnq : 0 ∉ s.rds.queue)
    (hrq : (s.pocket 0).readRequested = false) (hst : (s.pocket 0).state = .empty ∨
      ((s.pocket 0).state = .stocked ∧ (s.pocket 0).openRelease = false) ∨ (s.pocket 0).state = .reserved ∨ (s.pocket 0).state = .fault) :
    settleReader (startSweep s) = { s with rds := { s.rds with sweep := .active, cursor := 0, awaiting := true,
                                                               table := List.replicate 48 .none, queue := s.rds.queue ++ [0] } } := by
  have hne : (s.pocket 0).state ≠ .absent := by rcases hst with h | ⟨h, -⟩ | h | h <;> simp [h]
  have hpass : (s.pocket 0).passedOver = false := by rcases hst with h | ⟨h, ho⟩ | h | h <;> simp [Pocket.passedOver, *]
  have hchk : (s.pocket 0).state ≠ .checking := by rcases hst with h | ⟨h, -⟩ | h | h <;> simp [h]
  rw [startSweep, hq, if_pos rfl]
  set x : State := { s with rds := { s.rds with sweep := .active, cursor := 0, awaiting := false, table := List.replicate 48 .none } } with hx
  have hvisit : visit x = { x with rds := { x.rds with awaiting := true, queue := x.rds.queue ++ [0] } } :=
    visit_queues (s := x) (State.present_iff.2 ⟨Nat.zero_lt_succ 47, hne⟩) hpass hrq hchk hnq he.notInFlight
  have hstep : readerStep x = some _ := (readerStep_visits (s := x) hs he.busy.1 rfl rfl).trans (congrArg some hvisit)
  rw [settleReader_of_step hstep (readerStep_none (.inl he.busy.1) (fun _ => rfl))]

/-! ### The end of JOINING (R106) -/

/-- The node that has just left JOINING, before the sweep of R59. -/
def State.joined (s : State) : State :=
  { s with stc := { s.stc with node := .run }, hli := { s.hli with joinTimer := none } }

theorem exec_joinTimer (hs : s.running = true) (hn : s.stc.node = .joining) (hj : s.hli.joinTimer = some 0) :
    exec .joinTimerExpiry s = .next (settleReader (startIdleSweep s.joined)) :=
  congrArg Host.Outcome.next (if_pos ⟨hs, hn, hj⟩)

theorem joined_running (h : s.running = true) : s.joined.running = true := by
  simp only [State.running, Bool.and_eq_true] at h
  simp [State.joined, State.running, h.1]

/-- R45: the node is quiet when every door of a present pocket of an ACTIVE module is CLOSED. -/
theorem quiet_iff : s.quiet = true ↔
    ∀ p, p < 48 → s.present p = true → s.moduleActive p = true → (s.pocket p).door = .closed := by
  simp only [State.quiet, List.all_eq_true, List.mem_range, Bool.or_eq_true, Bool.not_eq_true', Bool.and_eq_false_iff,
    decide_eq_true_eq]
  refine forall_congr' fun p => forall_congr' fun _ => ?_
  cases s.present p <;> cases s.moduleActive p <;> simp

/-- Settles O18: the sweep of R59 begun SUSPENDED, begun with a visit, or left as it was. -/
theorem joinTimerExpires : Obligations.JoinTimerExpires := by
  refine fun s => ⟨fun hs hn hj => ⟨?node, fun hw hq hf => ?suspended, fun hw hq he hnq hrq hst => ?visits, fun hw hf => ?goesOn⟩,
    fun hn => congrArg Host.Outcome.next (if_neg (by simp [hn])), quiet_iff⟩
  all_goals rw [exec_joinTimer hs hn hj]
  case node =>
    exact ⟨_, rfl, by simp [State.joined], by simp [State.joined]⟩
  case suspended =>
    have hw' : s.joined.rds.sweep = .idle := hw
    have hq' : s.joined.quiet = false := hq
    rw [startIdleSweep, if_pos hw', startSweep, hq']
    exact congrArg Host.Outcome.next (settleReader_stays hf (fun h => absurd h (by simp)))
  case visits =>
    have hw' : s.joined.rds.sweep = .idle := hw
    rw [startIdleSweep, if_pos hw', startSweep_visits (s := s.joined) (joined_running hs) hq he hnq hrq hst]
    rfl
  case goesOn =>
    have hne : s.joined.rds.sweep ≠ .idle := by
      show s.rds.sweep ≠ .idle
      rcases hw with h | ⟨h, -⟩ <;> simp [h]
    rw [startIdleSweep, if_neg hne]
    refine congrArg Host.Outcome.next (settleReader_stays (s := s.joined) hf fun h => ?_)
    rcases hw with hw | ⟨-, hw⟩
    · exact absurd (hw.symm.trans h) (by decide)
    · exact hw

/-! ### Folds over the pockets of a module -/

/-- A pocket that no step of a fold touches. -/
theorem foldl_pocket_other {α : Type} {f : State → α → State} {l : List α} (h : ∀ s, ∀ a ∈ l, (f s a).pocket p = s.pocket p) :
    (l.foldl f s).pocket p = s.pocket p := by
  induction l generalizing s with
  | nil => rfl
  | cons a l ih =>
    rw [List.foldl_cons, ih fun s b hb => h s b (List.mem_cons_of_mem a hb)]
    exact h s a List.mem_cons_self

/-- A pocket that one step of a fold alone touches, P being kept by the steps. -/
theorem foldl_pocket_at {α : Type} {f : State → α → State} {l : List α} {a : α} (P : State → Prop) (hP : ∀ s b, P s → P (f s b))
    (ha : a ∈ l) (hl : l.Nodup) (h : ∀ s, ∀ b ∈ l, b ≠ a → (f s b).pocket p = s.pocket p) (hs : P s) :
    ∃ x : State, P x ∧ x.pocket p = s.pocket p ∧ (l.foldl f s).pocket p = (f x a).pocket p := by
  induction l generalizing s with
  | nil => exact absurd ha (by simp)
  | cons b l ih =>
    obtain ⟨hb, hl'⟩ := List.nodup_cons.1 hl
    by_cases hba : b = a
    · subst hba
      exact ⟨s, hs, rfl, foldl_pocket_other fun s c hc => h s c (List.mem_cons_of_mem b hc) fun hcb => hb (hcb ▸ hc)⟩
    · obtain ⟨x, hx, hpx, hfx⟩ := ih ((List.mem_cons.1 ha).resolve_left fun hab => hba hab.symm) hl'
        (fun s c hc => h s c (List.mem_cons_of_mem b hc)) (hP s b hs)
      exact ⟨x, hx, hpx.trans (h s b List.mem_cons_self hba), hfx⟩

theorem module_pocket_split (p : PocketNo) : p / 8 * 8 + p % 8 = p := Nat.div_add_mod' p 8

/-- The eight pockets of a module are told apart by their lines, and from those of the other modules by the address. -/
theorem module_pocket_ne {p i : Nat} (h : i ≠ p % 8) : (p : PocketNo) ≠ p / 8 * 8 + i := fun he => by
  have he' : p = p / 8 * 8 + i := he
  omega

theorem module_pocket_ne_of_address {p a i : Nat} (h : p / 8 ≠ a) (hi : i < 8) : (p : PocketNo) ≠ a * 8 + i := fun he => by
  have he' : p = a * 8 + i := he
  omega

/-! ### CONFIG_READ and HUNT_PROBE -/

theorem exec_configRead {image : Option (List Byte)} (hp : s.stc.powered = true) (hn : s.stc.node = .loading) :
    exec (.configRead image) s = .next (readConfig (readImage image) s) :=
  congrArg Host.Outcome.next (if_pos ⟨hp, hn⟩)

/-- A probe before the last settles its address and goes to the next one. -/
theorem exec_huntProbe {r : Option ModuleReport} (hp : s.stc.powered = true) (hn : s.stc.node = .hunting) (h : s.stc.huntNext < 5) :
    exec (.huntProbe r) s = .next { settleProbe s.stc.huntNext r s with stc := { s.stc with huntNext := s.stc.huntNext + 1 } } := by
  have hstc : (settleProbe s.stc.huntNext r s).stc = s.stc := by simp
  refine congrArg Host.Outcome.next ((if_pos ⟨hp, hn⟩).trans ?_)
  simp only [hunt, if_pos h, hstc]

/-- What a probe leaves, but for the pockets of its own address. -/
theorem settleProbe_rest (a : Nat) (r : Option ModuleReport) (s : State) :
    settleProbe a r s = { s with pkc := { s.pkc with modules := s.pkc.modules.set a (huntedModule (s.bankOf a) r),
                                                     pockets := (settleProbe a r s).pkc.pockets } } := by
  have key : ∀ (l : List Nat) (x : State),
      l.foldl (fun s i => modPocket (a * 8 + i) (fun k => { k with door := huntedDoor r i }) s) x =
        { x with pkc := { x.pkc with pockets := (l.foldl (fun s i =>
          modPocket (a * 8 + i) (fun k => { k with door := huntedDoor r i }) s) x).pkc.pockets } } := by
    intro l
    induction l with
    | nil => exact fun _ => rfl
    | cons i l ih => exact fun x => ih _
  exact key _ _

/-- R26: the pockets of the probed address take the reported doors. -/
theorem settleProbe_pocket_self {p : Nat} (a : Nat) (r : Option ModuleReport) (hlen : p < s.pkc.pockets.length) (hp : p / 8 = a) :
    ∃ i, (settleProbe a r s).pocket p = { s.pocket p with door := huntedDoor r (p % 8), indicator := i } := by
  subst hp
  obtain ⟨x, hx, hpx, hfx⟩ := foldl_pocket_at (p := p) (a := p % 8) (s := modModule (p / 8) (fun _ => huntedModule (s.bankOf (p / 8)) r) s)
    (l := List.range 8) (f := fun s i => modPocket (p / 8 * 8 + i) (fun k => { k with door := huntedDoor r i }) s)
    (fun x => p < x.pkc.pockets.length) (fun x b h => by simpa using h) (List.mem_range.2 (Nat.mod_lt _ (by decide)))
    List.nodup_range (fun x b _ hb => pocket_modPocket_ne (module_pocket_ne hb) _ _) hlen
  rw [module_pocket_split, pocket_modPocket_self _ hx, hpx] at hfx
  exact ⟨_, hfx⟩

theorem settleProbe_pocket_other {p : Nat} (a : Nat) (r : Option ModuleReport) (hp : p / 8 ≠ a) :
    (settleProbe a r s).pocket p = s.pocket p :=
  foldl_pocket_other (s := modModule a (fun _ => huntedModule (s.bankOf a) r) s) fun _ _ hi =>
    pocket_modPocket_ne (module_pocket_ne_of_address hp (List.mem_range.1 hi)) _ _

/-- Settles O16: CONFIG_READ by the image and the refusals before it; a probe by its module's record and its pockets' doors. -/
theorem configAndHunt : Obligations.ConfigAndHunt := by
  refine ⟨fun image s => ⟨fun hp hn => ⟨fun c hc => ?loaded, fun hc hr => ?refused, fun hc hr => ?fault⟩,
    fun hn => congrArg Host.Outcome.next (if_neg (by simp [hn]))⟩, fun r s hp hn h5 hlen => ?probe⟩
  case loaded => rw [exec_configRead hp hn, hc]; rfl
  case refused => rw [exec_configRead hp hn, hc]; simp [readConfig, hr]
  case fault => rw [exec_configRead hp hn, hc]; simp [readConfig, hr]
  case probe =>
    have hrest := settleProbe_rest s.stc.huntNext r s
    refine ⟨_, exec_huntProbe hp hn h5, rfl, ?_, fun p hpa => ?_, fun p hpa => ?_, fun p hpa =>
      settleProbe_pocket_other (s := s) s.stc.huntNext r hpa, ?_⟩
    · show (settleProbe s.stc.huntNext r s).pkc.modules = _
      rw [hrest]
      cases r <;> rfl
    · obtain ⟨i, hi⟩ := settleProbe_pocket_self (s := s) s.stc.huntNext r (by omega) hpa
      refine (congrArg Pocket.door hi).trans ?_
      cases r <;> simp [huntedDoor, and_assoc]
    · obtain ⟨i, hi⟩ := settleProbe_pocket_self (s := s) s.stc.huntNext r (by omega) hpa
      exact congrArg (fun k : Pocket => { k with door := (s.pocket p).door, indicator := (s.pocket p).indicator }) hi
    · show ({ settleProbe s.stc.huntNext r s with stc := _ } : State) = _
      rw [hrest]

end Sys2Proof.Machine

/-! PROOFS. The station link's NEED and CANCEL, STAGE and COMMIT (O55, O56). -/

namespace Sys2Proof.Machine

open Sys2Proof

variable {s t : State} {p q : PocketNo}

/-! ### Seek numbers (R113) -/

/-- R113: the first number after n that is not held, or the last one tried. -/
theorem nextSeek_spec (held : List SeekNo) (fuel n : Nat) :
    ∃ j, j ≤ fuel ∧ nextSeek held fuel n = (n + 1 + j) % 256 ∧ (∀ i, i < j → (n + 1 + i) % 256 ∈ held) ∧
      (j < fuel → (n + 1 + j) % 256 ∉ held) := by
  induction fuel generalizing n with
  | zero => exact ⟨0, Nat.le_refl 0, by rw [nextSeek, Nat.add_zero], fun i hi => absurd hi (Nat.not_lt_zero i), fun h => absurd h (Nat.lt_irrefl 0)⟩
  | succ fuel ih =>
    by_cases hheld : (n + 1) % 256 ∈ held
    · obtain ⟨j, hj, hnext, hbefore, hafter⟩ := ih ((n + 1) % 256)
      have hstep : ∀ i, ((n + 1) % 256 + 1 + i) % 256 = (n + 1 + (i + 1)) % 256 := fun i => by omega
      refine ⟨j + 1, by omega, ?_, fun i hi => ?_, fun h => ?_⟩
      · rw [nextSeek, if_pos (by simpa using hheld), hnext, hstep]
      · cases i with
        | zero => exact hheld
        | succ i => exact hstep i ▸ hbefore i (by omega)
      · exact hstep j ▸ hafter (by omega)
    · refine ⟨0, by omega, ?_, fun i hi => absurd hi (Nat.not_lt_zero i), fun _ => hheld⟩
      rw [nextSeek, if_neg (by simpa using hheld), Nat.add_zero]

/-- Eight numbers that follow each other are told apart modulo 256. -/
theorem not_all_held {held : List SeekNo} {n : Nat} (hl : held.length < 8) : ¬ ∀ i, i < 8 → (n + 1 + i) % 256 ∈ held := by
  intro h
  have hnodup : ((List.range 8).map (fun i => (n + 1 + i) % 256)).Nodup := by
    refine List.Nodup.map_on (fun x hx y hy hxy => ?_) List.nodup_range
    have := List.mem_range.1 hx
    have := List.mem_range.1 hy
    omega
  have hsub : ∀ x ∈ (List.range 8).map (fun i => (n + 1 + i) % 256), x ∈ held := by
    simp only [List.mem_map, List.mem_range]
    rintro x ⟨i, hi, rfl⟩
    exact h i hi
  have hle := (List.subperm_of_subset hnodup hsub).length_le
  simp at hle
  omega

/-- R113: the number NEED takes, with fewer than eight takers open. -/
theorem seekNext_spec (h : s.cue.takers.length < 8) :
    s.seekNext < 256 ∧ (∀ k ∈ s.cue.takers, k.seek ≠ s.seekNext) ∧
      (∀ i, i < (s.seekNext + 256 - (s.cue.seekCounter + 1) % 256) % 256 →
        ∃ k ∈ s.cue.takers, k.seek = (s.cue.seekCounter + 1 + i) % 256) := by
  obtain ⟨j, hj, hnext, hbefore, hafter⟩ := nextSeek_spec (s.cue.takers.map (·.seek)) 8 s.cue.seekCounter
  have hlt : j < 8 := by
    rcases Nat.lt_or_eq_of_le hj with h8 | rfl
    · exact h8
    · exact absurd hbefore (not_all_held (by simpa using h))
  have hn : s.seekNext = (s.cue.seekCounter + 1 + j) % 256 := hnext
  have hdist : (s.seekNext + 256 - (s.cue.seekCounter + 1) % 256) % 256 = j := by
    rw [hn]
    generalize s.cue.seekCounter = c at *
    have hc : ∀ c : Nat, ((c + 1 + j) % 256 + 256 - (c + 1) % 256) % 256 = j := fun c => by omega
    exact hc c
  refine ⟨?_, fun k hk he => hafter hlt ?_, fun i hi => ?_⟩
  · rw [hn]
    exact Nat.mod_lt _ (by decide)
  · rw [← hn, ← he]
    exact List.mem_map_of_mem hk
  · obtain ⟨k, hk, he⟩ := List.mem_map.1 (hbefore i (hdist ▸ hi))
    exact ⟨k, hk, he⟩

/-! ### NEED and CANCEL (R113, R115, R123) -/

theorem respond_plain (code : Nat) (r : ResultCode) (s : State) : respond code (plain r s) = s.replied code r .none := rfl

theorem exec_need (hs : s.takesCommands) (wt w m l : Nat) : exec (.need p wt w m l) s = .next (respond 0x12 (need p wt w m l s)) :=
  congrArg Host.Outcome.next (command_of_takesCommands hs _ _)

theorem exec_cancel (hs : s.takesCommands) (p : PocketNo) : exec (.cancel p) s = .next (respond 0x13 (cancel p s)) :=
  congrArg Host.Outcome.next (command_of_takesCommands hs _ _)

theorem needable_iff : s.needable p = true ↔ p < 48 ∧ s.isMagazine p = true ∧ s.moduleActive p = true ∧ (s.pocket p).state = .empty ∧
    (s.pocket p).hold = false ∧ ∀ k ∈ s.cue.takers, k.pocket ≠ p := by
  simp only [State.needable, Bool.and_eq_true, targetable_iff, List.all_eq_true, Bool.not_eq_true', decide_eq_false_iff_not]
  tauto

theorem need_checked {wt w' m' : Nat} {w : Want} {m : SeekMode} (hw : wantOfCodes wt w' = some w) (hm : modeOfCode m' = some m)
    (hp : s.needable p = true) (l : Nat) :
    need p wt w' m' l s =
      if s.openTransfers < 8 ∧ s.hli.urgent.length < 8 then openTaker p w m l s else plain .busy s := by
  by_cases ho : s.openTransfers < 8 <;> by_cases hu : s.hli.urgent.length < 8 <;>
    simp [need, hw, hm, hp, ho, hu, State.urgentSpace]

theorem handSeek_eq (hu : s.hli.urgent.length < 8) (hn : s.stc.node ≠ .idConflict) (k : Taker) :
    handSeek k s = pushUrgent k.lastFrame (.taker k.seek) s := if_pos (urgentTakes_iff.2 ⟨hu, hn⟩)

/-- R115: the taker transfer that NEED opens, its SEEK handed over. -/
theorem openTaker_eq (hu : s.hli.urgent.length < 8) (hn : s.stc.node ≠ .idConflict) (p : PocketNo) (w : Want) (m : SeekMode) (l : Nat) :
    openTaker p w m l s =
      ⟨pushUrgent (.seek s.seekNext w m l) (.taker s.seekNext) { s with cue := { s.cue with
        takers := s.cue.takers ++ [newTaker s.seekNext p w m l], seekCounter := s.seekNext } }, .ok, .seek s.seekNext⟩ :=
  congrArg (fun x => Answer.mk x .ok (.seek s.seekNext)) (handSeek_eq (s := { s with cue := { s.cue with
    takers := s.cue.takers ++ [newTaker s.seekNext p w m l], seekCounter := s.seekNext } }) hu hn _)

theorem takerAt?_ids {k : Taker} (h : s.takerAt? p = some k) : k ∈ s.cue.takers ∧ k.pocket = p := by
  have hm := List.find?_some h
  simp only [beq_iff_eq] at hm
  exact ⟨List.mem_of_find?_eq_some h, hm⟩

theorem cancel_eq {k : Taker} (h : s.takerAt? p = some k) : cancel p s = plain .ok (settleReader (cancelTaker k s)) := by
  simp [cancel, h]

theorem cancelTaker_targeting {k : Taker} {o : Offer} (h : k.state ≠ .seeking) (ho : k.current = some o) :
    cancelTaker k s = untarget k.pocket (closeTaker k (sendLapse o.station k.seek .withdrawn (.taker k.seek) s)) := by
  cases hs : k.state <;> simp_all [cancelTaker]

/-- Settles O55: NEED through its checks and the seek number it takes, CANCEL by the transfer of the pocket. -/
theorem needAndCancel : Obligations.NeedAndCancel := by
  refine ⟨fun p wt w' m' l s hs => ⟨fun h => ?range, needable_iff, fun w m hw hm => ⟨fun hp => ?badPocket, fun hp h => ?busy,
    fun hp ho hu hn => ?opens⟩⟩, fun p s hs => ⟨fun h => ?noTaker, fun k hk hb => ⟨fun hst => ?seeking,
    fun o hst ho ha hlt hr hu hn hbd => ?past⟩⟩⟩
  case range =>
    rw [exec_need hs]
    rcases h with h | h <;> simp [need, h, respond_plain]
  case badPocket => rw [exec_need hs]; simp [need, hw, hm, hp, respond_plain]
  case busy => rw [exec_need hs, need_checked hw hm hp, if_neg (by omega), respond_plain]
  case opens =>
    have htk : s.cue.takers.length < 8 := by
      unfold State.openTransfers at ho
      omega
    obtain ⟨h1, h2, h3⟩ := seekNext_spec htk
    refine ⟨s.seekNext, rfl, h1, h2, h3, ?_⟩
    rw [exec_need hs, need_checked hw hm hp, if_pos ⟨ho, hu⟩, openTaker_eq hu hn]
    rfl
  case noTaker => rw [exec_cancel hs]; simp [cancel, h, respond_plain]
  case seeking =>
    have hc : cancelTaker k s = closeTaker k s := by simp [cancelTaker, hst]
    rw [exec_cancel hs, cancel_eq hk, hc, settleReader_of_busy (s := closeTaker k s) hb]
    rfl
  case past =>
    obtain ⟨-, rfl⟩ := takerAt?_ids hk
    have hc : cancelTaker k s = modPocket k.pocket Pocket.toEmpty
        (closeTaker k (sendLapse o.station k.seek .withdrawn (.taker k.seek) s)) := by
      rw [cancelTaker_targeting hst ho, sendLapse_eq hu hn]
      exact untarget_eq (s := closeTaker k _) ha hr
    rw [sendLapse_eq hu hn] at hc
    set x : State := closeTaker k { s with hli := { s.hli with
      urgent := s.hli.urgent ++ [⟨.lapse o.station k.seek .withdrawn, .taker k.seek⟩] } }
    rw [exec_cancel hs, cancel_eq hk, hc, settleReader_of_busy (s := modPocket k.pocket Pocket.toEmpty x) hb]
    have hself := pocket_modPocket_self (s := x) Pocket.toEmpty (hbd.pocket_lt hlt)
    exact ⟨_, rfl, rfl, rfl, congrArg Pocket.state hself, congrArg Pocket.latch hself,
      congrArg Pocket.target hself, fun q hq => pocket_modPocket_ne hq _ _,
      rfl, rfl, rfl, rfl, rfl, rfl⟩

/-! ### STAGE (R158 to R160) -/

theorem exec_stage (hs : s.takesCommands) (p : PocketNo) : exec (.stage p) s = .next (respond 0x14 (stage p s)) :=
  congrArg Host.Outcome.next (command_of_takesCommands hs _ _)

theorem magazinePocket_iff : s.magazinePocket p = true ↔ s.present p = true ∧ s.isMagazine p = true := by
  simp [State.magazinePocket]

theorem stockedVerified_iff : s.stockedVerified p = true ↔
    (s.pocket p).state = .stocked ∧ (s.pocket p).openRelease = false ∧ (s.pocket p).verified = true := by
  simp [State.stockedVerified, and_assoc]

theorem wearOf_eq (k : KindEntry) (used : Nat) :
    wearOf k used = if k.wearLimit < k.wearRate * used / 100 then k.wearLimit else k.wearRate * used / 100 := by
  unfold wearOf
  split <;> omega

/-- R159: what a READY tool with life delivers. -/
theorem delivery_eq {e : Entry} {pr : Preset} {k : KindEntry} (hp : e.preset = some pr) (hk : s.kind? e.kind = some k)
    (hc : e.condition = .ready) (hl : 0 < e.life) :
    s.delivery e = some (deliveredLength k pr.cl e.used, pr.cr, wearOf k e.used) := by
  simp [State.delivery, hp, hk, hc, hl]

theorem delivery_none {e : Entry} (h : e.condition ≠ .ready ∨ e.life = 0 ∨ e.preset = none ∨ s.kind? e.kind = none) :
    s.delivery e = none := by
  unfold State.delivery
  split
  · next pr k hp hk =>
    rw [if_neg]
    rintro ⟨hc, hl⟩
    rcases h with h | h | h | h
    · exact h hc
    · omega
    · rw [hp] at h; exact absurd h (by simp)
    · rw [hk] at h; exact absurd h (by simp)
  · rfl

/-- R158: STAGE of a magazine pocket whose tool stands there verified, by what its entry delivers. -/
theorem stage_checked (hq : s.slk.sticky.seqError = false) (hp : s.present p = true) (hm : s.isMagazine p = true)
    (hv : s.stockedVerified p = true) :
    stage p s = ((s.stageable p).bind (fun e => (s.delivery e).map (fun d => fillStage p e d.1 d.2.1 d.2.2 s))).getD
      (plain .noTool s) := by
  unfold stage
  simp only [hq, magazinePocket_iff.2 ⟨hp, hm⟩, hv]
  cases s.stageable p with
  | none => rfl
  | some e => cases hd : s.delivery e <;> simp [hd]

theorem stageable_eq {u : ToolId} {e : Entry} (hc : (s.pocket p).contents = some u) (he : s.entry? u = some e)
    (hst : e.custody = .stocked) (hpk : e.pocket = some p) (hch : s.checkPending u = false) (hw : s.windowOpen u = false) :
    s.stageable p = some e := by
  have ht := tool_of_entry? he
  subst ht
  simp [State.stageable, hc, he, hst, hpk, hch, hw]

theorem stageable_none (h : (s.pocket p).contents = none ∨
    ∃ u, (s.pocket p).contents = some u ∧ (s.entry? u = none ∨
      ∃ e, s.entry? u = some e ∧ e.tool = u ∧ (e.custody ≠ .stocked ∨ e.pocket ≠ some p ∨ s.checkPending u = true ∨
        s.windowOpen u = true))) : s.stageable p = none := by
  rcases h with h | ⟨u, hu, h | ⟨e, he, rfl, h⟩⟩
  · simp [State.stageable, h]
  · simp [State.stageable, hu, h]
  · unfold State.stageable
    rw [hu, Option.bind_some, he]
    refine if_neg ?_
    rintro ⟨h1, h2, h3, h4⟩
    rcases h with h | h | h | h
    · exact h h1
    · exact h h2
    · exact absurd (h3.symm.trans h) (by decide)
    · exact absurd (h4.symm.trans h) (by decide)

/-! ### COMMIT (R161, R162) -/

theorem exec_commit (hs : s.takesCommands) (p : PocketNo) (token : Nat) :
    exec (.commit p token) s = .next (respond 0x15 (commit p token s)) :=
  congrArg Host.Outcome.next (command_of_takesCommands hs _ _)

/-- R161: a COMMIT that the stage matches, by whether it is still fresh. -/
theorem commit_matched {g : Stage} (hq : s.slk.sticky.seqError = false) (hg : s.slk.stage = some g) :
    commit g.pocket g.token s = commitStage g s := by
  simp [commit, hq, hg]

theorem stageFresh_iff (g : Stage) : s.stageFresh g = true ↔
    g.disturbed = false ∧ s.stockedVerified g.pocket = true ∧ ∃ e, s.entry? g.tool = some e ∧ e.custody = .stocked ∧
      e.pocket = some g.pocket ∧ e.version = g.version ∧ (s.delivery e).map (fun d => d.1) = some g.length := by
  unfold State.stageFresh
  cases h : s.entry? g.tool with
  | none => simp
  | some e => simp [and_assoc]

/-- Settles O56: the checks of STAGE in their order, and of COMMIT with the freshness of its stage. -/
theorem stageAndCommit : Obligations.StageAndCommit := by
  refine ⟨fun p s hs => ⟨fun hq => ?seq, fun hq h => ?badPocket, fun hq hp hm h => ?unverified, fun hq hp hm h => ?unsettled,
    fun u e pr k hq hp hm hst ho hv hc he hcu hpk hch hw => ⟨fun h => ?undelivered, fun hcond hl hpr hk => ?staged⟩⟩,
    fun p token s hs => ⟨fun hq => ?commitSeq, fun hq h => ?mismatch, fun g hq hg hp ht => ?matched⟩⟩
  case seq => rw [exec_stage hs, stage, if_pos hq, respond_plain]
  case badPocket =>
    have hmag : s.magazinePocket p = false := by
      rw [← Bool.not_eq_true, magazinePocket_iff]
      rcases h with h | h <;> simp [h]
    rw [exec_stage hs]
    simp [stage, hq, hmag, respond_plain]
  case unverified =>
    have hver : s.stockedVerified p = false := by
      rw [← Bool.not_eq_true, stockedVerified_iff]
      rcases h with h | h | h <;> simp [h]
    rw [exec_stage hs]
    simp [stage, hq, magazinePocket_iff.2 ⟨hp, hm⟩, hver, respond_plain]
  case unsettled =>
    rw [exec_stage hs]
    by_cases hv : s.stockedVerified p = true
    · rw [stage_checked hq hp hm hv, stageable_none h]
      rfl
    · simp [stage, hq, magazinePocket_iff.2 ⟨hp, hm⟩, hv, respond_plain]
  case undelivered =>
    rw [exec_stage hs, stage_checked hq hp hm (stockedVerified_iff.2 ⟨hst, ho, hv⟩), stageable_eq hc he hcu hpk hch hw,
      Option.bind_some, delivery_none h]
    rfl
  case staged =>
    refine ⟨wearOf k e.used, nextToken s.slk.token, wearOf_eq k e.used, rfl, ?_⟩
    rw [exec_stage hs, stage_checked hq hp hm (stockedVerified_iff.2 ⟨hst, ho, hv⟩), stageable_eq hc he hcu hpk hch hw,
      Option.bind_some, delivery_eq hpr hk hcond hl, ← tool_of_entry? he]
    rfl
  case commitSeq => rw [exec_commit hs, commit, if_pos hq, respond_plain]
  case mismatch =>
    have hc : commit p token s = plain .seq (sequenceError s) := by
      rcases h with h | ⟨g, hg, h⟩
      · simp [commit, hq, h]
      · simp only [commit, hq, hg]
        simp
        intro h1 h2
        exact absurd h (by simp [h1, h2])
    rw [exec_commit hs, hc]
    rfl
  case matched =>
    subst hp ht
    have hstale : s.stageFresh g = false → exec (.commit g.pocket g.token) s =
        .next (State.replied { s with slk := { s.slk with stage := none } } 0x15 .stale .none) := fun hf => by
      rw [exec_commit hs, commit_matched hq hg, commitStage, if_neg (by simp [hf])]
      rfl
    refine ⟨fun h => hstale ?_, fun e pr k he hpr hk hne => hstale ?_, fun e pr k hd hst ho hv he hcu hpk hver hcond hpr hl hk hlen => ?_⟩
    · rw [← Bool.not_eq_true, stageFresh_iff, stockedVerified_iff]
      rintro ⟨h1, ⟨h2, h3, h4⟩, e, he, h5, h6, h7, h8⟩
      rcases h with h | h | h | h | h | ⟨x, hx, h⟩
      · exact absurd (h1.symm.trans h) (by decide)
      · exact h h2
      · exact absurd (h3.symm.trans h) (by decide)
      · exact absurd (h4.symm.trans h) (by decide)
      · exact absurd (he.symm.trans h) (by simp)
      · obtain rfl : e = x := Option.some.inj (he.symm.trans hx)
        rcases h with h | h | h | h
        · exact h h5
        · exact h h6
        · exact h h7
        · rw [delivery_none (h.imp_right fun h => or_left_comm.1 h)] at h8
          exact absurd h8 (by simp)
    · rw [← Bool.not_eq_true, stageFresh_iff]
      rintro ⟨-, -, x, hx, -, -, -, h8⟩
      obtain rfl : e = x := Option.some.inj (he.symm.trans hx)
      by_cases hd : e.condition = .ready ∧ 0 < e.life
      · rw [delivery_eq hpr hk hd.1 hd.2] at h8
        exact hne (Option.some.inj h8)
      · rw [delivery_none (by rcases not_and_or.1 hd with h | h <;> simp_all)] at h8
        exact absurd h8 (by simp)
    · have hfresh : s.stageFresh g = true := stageFresh_iff g |>.2
        ⟨hd, stockedVerified_iff.2 ⟨hst, ho, hv⟩, e, he, hcu, hpk, hver, by rw [delivery_eq hpr hk hcond hl]; exact congrArg some hlen⟩
      rw [exec_commit hs, commit_matched hq hg, commitStage, if_pos hfresh]
      rfl

end Sys2Proof.Machine

/-! PROOFS. The Preset Queue and the indicators that follow its head, versioned changes of a tool in a pocket, deletions; TOOL, FORGET
and the other commands that need the key (O59, O60). -/

namespace Sys2Proof.Machine

open Sys2Proof

variable {s t : State} {p q : PocketNo} {u : ToolId}

/-! ### Pockets that differ by their indicator alone (R37) -/

/-- R37: the indicator is formed anew from the rest of a pocket; k' is k but for it. -/
def Pocket.Alike (k k' : Pocket) : Prop := ∃ i, k' = { k with indicator := i }

theorem Pocket.Alike.refl (k : Pocket) : k.Alike k := ⟨k.indicator, rfl⟩

theorem Pocket.Alike.of_eq {k k' : Pocket} (h : k' = k) : k.Alike k' := h ▸ Pocket.Alike.refl k

theorem Pocket.Alike.trans {a b c : Pocket} (h1 : a.Alike b) (h2 : b.Alike c) : a.Alike c := by
  obtain ⟨i, rfl⟩ := h1
  obtain ⟨j, rfl⟩ := h2
  exact ⟨j, rfl⟩

theorem Pocket.Alike.congr {a b : Pocket} (h : a.Alike b) {α : Type} (g : Pocket → α)
    (hg : ∀ k i, g { k with indicator := i } = g k := by intros; rfl) : g b = g a := by
  obtain ⟨i, rfl⟩ := h
  exact hg a i

/-- A change of one pocket, up to the indicator. -/
theorem modPocket_alike {f : Pocket → Pocket} (hp : p < s.pkc.pockets.length) : (f (s.pocket p)).Alike ((modPocket p f s).pocket p) :=
  ⟨_, pocket_modPocket_self f hp⟩

variable {a b : Pocket}

theorem Pocket.Alike.map {f : Pocket → Pocket} (h : a.Alike b)
    (hf : ∀ k i, f { k with indicator := i } = { f k with indicator := i } := by intros; rfl) : (f a).Alike (f b) := by
  obtain ⟨i, rfl⟩ := h
  exact ⟨i, hf a i⟩

theorem Pocket.Alike.modPocket {f : Pocket → Pocket} (h : a.Alike (s.pocket p)) (hp : p < s.pkc.pockets.length)
    (hf : ∀ k i, f { k with indicator := i } = { f k with indicator := i } := by intros; rfl) :
    (f a).Alike ((modPocket p f s).pocket p) :=
  (h.map hf).trans (modPocket_alike hp)

theorem Pocket.Alike.requestRead (h : a.Alike (s.pocket p)) (hp : p < s.pkc.pockets.length) :
    ({ a with readRequested := true } : Pocket).Alike ((requestRead p s).pocket p) := by
  rw [requestRead_pocket_self hp]
  exact (h.map (f := fun k => { k with readRequested := true })).trans ⟨_, rfl⟩

theorem Pocket.Alike.clearMark (h : a.Alike (s.pocket p)) (hp : p < s.pkc.pockets.length) (u : Option ToolId) :
    ({ a with mark := none } : Pocket).Alike ((clearMark p u s).pocket p) := by
  obtain ⟨i, hi⟩ := clearMark_pocket_self hp u
  rw [hi]
  exact (h.map (f := fun k => { k with mark := none })).trans ⟨i, rfl⟩

theorem refreshIndicators_alike (p : PocketNo) (s : State) : (s.pocket p).Alike ((refreshIndicators s).pocket p) := by
  by_cases hp : p < s.pkc.pockets.length
  · refine ⟨(s.pocket p).derivedIndicator s.presetHead, ?_⟩
    simp [State.pocket, hp]
  · refine ⟨(s.pocket p).indicator, ?_⟩
    simp [State.pocket, hp]

theorem setPresetQueue_alike (l : List ToolId) (p : PocketNo) (s : State) : (s.pocket p).Alike ((setPresetQueue l s).pocket p) :=
  refreshIndicators_alike p { s with pru := { s.pru with queue := l } }

theorem presetRemove_alike (u : ToolId) (p : PocketNo) (s : State) : (s.pocket p).Alike ((presetRemove u s).pocket p) := by
  unfold presetRemove
  split
  · exact setPresetQueue_alike _ p s
  · exact .refl _

theorem presetReport_alike (u : ToolId) (p : PocketNo) (s : State) : (s.pocket p).Alike ((presetReport u s).pocket p) := by
  unfold presetReport
  split
  · split
    · split
      · exact .refl _
      · split
        · exact setPresetQueue_alike _ p s
        · exact .refl _
    · exact presetRemove_alike u p s
  · exact presetRemove_alike u p s

theorem not_mem_presetRemove (u : ToolId) (s : State) : u ∉ (presetRemove u s).pru.queue := by
  unfold presetRemove
  split
  · simp
  · next h => simpa using h

/-- R85: a tool whose condition asks for no preset leaves the Preset Queue. -/
theorem presetReport_leaves {e : Entry} (h : s.entry? u = some e) (hq : e.condition.queued = false) : presetReport u s = presetRemove u s := by
  simp [presetReport, h, hq]

/-- R86: a tool that asks for a preset joins the Preset Queue at its tail. -/
theorem presetReport_joins {e : Entry} (h : s.entry? u = some e) (hh : e.custody ≠ .foreign) (hq : e.condition.queued = true)
    (hn : u ∉ s.pru.queue) (hl : s.pru.queue.length < 32) : presetReport u s = setPresetQueue (s.pru.queue ++ [u]) s := by
  simp [presetReport, h, hq, Entry.here_iff.2 hh, hn, hl]

/-! ### Versioned changes (R8, R164) -/

theorem versioned_alike {e : Entry} (h : s.entry? u = some e) (f : Entry → Entry) (p : PocketNo) :
    ((clearEntryMark e s).pocket p).Alike ((versioned u f s).pocket p) := by
  have hrec : ∀ e' : Entry, (handRecord u (putEntry e' (clearEntryMark e s))).pocket p = (clearEntryMark e s).pocket p := fun e' =>
    (State.pocket_of_pkc (by simp) p).trans rfl
  simp only [versioned, h]
  split
  · exact .of_eq (hrec _)
  · exact hrec _ ▸ presetReport_alike u p _

theorem clearEntryMark_pocket_ne {e : Entry} (h : e.pocket ≠ some p) : (clearEntryMark e s).pocket p = s.pocket p := by
  cases hp : e.pocket with
  | none => rw [clearEntryMark_none hp]
  | some q => rw [clearEntryMark_some hp, clearMark_pocket_ne (fun he => h (hp.trans (congrArg some he.symm)))]

/-- R164: a versioned change clears the mark of the pocket its tool stands in, and nothing else there. -/
theorem versioned_pocket_self {e : Entry} (h : s.entry? u = some e) (hp : e.pocket = some p) (hlen : p < s.pkc.pockets.length)
    (f : Entry → Entry) : ({ s.pocket p with mark := none } : Pocket).Alike ((versioned u f s).pocket p) := by
  obtain ⟨i, hi⟩ := clearMark_pocket_self hlen (some e.tool)
  refine Pocket.Alike.trans ⟨i, ?_⟩ (versioned_alike h f p)
  rw [clearEntryMark_some hp, hi]

theorem versioned_pocket_ne {e : Entry} (h : s.entry? u = some e) (hp : e.pocket ≠ some p) (f : Entry → Entry) :
    (s.pocket p).Alike ((versioned u f s).pocket p) :=
  clearEntryMark_pocket_ne hp ▸ versioned_alike h f p

theorem versioned_slk {e : Entry} (h : s.entry? u = some e) (hp : e.pocket = none) (f : Entry → Entry) :
    (versioned u f s).slk = s.slk := by
  simp only [versioned, h, clearEntryMark_none hp]
  split <;> simp

/-- R85: a versioned change to a condition that asks for no preset takes the tool off the Preset Queue. -/
theorem not_mem_queue_versioned {e : Entry} {f : Entry → Entry} (hb : s.Bounded) (h : s.entry? u = some e) (ha : s.adoptionOpen u = false)
    (ht : (f e).tool = e.tool) (hc : (f e).condition ≠ e.condition) (hq : (f e).condition.queued = false) :
    u ∉ (versioned u f s).pru.queue := by
  have hput : (handRecord u (putEntry { f e with version := e.version + 1 } (clearEntryMark e s))).entry? u =
      some { f e with version := e.version + 1 } := by
    rw [entry?_of_trg (handRecord_frame _ _).1]
    exact entry?_putEntry_of_tool (by simpa using hb.register) (ht.trans (tool_of_entry? h))
  rw [versioned_eq h ha, if_neg hc, presetReport_leaves hput hq]
  exact not_mem_presetRemove u _

theorem withdrawGiver_none (h : s.giverOf? u = none) (c : GiverCause) : withdrawGiver c u s = s := by
  simp [withdrawGiver, h]

theorem giverOf?_of_cue (h : t.cue = s.cue) (u : ToolId) : t.giverOf? u = s.giverOf? u := by
  unfold State.giverOf?
  rw [h]

/-- R132: with no giver transfer of the tool, a change of condition is a versioned change and no more. -/
theorem versionedCondition_eq (h : s.giverOf? u = none) (f : Entry → Entry) : versionedCondition u f s = versioned u f s := by
  have hw : withdrawGiver .condition u (versioned u f s) = versioned u f s :=
    withdrawGiver_none ((giverOf?_of_cue (by simp) u).trans h) _
  unfold versionedCondition
  cases he : s.entry? u with
  | none => simp [versioned, he]
  | some e => simp only [hw, ite_self]

/-! ### TOOL, WITHHOLD and RELEASE (R173, R174) -/

theorem exec_tool (hs : s.takesCommands) (sel arg action : Nat) : exec (.tool sel arg action) s =
    .next (respond 0x19 ((if action = 0 then toolChecked sel arg toolReply else plain .range) s)) :=
  congrArg Host.Outcome.next (command_of_takesCommands hs _ _)

theorem exec_withhold (hs : s.takesCommands) (sel arg : Nat) (key : Bool) : exec (.toolWithhold sel arg key) s =
    .next (respond 0x19 (toolChecked sel arg (toolEntry key withhold) s)) :=
  congrArg Host.Outcome.next (command_of_takesCommands hs _ _)

theorem exec_release (hs : s.takesCommands) (sel arg : Nat) (key : Bool) : exec (.toolRelease sel arg key) s =
    .next (respond 0x19 (toolChecked sel arg (toolEntry key releaseTool) s)) :=
  congrArg Host.Outcome.next (command_of_takesCommands hs _ _)

variable {sel arg : Nat} {f : ToolSel → State → Answer} {x : ToolSel}

theorem toolChecked_range (h : selOfCodes sel arg = none) : toolChecked sel arg f s = plain .range s := by
  simp [toolChecked, h]

theorem toolChecked_fails {r : ResultCode} (h : selOfCodes sel arg = some x) (hc : s.selCheck x = some r) :
    toolChecked sel arg f s = plain r s := by
  simp [toolChecked, h, hc]

theorem toolChecked_passes (h : selOfCodes sel arg = some x) (hc : s.selCheck x = none) : toolChecked sel arg f s = f x s := by
  simp [toolChecked, h, hc]

/-- R173: the selectors and arguments out of range. -/
theorem selOfCodes_none (h : (sel ≠ 0 ∧ sel ≠ 1) ∨ (sel = 0 ∧ 48 < arg) ∨ (sel = 1 ∧ toolIdValid arg = false)) :
    selOfCodes sel arg = none := by
  rcases h with ⟨h0, h1⟩ | ⟨rfl, h⟩ | ⟨rfl, h⟩
  · unfold selOfCodes
    split
    · exact absurd rfl h0
    · exact absurd rfl h1
    · rfl
  · simp [selOfCodes, h]
  · simp [selOfCodes, h]

theorem pocketRecord_of_lt (h : p < 48) : s.pocketRecord p = s.pocket p := if_neg (Nat.ne_of_lt h)

theorem selEntry_of_lt (h : p < 48) : s.selEntry (.pocket p) = (s.pocket p).contents.bind s.entry? := if_neg (Nat.ne_of_lt h)

theorem selCheck_tool {e : Entry} (h : s.entry? u = some e) : s.selCheck (.tool u) = none := by simp [State.selCheck, h]

theorem selCheck_pocket (h : p < 48) (hp : (s.pocket p).state ≠ .absent ∨ (s.pocket p).contents.isSome = true) :
    s.selCheck (.pocket p) = none := by
  simp only [State.selCheck, State.toolPocket, pocketRecord_of_lt h]
  rcases hp with hp | hp <;> simp [hp]

theorem selCheck_gauge (h : s.pkc.gauge ≠ .absent) : s.selCheck (.pocket 48) = none := by
  simp [State.selCheck, State.toolPocket, State.pocketRecord, h]

/-- R173: the entry that a selection of a tool stands for. -/
theorem selected {e : Entry} (he : s.entry? u = some e)
    (h : x = .tool u ∨ (∃ p, x = .pocket p ∧ p < 48 ∧ (s.pocket p).contents = some u) ∨
      (x = .pocket 48 ∧ s.pkc.gauge ≠ .absent ∧
        s.trg.entries.find? (fun f => decide (f.custody = .atGauge)) = some e)) :
    s.selCheck x = none ∧ s.selEntry x = some e := by
  rcases h with rfl | ⟨p, rfl, hp, hc⟩ | ⟨rfl, hg, hf⟩
  · exact ⟨selCheck_tool he, he⟩
  · exact ⟨selCheck_pocket hp (.inr (by simp [hc])), by rw [selEntry_of_lt hp, hc, Option.bind_some, he]⟩
  · exact ⟨selCheck_gauge hg, hf⟩

theorem toolEntry_missing {key : Bool} {f : Entry → State → Option State} (h : s.selEntry x = none) :
    toolEntry key f x s = plain .noTool s := by
  simp [toolEntry, h]

theorem toolEntry_keyless {e : Entry} {f : Entry → State → Option State} (h : s.selEntry x = some e) :
    toolEntry false f x s = plain .keyRequired s := by
  simp [toolEntry, h]

/-- R174: with the key on, a selected custody entry is changed, or the change refused. -/
theorem toolEntry_keyed {e : Entry} {f : Entry → State → Option State} (h : s.selEntry x = some e) (hh : e.custody ≠ .foreign) :
    toolEntry true f x s = ((f e s).map (toolReply x)).getD (plain .refused s) := by
  simp only [toolEntry, h, Entry.here_iff.2 hh]
  cases f e s <;> rfl

theorem toolEntry_refused {e : Entry} {f : Entry → State → Option State} (h : s.selEntry x = some e)
    (hf : e.custody = .foreign ∨ f e s = none) : toolEntry true f x s = plain .refused s := by
  by_cases hh : e.custody = .foreign
  · simp [toolEntry, h, Entry.here, hh]
  · rw [toolEntry_keyed h hh, hf.resolve_left hh]
    rfl

/-- Settles O59: TOOL by its selector, WITHHOLD and RELEASE by the entry selected and its condition. -/
theorem toolActs : Obligations.ToolActs := by
  refine ⟨fun arg action s hs => ⟨fun sel h => ?range, fun sel key h => ?keyedRange, fun hv he => ?noTool, fun e hv he => ?byTool,
    fun hlt ha hc => ?badPocket, fun hlt hp => ⟨?byPocket, fun hn key => ?emptyPocket⟩, fun hg => ?noGauge, fun hg => ?byGauge⟩,
    fun sel arg x u e s hs hb hx he hsel => ?selected⟩
  case range =>
    rw [exec_tool hs]
    by_cases ha : action = 0
    · rw [if_pos ha, toolChecked_range (selOfCodes_none (by rcases h with ⟨h0, -⟩ | ⟨-, h⟩ <;> [exact absurd ha h0; exact h])), respond_plain]
    · rw [if_neg ha, respond_plain]
  case keyedRange =>
    rw [exec_withhold hs, exec_release hs, toolChecked_range (selOfCodes_none h), toolChecked_range (selOfCodes_none h), respond_plain]
    exact ⟨rfl, rfl⟩
  case noTool =>
    have hcode : selOfCodes 1 arg = some (.tool arg) := if_pos hv
    have hc : s.selCheck (.tool arg) = some .noTool := by simp [State.selCheck, he]
    refine ⟨?_, fun key => ⟨?_, ?_⟩⟩
    · rw [exec_tool hs, if_pos rfl, toolChecked_fails hcode hc, respond_plain]
    · rw [exec_withhold hs, toolChecked_fails hcode hc, respond_plain]
    · rw [exec_release hs, toolChecked_fails hcode hc, respond_plain]
  case byTool =>
    have hcode : selOfCodes 1 arg = some (.tool arg) := if_pos hv
    rw [exec_tool hs, if_pos rfl, toolChecked_passes hcode (selCheck_tool he)]
    by_cases hin : e.custody.inPocket <;> simp [toolReply, respond, State.replied, State.toolParts, State.selPocket, State.selEntry,
      State.entryPart, he, hin]
  case badPocket =>
    have hcode : selOfCodes 0 arg = some (.pocket arg) := if_pos (Nat.le_of_lt hlt)
    have hck : s.selCheck (.pocket arg) = some .badPocket := by
      simp [State.selCheck, State.toolPocket, pocketRecord_of_lt hlt, ha, hc]
    rw [exec_tool hs, if_pos rfl, toolChecked_fails hcode hck, respond_plain]
  case byPocket =>
    have hcode : selOfCodes 0 arg = some (.pocket arg) := if_pos (Nat.le_of_lt hlt)
    rw [exec_tool hs, if_pos rfl, toolChecked_passes hcode (selCheck_pocket hlt hp)]
    simp [toolReply, respond, State.replied, State.toolParts, State.selPocket, selEntry_of_lt hlt, pocketRecord_of_lt hlt]
    rfl
  case emptyPocket =>
    have hcode : selOfCodes 0 arg = some (.pocket arg) := if_pos (Nat.le_of_lt hlt)
    have hnone : s.selEntry (.pocket arg) = none := (selEntry_of_lt hlt).trans hn
    rw [exec_withhold hs, exec_release hs, toolChecked_passes hcode (selCheck_pocket hlt hp),
      toolChecked_passes hcode (selCheck_pocket hlt hp), toolEntry_missing hnone, toolEntry_missing hnone, respond_plain]
    exact ⟨rfl, rfl⟩
  case noGauge =>
    have hck : s.selCheck (.pocket 48) = some .badPocket := by
      simp [State.selCheck, State.toolPocket, State.pocketRecord, hg, Pocket.vacant]
    rw [exec_tool hs, if_pos rfl, toolChecked_fails (by rfl) hck, respond_plain]
  case byGauge =>
    rw [exec_tool hs, if_pos rfl, toolChecked_passes (x := .pocket 48) (by rfl) (selCheck_gauge hg)]
    rfl
  case selected =>
    obtain ⟨hck, hent⟩ := selected he hsel
    obtain rfl := tool_of_entry? he
    rw [exec_withhold hs, exec_withhold hs, exec_release hs, exec_release hs]
    simp only [toolChecked_passes hx hck]
    refine ⟨by rw [toolEntry_keyless hent, respond_plain], by rw [toolEntry_keyless hent, respond_plain], fun h => ⟨?_, ?_⟩,
      fun hh hne => ?_, fun hh hop ha => ⟨?_, ?_⟩, fun hh hnd hno hg ha hbusy => ?_⟩
    · rw [toolEntry_refused hent (h.imp_right fun h => by simp [withhold, h]), respond_plain]
    · rw [toolEntry_refused hent (h.imp_right fun h => by simp [releaseTool, h]), respond_plain]
    · rw [toolEntry_refused hent (.inr (by unfold releaseTool; split <;> simp_all)), respond_plain]
    · have hw : withhold e s = some s := by simp [withhold, hop]
      rw [toolEntry_keyed hent hh, hw]
      rfl
    · set y := versioned e.tool (fun e => { e with condition := .needsPreset }) s with hy
      have hr : releaseTool e s = some y := by simp [releaseTool, hop, hy]
      rw [toolEntry_keyed hent hh, hr]
      exact ⟨y, rfl, versioned_entry_self hb he ha rfl, fun v hv => versioned_entry_ne hb he ha (by rfl) hv, by simp [hy], by simp [hy],
        by simp [hy], by simp [hy]⟩
    · set y := versioned e.tool (fun e => { e with condition := .quarantine .operator }) s with hy
      have hw : withhold e s = some y := by
        have hb' : y.readerBusy := hbusy.of_rds (by simp [hy]) (by simp [hy])
        have hset : settleReader (versionedCondition e.tool (fun e => { e with condition := .quarantine .operator }) s) = y := by
          rw [versionedCondition_eq hg, settleReader_of_busy hb']
        unfold withhold
        split <;> simp_all
      rw [toolEntry_keyed hent hh, hw]
      refine ⟨y, rfl, versioned_entry_self hb he ha rfl, fun v hv => versioned_entry_ne hb he ha (by rfl) hv,
        not_mem_queue_versioned hb he ha rfl (Ne.symm hno) rfl, by simp [hy], by simp [hy], by simp [hy], by simp [hy], fun hp => ⟨versioned_slk he hp _, fun p => ?_⟩,
        fun p hp hlt => ?_⟩
      · exact (versioned_pocket_ne he (by simp [hp]) _).congr Pocket.mark
      · exact (versioned_pocket_self he hp (hb.pocket_lt hlt) _).congr Pocket.mark

/-! ### Deletions (R13) -/

/-- R13: the deletion of a custody entry that no transfer, window or queue names. -/
theorem deleteEntry_eq {e : Entry} (he : s.entry? u = some e) (hh : e.custody ≠ .foreign) (hgz : e.custody ≠ .atGauge)
    (hg : s.giverOf? u = none) (hq : u ∉ s.pru.queue) (hw : s.window? u = none) (hwait : s.cue.waiting = []) :
    deleteEntry u s = withdrawRecord u (dropEntry u (vacateEntry e (clearEntryMark e s))) := by
  set x := withdrawRecord u (dropEntry u (vacateEntry e (clearEntryMark e s))) with hx
  have hcue : x.cue = s.cue := by simp [hx]
  have hpru : x.pru = s.pru := by simp [hx]
  have hwx : x.window? u = none := by rw [State.window?, hcue]; exact hw
  have hclose : closeWindow u (closeTransitCheck u x) = x := by
    rw [closeTransitCheck_eq (by rw [hcue, hwait]) hwx, closeWindow_eq (by rw [hcue, hwait]), filter_of_window?_none hwx]
  have hgiv : withdrawGiver .deleted u (clearEntryMark e s) = clearEntryMark e s :=
    withdrawGiver_none ((giverOf?_of_cue (by simp) u).trans hg) _
  have hpre : presetRemove u x = x := presetRemove_absent (by simpa [hpru] using hq)
  simp only [deleteEntry, he, Entry.here_iff.2 hh, hgz, hgiv, ← hx, hpre, if_false, if_true]
  exact hclose

theorem deleteEntry_cached {e : Entry} (he : s.entry? u = some e) (hf : e.custody = .foreign) : deleteEntry u s = dropEntry u s := by
  simp [deleteEntry, he, Entry.here, hf]

theorem dropVacated_none (h : ∀ p, p < 48 → (s.pocket p).vacated = none) (u : ToolId) : dropVacated u s = s := by
  have key : ∀ l : List Nat, (∀ p ∈ l, p < 48) → l.foldl (fun s p =>
      if (s.pocket p).vacated.map (·.tool) = some u then
        requestRead p (modPocket p (fun k => { k with vacated := none }) s)
      else s) s = s := by
    intro l
    induction l with
    | nil => exact fun _ => rfl
    | cons p l ih =>
      intro hl
      rw [List.foldl_cons, if_neg (by simp [h p (hl p List.mem_cons_self)])]
      exact ih fun q hq => hl q (List.mem_cons_of_mem p hq)
  exact key _ fun p hp => List.mem_range.1 hp

theorem forgetWaiting_none (h : s.cue.waiting = []) (u : ToolId) : forgetWaiting u s = s := by
  have hcue : { s.cue with waiting := [] } = s.cue := h ▸ rfl
  simp only [forgetWaiting, h, List.filter_nil, List.foldl_nil, hcue]

theorem exec_forget (hs : s.takesCommands) (u : ToolId) (key : Bool) : exec (.forget u key) s = .next (respond 0x1E (forgetTool u key s)) :=
  congrArg Host.Outcome.next (command_of_takesCommands hs _ _)

theorem forgetTool_eq {e : Entry} (hv : toolIdValid u = true) (he : s.entry? u = some e) :
    forgetTool u true s = plain .ok (settleReader (forgetEntry e s)) := by
  simp [forgetTool, hv, he]

/-- R152: a tool off the gauge that is in no pocket here is forgotten by its deletion alone. -/
theorem forgetEntry_unplaced {e : Entry} (h : e.custody = .foreign ∨ e.pocket = none) (hgz : e.custody ≠ .atGauge)
    (hwait : s.cue.waiting = []) (hvac : ∀ p, p < 48 → ((deleteEntry e.tool s).pocket p).vacated = none) :
    forgetEntry e s = deleteEntry e.tool s := by
  rcases h with h | h
  · have hh : e.here = false := by simp [Entry.here, h]
    cases hp : e.pocket <;> simp [forgetEntry, forgetWaiting_none hwait, hgz, hh, hp, dropVacated_none hvac]
  · simp [forgetEntry, forgetWaiting_none hwait, hgz, h, dropVacated_none hvac]

/-- R152: the pocket of a forgotten custody entry is read again. -/
theorem forgetEntry_placed {e : Entry} (hh : e.custody ≠ .foreign) (hp : e.pocket = some p) (hgz : e.custody ≠ .atGauge)
    (hwait : s.cue.waiting = []) (hvac : ∀ q, q < 48 → ((rereadPocket p (deleteEntry e.tool s)).pocket q).vacated = none) :
    forgetEntry e s = rereadPocket p (deleteEntry e.tool s) := by
  simp [forgetEntry, forgetWaiting_none hwait, hgz, Entry.here_iff.2 hh, hp, dropVacated_none hvac]

/-- R13: the pocket that a STOCKED tool's deletion vacates. -/
theorem losesTool_stocked {k : Pocket} (h : k.state = .stocked) : k.losesTool = { k.toEmpty with verified := false } := by
  simp [Pocket.losesTool, h]

theorem losesTool_indicator (k : Pocket) (i : Indicator) : ({ k with indicator := i } : Pocket).losesTool = { k.losesTool with indicator := i } := by
  unfold Pocket.losesTool
  cases k.state <;> rfl

theorem rereadPocket_eq (h : (s.pocket p).state ≠ .fault ∧ (s.pocket p).state ≠ .absent) :
    rereadPocket p s = requestRead p (modPocket p (Pocket.toChecking .insert) s) := if_neg (by simp [h])

/-- Settles O60: HOLD and UNHOLD by presence and key, FORGET by the custody of the entry, SETCLOCK by range, trust and key. -/
theorem keyedCommandsAct : Obligations.KeyedCommandsAct := by
  refine ⟨fun p key s hs => ?hold, fun u key s hs => ⟨fun hv => ?range, fun hv hk => ?keyless, fun hv hk he => ?unknown,
    fun e hv hk he hf hb hwait hvac => ?cached, fun e hv hk he hb hwait hwin hg hq hvac => ⟨fun hc hp hbusy => ?outside,
    fun p hc hp hlt hst hread => ?stocked⟩⟩, fun y mo d h mi sec key s hs => ?clock⟩
  case hold =>
    have hexec : exec (.hold p key) s = .next (respond 0x1C (setHold p true key s)) ∧
        exec (.unhold p key) s = .next (respond 0x1D (setHold p false key s)) :=
      ⟨congrArg Host.Outcome.next (command_of_takesCommands hs _ _), congrArg Host.Outcome.next (command_of_takesCommands hs _ _)⟩
    rw [hexec.1, hexec.2]
    refine ⟨fun h => ?_, fun h hk => ?_, fun h hk => ?_⟩
    · simp [setHold, h, respond_plain]
    · simp [setHold, h, hk, respond_plain]
    · simp [setHold, h, hk, respond_plain]
  case range => rw [exec_forget hs]; simp [forgetTool, hv, respond_plain]
  case keyless => rw [exec_forget hs]; simp [forgetTool, hv, hk, respond_plain]
  case unknown => rw [exec_forget hs]; simp [forgetTool, hv, hk, he, respond_plain]
  case cached =>
    subst hk
    obtain rfl := tool_of_entry? he
    have hdel := deleteEntry_cached he hf
    have hfor := forgetEntry_unplaced (.inl hf) (by simp [hf]) hwait (by rw [hdel]; exact hvac)
    rw [exec_forget hs, forgetTool_eq hv he, hfor, hdel, settleReader_of_busy (s := dropEntry e.tool s) hb]
    rfl
  case outside =>
    subst hk
    obtain rfl := tool_of_entry? he
    have hh : e.custody ≠ .foreign := by rcases hc with h | h <;> simp [h]
    have hgz : e.custody ≠ .atGauge := by rcases hc with h | h <;> simp [h]
    have hdel := deleteEntry_eq he hh hgz hg hq (window?_of_windows_nil hwin _) hwait
    rw [clearEntryMark_none hp, vacateEntry, hp] at hdel
    have hfor := forgetEntry_unplaced (.inr hp) hgz hwait (by rw [hdel]; exact hvac)
    rw [exec_forget hs, forgetTool_eq hv he, hfor, hdel, settleReader_of_busy (s := withdrawRecord e.tool (dropEntry e.tool s)) hbusy]
    rfl
  case stocked =>
    subst hk
    obtain rfl := tool_of_entry? he
    have hlen := hb.pocket_lt hlt
    have hdel := deleteEntry_eq he (by simp [hc]) (by simp [hc]) hg hq (window?_of_windows_nil hwin _) hwait
    simp only [vacateEntry, hp] at hdel
    set x := withdrawRecord e.tool (dropEntry e.tool (modPocket p Pocket.losesTool (clearEntryMark e s))) with hx
    have hxlen : p < x.pkc.pockets.length := by simpa [hx, clearEntryMark_some hp] using hlen
    have hxp : ({ (s.pocket p).toEmpty with verified := false, mark := none } : Pocket).Alike (x.pocket p) := by
      have hcl := (Pocket.Alike.refl (s.pocket p)).clearMark hlen (some e.tool)
      have hmod := hcl.modPocket (f := Pocket.losesTool) (by simpa using hlen) losesTool_indicator
      rw [losesTool_stocked (by simpa using hst)] at hmod
      rw [hx, clearEntryMark_some hp]
      exact hmod
    have hstate : (x.pocket p).state = .empty := hxp.congr Pocket.state
    have hne : ∀ q, q ≠ p → x.pocket q = s.pocket q := fun q hqp => by
      rw [hx, clearEntryMark_some hp]
      exact (pocket_modPocket_ne hqp _ _).trans (clearMark_pocket_ne hqp _)
    set y := requestRead p (modPocket p (Pocket.toChecking .insert) x) with hy
    have hyp : ({ (s.pocket p).toEmpty with verified := false, mark := none, state := .checking, check := some .insert,
                                            readRequested := true } : Pocket).Alike (y.pocket p) :=
      (hxp.modPocket (f := Pocket.toChecking .insert) hxlen).requestRead (by simpa using hxlen)
    have hyne : ∀ q, q ≠ p → y.pocket q = s.pocket q := fun q hqp => by
      rw [hy, requestRead_pocket_ne hqp, pocket_modPocket_ne hqp, hne q hqp]
    have hread' : y = rereadPocket p (deleteEntry e.tool s) := by
      rw [hdel, rereadPocket_eq (by simp [hstate])]
    have hrds : x.rds = s.rds := by simp [hx]
    have hvac' : ∀ q, q < 48 → (y.pocket q).vacated = none := fun q hq48 => by
      by_cases hqp : q = p
      · subst hqp
        exact (hyp.congr Pocket.vacated).trans (hvac q hlt)
      · rw [hyne q hqp]
        exact hvac q hq48
    have hfor := forgetEntry_placed (by simp [hc]) hp (by simp [hc]) hwait (hread' ▸ hvac')
    have hbusy : y.readerBusy := hread.busy.of_rds (by simp [hy, hrds]) (by simp [hy, hrds])
    have hpres : (modPocket p (Pocket.toChecking .insert) x).present p = true :=
      State.present_iff.2 ⟨hlt, by simp [pocket_modPocket_self _ hxlen, Pocket.toChecking]⟩
    rw [exec_forget hs, forgetTool_eq hv he, hfor, ← hread', settleReader_of_busy hbusy]
    refine ⟨y, rfl, by simp [hy, hx, dropEntry], by simp [hy, hx, withdrawRecord, dropEntry], hyp.congr Pocket.state,
      hyp.congr Pocket.check, hyp.congr Pocket.contents, hyp.congr Pocket.latch,
      hyp.congr Pocket.openRelease, hyp.congr Pocket.verified, hyp.congr Pocket.mark,
      hyp.congr Pocket.readRequested, mem_requestRead hpres (by simpa [hrds] using hread.notInFlight), hyne,
      by simp [hy, hx], by simp [hy, hx], by simp [hy, hx], by simp [hy, hx]⟩
  case clock =>
    have hexec : exec (.setclock y mo d h mi sec key) s = .next (respond 0x1F (setClockCommand y mo d h mi sec key s)) :=
      congrArg Host.Outcome.next (command_of_takesCommands hs _ _)
    rw [hexec]
    refine ⟨fun hr => ?_, fun hr ht hk => ?_, fun hr hk => ?_, by decide, by decide⟩
    · simp [setClockCommand, hr, respond_plain]
    · simp [setClockCommand, hr, ht, hk, respond_plain]
    · have hauth : (s.cck.trust && !key) = false := by rcases hk with h | h <;> simp [h]
      simp only [setClockCommand, hr, hauth]
      rfl

end Sys2Proof.Machine

/-! PROOFS. USE and FREE (O57, O58). -/

namespace Sys2Proof.Machine

open Sys2Proof

variable {s t : State} {p q : PocketNo} {u : ToolId}

/-! ### USE (R165, R166) -/

theorem exec_use (hs : s.takesCommands) (p sec : Nat) : exec (.use p sec) s = .next (respond 0x16 (useTool p sec s)) :=
  congrArg Host.Outcome.next (command_of_takesCommands hs _ _)

/-- R166: what CLAMPED becomes. -/
theorem clampUse_eq (sec : Nat) (s : State) :
    clampUse sec s = { s with slk := { s.slk with
      sticky := { s.slk.sticky with clamped := s.slk.sticky.clamped || decide (3600 < sec) } } } := by
  by_cases h : 3600 < sec <;> simp [clampUse, h]

/-- The node with entry e put in for a USE of so many seconds, before anything follows of it. -/
def State.counted (s : State) (sec : Nat) (e : Entry) : State := putEntry e (clampUse sec s)

theorem counted_eq (sec : Nat) (e : Entry) (s : State) :
    s.counted sec e = { s with
      trg := { s.trg with entries := insertEntry e s.trg.entries },
      slk := { s.slk with
        sticky := { s.slk.sticky with clamped := s.slk.sticky.clamped || decide (3600 < sec) } } } := by
  rw [State.counted, clampUse_eq]
  rfl

theorem kind?_of_stc (h : t.stc = s.stc) (kind : Nat) : t.kind? kind = s.kind? kind := by
  unfold State.kind?
  rw [h]

theorem counted_entry {sec : Nat} {e : Entry} (hb : s.Bounded) : (s.counted sec e).entry? e.tool = some e := by
  rw [State.counted, clampUse_eq]
  exact entry?_putEntry_self (s := { s with slk := _ }) hb.register

theorem counted_entry_ne {sec : Nat} {e : Entry} {v : ToolId} (hb : s.Bounded) (hv : v ≠ e.tool) :
    (s.counted sec e).entry? v = s.entry? v := by
  rw [State.counted, clampUse_eq]
  exact entry?_putEntry_ne (s := { s with slk := _ }) hb.register hv

theorem usedPayload_eq {e : Entry} (h : s.entry? u = some e) : usedPayload u s = .used e.life e.remainder e.used := by
  simp [usedPayload, h]

/-- R165: a USE of a magazine pocket with a LOADED mark counts the seconds of its tool. -/
theorem useTool_counts {sec : Nat} {m : Mark} {e : Entry} (hp : s.present p = true) (hm : s.isMagazine p = true) (hsec : 0 < sec)
    (hmark : (s.pocket p).mark = some m) (hc : (s.pocket p).contents = some u) (he : s.entry? u = some e) :
    useTool p sec s =
      ⟨countUse p e (min sec 3600) (clampUse sec s), .ok, usedPayload u (countUse p e (min sec 3600) (clampUse sec s))⟩ := by
  obtain rfl := tool_of_entry? he
  have hl : s.loadedEntry p = some e := by simp [State.loadedEntry, hmark, hc, he]
  simp [useTool, magazinePocket_iff.2 ⟨hp, hm⟩, Nat.ne_of_gt hsec, hl]

theorem reserve_eq {k : KindEntry} {kind : Nat} (h : s.kind? kind = some k) : s.reserve kind = k.reserve := by
  simp [State.reserve, h]

/-- R168: no drift is reported twice for a mark, or of less than 10 lu. -/
theorem reportDrift_silent {m : Mark} {e : Entry} {pr : Preset} {k : KindEntry} (hmark : (s.pocket p).mark = some m)
    (he : s.entry? u = some e) (hpr : e.preset = some pr) (hk : s.kind? e.kind = some k) (hc : e.condition = .ready) (hl : 0 < e.life)
    (h : m.drift = true ∨ m.length < deliveredLength k pr.cl e.used + 10) : reportDrift p u s = s := by
  unfold reportDrift
  rw [hmark, he, Option.bind_some, delivery_eq hpr hk hc hl]
  refine if_neg ?_
  rintro ⟨hd, hle⟩
  rcases h with h | h
  · exact absurd (hd.symm.trans h) (by decide)
  · omega

theorem reportDrift_reports {m : Mark} {e : Entry} {pr : Preset} {k : KindEntry} (hmark : (s.pocket p).mark = some m)
    (he : s.entry? u = some e) (hpr : e.preset = some pr) (hk : s.kind? e.kind = some k) (hc : e.condition = .ready) (hl : 0 < e.life)
    (hd : m.drift = false) (h : deliveredLength k pr.cl e.used + 10 ≤ m.length) :
    reportDrift p u s =
      pushNotice (pocketNotice .offsetDrift p (some u)) (modPocket p (fun k => { k with mark := some { m with drift := true } }) s) := by
  unfold reportDrift
  rw [hmark, he, Option.bind_some, delivery_eq hpr hk hc hl]
  exact if_pos ⟨hd, h⟩

theorem reportDrift_unmarked (h : (s.pocket p).mark = none) (u : ToolId) : reportDrift p u s = s := by
  simp [reportDrift, h]

/-- R165, R167: a USE that leaves some life: LIFE_LOW with the RECORD when it crosses the reserve. -/
theorem countUse_left {sec : Nat} {e : Entry} {k : KindEntry} (hk : s.kind? e.kind = some k)
    (hl : (e.remainder + min sec 3600) / 60 < e.life) :
    countUse p e (min sec 3600) (clampUse sec s) =
      reportDrift p e.tool
        (if k.reserve ≤ e.life ∧ e.life - (e.remainder + min sec 3600) / 60 < k.reserve then
          handRecord e.tool (pushNotice (pocketNotice .lifeLow p (some e.tool)) (s.counted sec (e.cut (min sec 3600))))
        else s.counted sec (e.cut (min sec 3600))) := by
  have hres : (clampUse sec s).reserve e.kind = k.reserve := by
    rw [clampUse_eq]
    exact reserve_eq (s := { s with slk := _ }) hk
  have hlife : (e.cut (min sec 3600)).life = e.life - (e.remainder + min sec 3600) / 60 := rfl
  have hout : crossesZero e.life (e.cut (min sec 3600)).life = false := by
    have hpos : ¬ e.life - (e.remainder + min sec 3600) / 60 = 0 := by omega
    rw [crossesZero, hlife, decide_eq_false hpos, Bool.and_false]
  have hlow : crossesReserve k.reserve e.life (e.cut (min sec 3600)).life =
      decide (k.reserve ≤ e.life ∧ e.life - (e.remainder + min sec 3600) / 60 < k.reserve) := by
    rw [crossesReserve, hlife, Bool.decide_and]
  simp only [countUse, hres, hout, hlow, State.counted]
  by_cases h : k.reserve ≤ e.life ∧ e.life - (e.remainder + min sec 3600) / 60 < k.reserve <;> simp [h]

theorem mem_presetReport {e : Entry} (h : s.entry? u = some e) (hh : e.custody ≠ .foreign) (hq : e.condition.queued = true)
    (hl : s.pru.queue.length < 32) : u ∈ (presetReport u s).pru.queue := by
  by_cases hm : u ∈ s.pru.queue
  · simp [presetReport, h, Entry.here_iff.2 hh, hq, hm]
  · rw [presetReport_joins h hh hq hm hl]
    simp

/-- R167: a USE that brings the life to 0. -/
theorem countUse_out {sec : Nat} {e : Entry} {k : KindEntry} (hk : s.kind? e.kind = some k) (hsec : sec ≤ 3600) (hpos : 0 < e.life)
    (hl : e.life ≤ (e.remainder + sec) / 60) :
    countUse p e (min sec 3600) (clampUse sec s) =
      reportDrift p e.tool (handRecord e.tool (lifeOut p e.tool
        (if k.reserve ≤ e.life ∧ 0 < k.reserve then
          pushNotice (pocketNotice .lifeLow p (some e.tool)) (putEntry (e.cut sec) s)
        else putEntry (e.cut sec) s))) := by
  have hmin : min sec 3600 = sec := Nat.min_eq_left hsec
  have hcl : clampUse sec s = s := if_neg (Nat.not_lt.2 hsec)
  have hlife : (e.cut sec).life = 0 := Nat.sub_eq_zero_of_le hl
  have hout : crossesZero e.life (e.cut sec).life = true := by simp [crossesZero, hlife, hpos]
  have hlow : crossesReserve k.reserve e.life (e.cut sec).life = decide (k.reserve ≤ e.life ∧ 0 < k.reserve) := by
    rw [crossesReserve, hlife, Bool.decide_and]
  simp only [hmin, hcl, countUse, reserve_eq hk, hout, hlow]
  by_cases h : k.reserve ≤ e.life ∧ 0 < k.reserve <;> simp [h]

/-- R167: the tool whose life has come to 0, as lifeOut leaves it. -/
theorem lifeOut_spec {e : Entry} (hb : s.trg.entries.Pairwise (fun a b => a.tool < b.tool)) (he : s.entry? u = some e) (ha : s.adoptionOpen u = false) (hh : e.custody ≠ .foreign)
    (hlen : p < s.pkc.pockets.length) (hm : s.masked .lifeOut = false) (hn : s.slk.notices.length < 16) :
    (lifeOut p u s).entry? u = some { e with condition := .expired, version := e.version + 1 } ∧
      (∀ v, v ≠ u → (lifeOut p u s).entry? v = s.entry? v) ∧ ((lifeOut p u s).pocket p).mark = none ∧
      (lifeOut p u s).slk.notices = s.slk.notices ++ [pocketNotice .lifeOut p (some u)] ∧
      (s.pru.queue.length < 32 → u ∈ (lifeOut p u s).pru.queue) := by
  obtain rfl := tool_of_entry? he
  have hexp : e.expire (s.adoptionOpen e.tool) = { e with condition := .expired, version := e.version + 1 } := by
    simp [Entry.expire, ha]
  have hl : lifeOut p e.tool s = presetReport e.tool (pushNotice (pocketNotice .lifeOut p (some e.tool))
      (modPocket p (fun k => { k with mark := none }) (putEntry { e with condition := .expired, version := e.version + 1 } s))) := by
    rw [lifeOut, modEntry_eq he, hexp]
  set x := putEntry { e with condition := .expired, version := e.version + 1 } s with hx
  set y := pushNotice (pocketNotice .lifeOut p (some e.tool)) (modPocket p (fun k => { k with mark := none }) x) with hy
  have hytrg : y.trg = x.trg := by simp [hy]
  have hent : y.entry? e.tool = some { e with condition := .expired, version := e.version + 1 } :=
    (entry?_of_trg hytrg _).trans (entry?_putEntry_self (e := { e with condition := .expired, version := e.version + 1 }) hb)
  rw [hl]
  refine ⟨(entry?_of_trg (by simp) _).trans hent, fun v hv => ?_, ?_, ?_, fun h32 => ?_⟩
  · rw [entry?_of_trg (s := x) (by simp [hytrg])]
    exact entry?_putEntry_ne (e := { e with condition := .expired, version := e.version + 1 }) hb hv
  · refine ((presetReport_alike e.tool p y).congr Pocket.mark).trans ?_
    rw [State.pocket_of_pkc (s := modPocket p (fun k => { k with mark := none }) x) (by simp [hy]),
      pocket_modPocket_self _ (by simpa [hx] using hlen)]
  · rw [(presetReport_frame _ _).2.2.2.2.1, hy]
    exact pushNotice_notices (s := modPocket p (fun k => { k with mark := none }) x) hm hn
  · exact mem_presetReport hent hh rfl (by simpa [hy, hx] using h32)

/-- Settles O57: USE through its checks, and the seconds counted by what they cross. -/
theorem useActs : Obligations.UseActs := by
  refine ⟨fun p sec s hs => ⟨fun h => ?badPocket, fun hp hm => ⟨fun h0 => ?zero, fun hsec hmark => ?unmarked,
    fun m u e pr k n hsec hmark hc he hb hpr hk hcond hn hlow hl hd => ?counted⟩⟩,
    fun p sec m u e k s hs hb hp hm hsec hmax hmark hc he hcu hk hcond hpos hl hw hnode hnot hm1 hm2 => ?out,
    fun p sec m u e e' pr k n s hs hb hp hm hsec hmark hc he hpr hk hcond hn hl he' => ?left⟩
  case badPocket =>
    have hmag : s.magazinePocket p = false := by
      rw [← Bool.not_eq_true, magazinePocket_iff]
      rcases h with h | h <;> simp [h]
    rw [exec_use hs]
    simp [useTool, hmag, respond_plain]
  case zero =>
    rw [exec_use hs]
    simp [useTool, magazinePocket_iff.2 ⟨hp, hm⟩, h0, respond_plain]
  case unmarked =>
    rw [exec_use hs]
    simp [useTool, magazinePocket_iff.2 ⟨hp, hm⟩, Nat.ne_of_gt hsec, State.loadedEntry, hmark, respond_plain]
  case counted =>
    obtain rfl := tool_of_entry? he
    subst hn
    have hent : (s.counted sec (e.cut (min sec 3600))).entry? e.tool = some (e.cut (min sec 3600)) := counted_entry hb
    have hcount := countUse_left (p := p) (sec := sec) hk hl
    have hleft : 0 < (e.cut (min sec 3600)).life := Nat.sub_pos_of_lt hl
    have hstay : reportDrift p e.tool (s.counted sec (e.cut (min sec 3600))) = s.counted sec (e.cut (min sec 3600)) :=
      reportDrift_silent (by rw [counted_eq]; exact hmark) hent hpr (by rw [counted_eq]; exact hk) hcond hleft hd
    rw [if_neg hlow, hstay] at hcount
    rw [exec_use hs, useTool_counts hp hm hsec hmark hc he, hcount, usedPayload_eq hent, counted_eq]
    rfl
  case out =>
    obtain rfl := tool_of_entry? he
    have hcount := countUse_out (p := p) hk hmax hpos hl
    set c := e.cut sec with hcut
    have hlife : c.life = 0 := Nat.sub_eq_zero_of_le hl
    set x : State := if k.reserve ≤ e.life ∧ 0 < k.reserve then
      pushNotice (pocketNotice .lifeLow p (some e.tool)) (putEntry c s) else putEntry c s with hx
    have hxkeeps : x.trg = (putEntry c s).trg ∧ x.pkc = s.pkc ∧ x.rds = s.rds ∧ x.pru = s.pru ∧ x.cue = s.cue ∧ x.hli = s.hli ∧
        x.cck = s.cck ∧ x.stc = s.stc := by
      rw [hx]
      split <;> simp
    have hxnot : x.slk.notices = s.slk.notices ++
        (if k.reserve ≤ e.life ∧ 0 < k.reserve then [pocketNotice .lifeLow p (some e.tool)] else []) := by
      rw [hx]
      split
      · exact pushNotice_notices (s := putEntry c s) hm1 (by simpa using Nat.lt_succ_of_lt hnot)
      · simp
    obtain ⟨hxtrg, hxpkc, hxrds, hxpru, hxcue, hxhli, hxcck, hxstc⟩ := hxkeeps
    have hentx : x.entry? e.tool = some c := (entry?_of_trg hxtrg _).trans (entry?_putEntry_self (e := c) hb.register)
    have hbx : x.trg.entries.Pairwise (fun a b => a.tool < b.tool) := hxtrg ▸ insertEntry_ascending hb.register
    obtain ⟨h1, h2, h3, h4, h5⟩ := lifeOut_spec (p := p) hbx hentx
      ((State.adoptionOpen_of_cue hxcue _).trans (adoptionOpen_of_windowOpen hw)) (by simp [hcut, Entry.cut, hcu])
      (by rw [hxpkc]; exact hb.pocket_lt (State.present_iff.1 hp).1) ((masked_of_stc hxstc _).trans hm2)
      (by rw [hxnot]; split <;> simp <;> omega)
    set y := lifeOut p e.tool x with hy
    set z := handRecord e.tool y with hz
    have hzp : (z.pocket p).mark = none := (congrArg Pocket.mark (State.pocket_of_pkc (by simp [hz]) p)).trans h3
    rw [reportDrift_unmarked hzp] at hcount
    set f : Entry := { c with condition := .expired, version := c.version + 1 } with hf
    have hfin : f = { e with life := 0, used := min 65535 (e.used + (e.remainder + sec) / 60), remainder := (e.remainder + sec) % 60,
                             condition := .expired, version := e.version + 1 } := by
      rw [← hlife]
      rfl
    have hadopt : y.adoptionOpen e.tool = false :=
      (State.adoptionOpen_of_cue (by simp [hy, lifeOut, hxcue]) _).trans (adoptionOpen_of_windowOpen hw)
    have hyhli : y.hli = s.hli := by simp [hy, lifeOut, hxhli]
    have hzhli : z.hli = { s.hli with routine := placeRecord f.record s.hli.routine } := by
      rw [hz, handRecord_eq h1 (by simp [hf, hcut, Entry.cut, hcu]) hadopt (by simpa [hy, lifeOut, hxstc] using hnode), hyhli]
    rw [exec_use hs, useTool_counts hp hm hsec hmark hc he, hcount]
    refine ⟨_, _, rfl, rfl, rfl,
      ⟨_, (entry?_of_trg (s' := z) (s := y) (by simp [hz]) _).trans h1, hfin, fun hroom => ⟨_, hzhli ▸ mem_placeRecord hroom, rfl⟩⟩,
      fun v hv => ?_, hzp, ?_, fun h32 => ?_, ?_, ?_, ?_, ?_⟩
    · refine (entry?_of_trg (s' := z) (s := y) (by simp [hz]) v).trans ((h2 v hv).trans ((entry?_of_trg hxtrg v).trans ?_))
      exact entry?_putEntry_ne (e := c) hb.register hv
    · refine (congrArg Slk.notices (handRecord_frame e.tool y).2.2.2.2.2.1).trans (h4.trans ?_)
      rw [hxnot]
      rfl
    · show e.tool ∈ z.pru.queue
      rw [(handRecord_frame e.tool y).2.2.2.1]
      exact h5 (by rwa [hxpru])
    · show z.rds = s.rds
      simp [hz, hy, lifeOut, hxrds]
    · show z.cue = s.cue
      simp [hz, hy, lifeOut, hxcue]
    · show z.cck = s.cck
      simp [hz, hy, lifeOut, hxcck]
    · show z.stc = s.stc
      simp [hz, hy, lifeOut, hxstc]
  case left =>
    obtain rfl := tool_of_entry? he
    subst hn he'
    have hcount := countUse_left (p := p) (sec := sec) hk hl
    set c := e.cut (min sec 3600) with hcut
    set x := s.counted sec c with hx
    have hxeq := counted_eq sec c s
    have hent : x.entry? e.tool = some c := counted_entry hb
    have hmarkx : (x.pocket p).mark = some m := by rw [hx, hxeq]; exact hmark
    have hkx : x.kind? c.kind = some k := by rw [hx, hxeq]; exact hk
    have hleft : 0 < c.life := Nat.sub_pos_of_lt hl
    set y := handRecord e.tool (pushNotice (pocketNotice .lifeLow p (some e.tool)) x) with hy
    have henty : y.entry? e.tool = some c := (entry?_of_trg (by simp [hy]) _).trans hent
    have hmarky : (y.pocket p).mark = some m := by rw [State.pocket_of_pkc (s := x) (by simp [hy])]; exact hmarkx
    have hky : y.kind? c.kind = some k := (kind?_of_stc (by simp [hy]) _).trans hkx
    rw [exec_use hs, useTool_counts hp hm hsec hmark hc he, hcount]
    refine ⟨fun h1 h2 hd => ?_, fun h1 h2 hd hle => ?_, fun hlow hd hle => ?_⟩
    · rw [if_pos ⟨h1, h2⟩, reportDrift_silent hmarky henty hpr hky hcond hleft hd, usedPayload_eq henty, hy, hx, hxeq]
      rfl
    · have hpay : ∀ n f, (pushNotice n (modPocket p f y)).entry? e.tool = some c := fun n f =>
        (entry?_of_trg (by simp) _).trans henty
      rw [if_pos ⟨h1, h2⟩, reportDrift_reports hmarky henty hpr hky hcond hleft hd hle, usedPayload_eq (hpay _ _), hy, hx, hxeq]
      rfl
    · have hpay : ∀ n f, (pushNotice n (modPocket p f x)).entry? e.tool = some c := fun n f =>
        (entry?_of_trg (by simp) _).trans hent
      rw [if_neg hlow, reportDrift_reports hmarkx hent hpr hkx hcond hleft hd hle, usedPayload_eq (hpay _ _), hx, hxeq]
      rfl

/-! ### FREE (R149, R150) -/

theorem exec_free (hs : s.takesCommands) (p : PocketNo) : exec (.free p) s = .next (respond 0x17 (freePocket p s)) :=
  congrArg Host.Outcome.next (command_of_takesCommands hs _ _)

/-- R150: FREE of a STOCKED pocket, by the outside limit. -/
theorem freePocket_eq (hp : s.present p = true) (hm : s.isMagazine p = true) (hst : (s.pocket p).state = .stocked)
    (ho : (s.pocket p).openRelease = false) (hc : (s.pocket p).contents = some u) :
    freePocket p s = if s.departureRoom then plain .ok (settleReader (freeTool p u s)) else plain .busy (noticeLimit p u s) := by
  simp [freePocket, magazinePocket_iff.2 ⟨hp, hm⟩, hst, ho, hc]

theorem freePocket_refused (hp : s.present p = true) (hm : s.isMagazine p = true)
    (h : (s.pocket p).state ≠ .stocked ∨ (s.pocket p).openRelease = true) : freePocket p s = plain .noTool s := by
  unfold freePocket
  rw [if_neg (by simp [magazinePocket_iff.2 ⟨hp, hm⟩])]
  split
  · next u hst ho hc =>
    rcases h with h | h
    · exact absurd hst h
    · exact absurd (ho.symm.trans h) (by decide)
  · rfl

/-- R4: the departures are granted while the sum stays below the outside limit. -/
theorem departureRoom_iff : s.departureRoom = true ↔ s.outsideSum < 64 := by
  have houtside : ∀ e : Entry, e.custody.outside =
      decide (e.custody = .atGauge ∨ e.custody = .transit ∨ e.custody = .away ∨ e.custody = .lost) := by
    intro e
    cases e.custody <;> rfl
  have hdepart : ∀ g : Giver, (!decide (g.state = .transit)) = decide (g.state = .offered ∨ g.state = .releasing) := by
    intro g
    cases g.state <;> rfl
  simp only [State.departureRoom, State.outsideCount, State.departureCount, State.outsideSum, List.countP_eq_length_filter, houtside,
    hdepart, decide_eq_true_eq]
  rw [Nat.add_assoc]

/-- R34: an unlatch of a pocket without a mark leaves all but the pockets, the reader, the waiting list and the stage. -/
theorem openLatch_unmarked (h : (s.pocket p).mark = none) :
    (openLatch p s).slk = { s.slk with stage := (openLatch p s).slk.stage } := by
  have hm : ((modPocket p (fun k => { k with latch := .opened }) s).pocket p).mark = none := by
    by_cases hp : p < s.pkc.pockets.length
    · rw [pocket_modPocket_self _ hp]
      exact h
    · rw [modPocket_of_le _ (Nat.le_of_not_lt hp)]
      exact h
  unfold openLatch
  split
  · rfl
  · dsimp only
    split
    · rfl
    · rw [unlatchOpens, clearMark_none hm]
      exact (disturbStage_slk p _).1

/-- R42, R150: the pocket whose tool may be taken. -/
theorem startRelease_alike {a : Pocket} (h : a.Alike (s.pocket p)) (hp : p < s.pkc.pockets.length) (hl : a.latch = .locked) :
    ∃ v r, ({ a with openRelease := true, timer := some 120, timerRunning := true, latch := .opened, verified := v,
                     readRequested := r, mark := if s.hasDoor p then a.mark else none } : Pocket).Alike ((startRelease p s).pocket p) := by
  obtain ⟨i, hi⟩ := h.modPocket (f := fun k => { k with openRelease := true, timer := some 120, timerRunning := true }) hp
  have hlatch : (s.pocket p).latch = .locked := (h.congr Pocket.latch).trans hl
  rw [startRelease, openLatch_pocket_self (by simpa using hp) (by rw [hi]; simp [hl]), hi]
  exact ⟨_, _, _, rfl⟩

theorem startRelease_pocket_ne (h : q ≠ p) : (startRelease p s).pocket q = s.pocket q := by
  rw [startRelease, openLatch_pocket_ne h, pocket_modPocket_ne h]

theorem startRelease_unmarked (h : (s.pocket p).mark = none) : (startRelease p s).slk.notices = s.slk.notices := by
  have hm : ((modPocket p (fun k => { k with openRelease := true, timer := some 120, timerRunning := true }) s).pocket p).mark = none := by
    by_cases hp : p < s.pkc.pockets.length
    · rw [pocket_modPocket_self _ hp]
      exact h
    · rw [modPocket_of_le _ (Nat.le_of_not_lt hp)]
      exact h
  rw [startRelease, openLatch_unmarked hm]
  rfl

theorem startRelease_busy (h : s.readerElsewhere p) : (startRelease p s).readerBusy :=
  State.readerElsewhere.openLatch (s := modPocket p _ s) h

/-- R150: a tool at or above its reserve keeps its entry. -/
theorem freeCondition_kept {e : Entry} {k : KindEntry} (he : s.entry? u = some e) (hk : s.kind? e.kind = some k) (hl : k.reserve ≤ e.life) :
    freeCondition u s = s := by
  simp only [freeCondition, he, reserve_eq hk]
  exact if_neg (by omega)

/-- R150: a READY tool below its reserve becomes NEEDS_PRESET. -/
theorem freeCondition_below {e : Entry} {k : KindEntry} (he : s.entry? u = some e) (hk : s.kind? e.kind = some k) (hc : e.condition = .ready)
    (hl : e.life < k.reserve) (hg : s.giverOf? u = none) :
    freeCondition u s = versioned u (fun e => { e with condition := .needsPreset }) s := by
  simp only [freeCondition, he, reserve_eq hk, versionedCondition_eq hg]
  exact if_pos ⟨hc, hl⟩

/-- R85, R86: a tool here that asks for a preset joins the Preset Queue once, while there is room. -/
theorem presetReport_pru {e : Entry} (h : s.entry? u = some e) (hh : e.custody ≠ .foreign) (hq : e.condition.queued = true) :
    (presetReport u s).pru = { s.pru with queue :=
      if u ∈ s.pru.queue then s.pru.queue else if s.pru.queue.length < 32 then s.pru.queue ++ [u] else s.pru.queue } := by
  by_cases hm : u ∈ s.pru.queue
  · simp [presetReport, h, Entry.here_iff.2 hh, hq, hm]
  · by_cases hl : s.pru.queue.length < 32
    · rw [presetReport_joins h hh hq hm hl, if_neg hm, if_pos hl]
      rfl
    · simp [presetReport, h, Entry.here_iff.2 hh, hq, hm, hl]

theorem Pocket.Alike.with_indicator {a b : Pocket} (h : a.Alike b) : { b with indicator := a.indicator } = a := by
  obtain ⟨i, rfl⟩ := h
  rfl

/-- Settles O58: FREE through its checks, the condition of the tool and the open release; the departure sum by its three counts. -/
theorem freeReleases : Obligations.FreeReleases := by
  refine ⟨fun p s hs hread => ⟨fun h => ?badPocket, fun hp hm => ⟨fun h => ?noTool, fun u e hst ho hc he => ⟨fun hd => ?limit,
    fun k hd hcond hk hl hlatch hlen => ?kept, fun k e' hd hcond hk hl hlatch hb hcu hpk hg ha he' => ?below⟩⟩⟩,
    fun s => departureRoom_iff⟩
  case badPocket =>
    have hmag : s.magazinePocket p = false := by
      rw [← Bool.not_eq_true, magazinePocket_iff]
      rcases h with h | h <;> simp [h]
    rw [exec_free hs]
    simp [freePocket, hmag, respond_plain]
  case noTool => rw [exec_free hs, freePocket_refused hp hm h, respond_plain]
  case limit =>
    rw [exec_free hs, freePocket_eq hp hm hst ho hc, if_neg (by simp [hd])]
    rfl
  case kept =>
    have hplen : p < s.pkc.pockets.length := hlen ▸ (State.present_iff.1 hp).1
    set x := modPocket p (fun k => { k with mark := none }) s with hx
    have hxp : ({ s.pocket p with mark := none } : Pocket).Alike (x.pocket p) := modPocket_alike hplen
    have hfree : freeTool p u s = startRelease p x := by
      rw [freeTool, freeCondition_kept (s := x) (e := e) (k := k) he hk hl]
    obtain ⟨v, r, hrel⟩ := startRelease_alike hxp (by simpa [hx] using hplen) hlatch
    rw [exec_free hs, freePocket_eq hp hm hst ho hc, if_pos hd, hfree, settleReader_of_busy (startRelease_busy (s := x) hread)]
    refine ⟨startRelease p x, rfl, (hrel.congr Pocket.state).trans hst, hrel.congr Pocket.openRelease, hrel.congr Pocket.latch,
      hrel.congr Pocket.timer, (hrel.congr Pocket.mark).trans (by simp), (hrel.congr Pocket.contents).trans hc, fun q hq => ?_,
      startRelease_unmarked (hxp.congr Pocket.mark), by simp [hx], by simp [hx], by simp [hx], by simp [hx], by simp [hx]⟩
    rw [startRelease_pocket_ne hq, hx, pocket_modPocket_ne hq]
  case below =>
    have hplen : p < s.pkc.pockets.length := hb.pocket_lt (State.present_iff.1 hp).1
    set x := modPocket p (fun k => { k with mark := none }) s with hx
    have hxp : ({ s.pocket p with mark := none } : Pocket).Alike (x.pocket p) := modPocket_alike hplen
    have hxmark : (x.pocket p).mark = none := hxp.congr Pocket.mark
    have hbx : x.Bounded := modPocket_bounded p _ hb
    have hex : x.entry? u = some e := he
    set y := versioned u (fun e => { e with condition := .needsPreset }) x with hy
    have hput : y = presetReport u (handRecord u (putEntry e' x)) := by
      have hcl : clearEntryMark e x = x := by rw [clearEntryMark_some hpk, clearMark_none hxmark]
      rw [hy, versioned_eq hex ha, if_neg (by simp [hcond]), hcl, he']
    have hent : (putEntry e' x).entry? u = some e' := entry?_putEntry_of_tool hbx.register (by rw [he']; exact tool_of_entry? (e := e) he)
    have henth : (handRecord u (putEntry e' x)).entry? u = some e' := (entry?_of_trg (handRecord_frame _ _).1 u).trans hent
    have hh : e'.custody ≠ .foreign := by rw [he']; simp [hcu]
    have hypp : ({ s.pocket p with mark := none } : Pocket).Alike (y.pocket p) := by
      have hv := versioned_pocket_self hex hpk (by simpa [hx] using hplen) (fun e => { e with condition := .needsPreset })
      exact (hxp.map (f := fun k => { k with mark := none })).trans hv
    have hby : y.Bounded := versioned_bounded u _ hbx (fun _ => rfl)
    have hylen := hby.pocket_lt (State.present_iff.1 hp).1
    have hfree : freeTool p u s = startRelease p y := by
      rw [freeTool, freeCondition_below (s := x) (e := e) (k := k) he hk hcond hl hg]
    obtain ⟨v, r, hrel⟩ := startRelease_alike hypp hylen hlatch
    have hready : y.readerElsewhere p := by
      unfold State.readerElsewhere
      rw [(versioned_frame _ _ _).1]
      exact hread
    rw [exec_free hs, freePocket_eq hp hm hst ho hc, if_pos hd, hfree, settleReader_of_busy (startRelease_busy hready)]
    refine ⟨startRelease p y, rfl, ?_, fun w hw => ?_, fun hn => ?_, ?_, (hrel.congr Pocket.state).trans hst,
      hrel.congr Pocket.openRelease, hrel.congr Pocket.latch,
      hrel.congr Pocket.timer, (hrel.congr Pocket.mark).trans (by simp), (hrel.congr Pocket.contents).trans hc, fun q hq => ?_,
      ?_, by simp [hy, hx], by simp [hy, hx]⟩
    · rw [entry?_of_trg (s := y) (by simp), hput, entry?_of_trg (presetReport_frame _ _).1]
      exact henth
    · rw [entry?_of_trg (s := y) (by simp), versioned_entry_ne hbx hex ha (by rfl) hw]
      rfl
    · rw [(startRelease_frame _ _).2.2.1, hput, (presetReport_frame _ _).2.2.2.1, handRecord_eq hent hh ha hn]
      rfl
    · rw [(startRelease_frame _ _).2.1, hput, presetReport_pru henth hh (by rw [he']; rfl), (handRecord_frame _ _).2.2.2.1]
      rfl
    · have hyq : (s.pocket q).Alike (y.pocket q) := by
        have hv := versioned_pocket_ne hex (p := q) (by rw [hpk]; exact fun h => hq (Option.some.inj h).symm) (fun e => { e with condition := .needsPreset })
        rwa [hx, pocket_modPocket_ne hq] at hv
      rw [startRelease_pocket_ne hq]
      exact hyq.with_indicator
    · have hymark : (y.pocket p).mark = none := hypp.congr Pocket.mark
      rw [startRelease_unmarked hymark, hput, (presetReport_frame _ _).2.2.2.2.1, (handRecord_frame _ _).2.2.2.2.2.1]
      rfl

end Sys2Proof.Machine

/-! PROOFS. Bursts: the reduction, the checks and the entry afterwards (O35, O36). -/

namespace Sys2Proof.Machine

open Sys2Proof

variable {s t : State} {p q : PocketNo} {u : ToolId}

/-! ### The reduction (R76, R77) -/

theorem foldl_max_spec (l : List Nat) (a : Nat) :
    (l.foldl max a = a ∨ l.foldl max a ∈ l) ∧ a ≤ l.foldl max a ∧ ∀ y ∈ l, y ≤ l.foldl max a := by
  induction l generalizing a with
  | nil => simp
  | cons x l ih =>
    obtain ⟨hmem, hle, hall⟩ := ih (max a x)
    refine ⟨?_, Nat.le_trans (Nat.le_max_left a x) hle, fun y hy => ?_⟩
    · rcases hmem with h | h
      · rcases Nat.le_total a x with hax | hax
        · exact .inr (List.mem_cons.2 (.inl (h.trans (Nat.max_eq_right hax))))
        · exact .inl (h.trans (Nat.max_eq_left hax))
      · exact .inr (List.mem_cons_of_mem x h)
    · rcases List.mem_cons.1 hy with rfl | hy
      · exact Nat.le_trans (Nat.le_max_right a y) hle
      · exact hall y hy

theorem foldl_min_spec (l : List Nat) (a : Nat) :
    (l.foldl min a = a ∨ l.foldl min a ∈ l) ∧ l.foldl min a ≤ a ∧ ∀ y ∈ l, l.foldl min a ≤ y := by
  induction l generalizing a with
  | nil => simp
  | cons x l ih =>
    obtain ⟨hmem, hle, hall⟩ := ih (min a x)
    refine ⟨?_, Nat.le_trans hle (Nat.min_le_left a x), fun y hy => ?_⟩
    · rcases hmem with h | h
      · rcases Nat.le_total a x with hax | hax
        · exact .inl (h.trans (Nat.min_eq_left hax))
        · exact .inr (List.mem_cons.2 (.inl (h.trans (Nat.min_eq_right hax))))
      · exact .inr (List.mem_cons_of_mem x h)
    · rcases List.mem_cons.1 hy with rfl | hy
      · exact Nat.le_trans hle (Nat.min_le_right a y)
      · exact hall y hy

/-- R76: the largest of some values is one of them. -/
theorem largest_spec {l : List Nat} (h : l ≠ []) : largest l ∈ l ∧ ∀ y ∈ l, y ≤ largest l := by
  obtain ⟨hmem, -, hall⟩ := foldl_max_spec l 0
  refine ⟨?_, hall⟩
  rcases hmem with h0 | hmem
  · obtain ⟨y, hy⟩ := List.exists_mem_of_ne_nil l h
    have hy0 : y = 0 := Nat.le_zero.1 (h0 ▸ hall y hy)
    show l.foldl max 0 ∈ l
    rw [h0, ← hy0]
    exact hy
  · exact hmem

/-- R77: the smallest of some values up to a top is one of them. -/
theorem smallest_spec {l : List Nat} {top : Nat} (h : l ≠ []) (htop : ∀ y ∈ l, y ≤ top) :
    smallest top l ∈ l ∧ ∀ y ∈ l, smallest top l ≤ y := by
  obtain ⟨hmem, -, hall⟩ := foldl_min_spec l top
  refine ⟨?_, hall⟩
  rcases hmem with h0 | hmem
  · obtain ⟨y, hy⟩ := List.exists_mem_of_ne_nil l h
    have hyt : y = top := Nat.le_antisymm (htop y hy) (h0 ▸ hall y hy)
    show l.foldl min top ∈ l
    rw [h0, ← hyt]
    exact hy
  · exact hmem

theorem valid_x_le {b : Burst} {y : Nat × Nat} (h : y ∈ b.valid) : y.2 ≤ 1250000 := by
  obtain ⟨slot, -, hs⟩ := List.mem_filterMap.1 h
  unfold validSample at hs
  split at hs
  · next a =>
    split at hs
    · next hr =>
      obtain rfl := (Option.some.inj hs).symm
      obtain ⟨-, -, -, hx0, hx⟩ := hr
      show a.x.toNat ≤ 1250000
      omega
    · exact absurd hs (by simp)
  · exact absurd hs (by simp)

/-- R76 to R78: the values of a burst with four or more valid samples. -/
theorem reduce_spec {b : Burst} (h : 4 ≤ b.valid.length) (u : ToolId) (alpha : Nat) :
    (∃ z ∈ b.valid, (∀ y ∈ b.valid, y.1 ≤ z.1) ∧
      (b.reduce u alpha b.valid).cl = corrected 6000000 z.1 alpha (b.temperature - 2000)) ∧
    (∃ x ∈ b.valid, (∀ y ∈ b.valid, y.2 ≤ x.2) ∧
      (b.reduce u alpha b.valid).cr = corrected 1250000 x.2 alpha (b.temperature - 2000) ∧
      ∃ m ∈ b.valid, (∀ y ∈ b.valid, m.2 ≤ y.2) ∧ (b.reduce u alpha b.valid).runout + m.2 = x.2) := by
  have hne : b.valid ≠ [] := fun h0 => by simp [h0] at h
  obtain ⟨hz, hzall⟩ := largest_spec (l := b.valid.map Prod.fst) (by simpa using hne)
  obtain ⟨hx, hxall⟩ := largest_spec (l := b.valid.map Prod.snd) (by simpa using hne)
  obtain ⟨hm, hmall⟩ := smallest_spec (l := b.valid.map Prod.snd) (top := 1250000) (by simpa using hne)
    (fun y hy => by obtain ⟨w, hw, rfl⟩ := List.mem_map.1 hy; exact valid_x_le hw)
  obtain ⟨z, hzm, hzeq⟩ := List.mem_map.1 hz
  obtain ⟨x, hxm, hxeq⟩ := List.mem_map.1 hx
  obtain ⟨m, hmm, hmeq⟩ := List.mem_map.1 hm
  refine ⟨⟨z, hzm, fun y hy => ?_, ?_⟩, ⟨x, hxm, fun y hy => ?_, ?_, m, hmm, fun y hy => ?_, ?_⟩⟩
  · exact hzeq ▸ hzall _ (List.mem_map_of_mem hy)
  · simp only [Burst.reduce, hzeq]
  · exact hxeq ▸ hxall _ (List.mem_map_of_mem hy)
  · simp only [Burst.reduce, hxeq]
  · exact hmeq ▸ hmall _ (List.mem_map_of_mem hy)
  · have hle : m.2 ≤ x.2 := hmeq ▸ hmall _ (List.mem_map_of_mem hxm)
    simp only [Burst.reduce, ← hxeq, ← hmeq]
    omega

/-! ### The checks (R81) -/

theorem absDiff_eq (a b : Nat) : absDiff a b = Int.natAbs ((a : Int) - b) := by
  unfold absDiff
  omega

theorem judge_failRunout {k : KindEntry} {v : FirstBurst} : (judge k v).outcome = .failRunout ↔ k.runoutLimit < v.runout := by
  unfold judge
  split
  · simp [Verdict.outcome, *]
  · split <;> simp [Verdict.outcome, *]

theorem judge_failTol {k : KindEntry} {v : FirstBurst} : (judge k v).outcome = .failTol ↔ v.runout ≤ k.runoutLimit ∧
    (k.tolLength < Int.natAbs ((v.cl : Int) - k.nominalLength) ∨ k.tolRadius < Int.natAbs ((v.cr : Int) - k.nominalRadius)) := by
  simp only [judge, absDiff_eq]
  split
  · next h => simp [Verdict.outcome, Nat.not_le.2 h]
  · next h => split <;> simp [Verdict.outcome, Nat.not_lt.1 h, *]

theorem verdict_outcome (v : Verdict) : v.outcome = .pass ∨ v.outcome = .failRunout ∨ v.outcome = .failTol := by
  cases v <;> simp [Verdict.outcome]

/-- R82, R83: the condition after a burst, by the outcome. -/
theorem presetCondition_eq (v : Verdict) (life : Nat) (c : Condition) :
    presetCondition v life c =
      (if c = .quarantine .duplicate ∨ c = .quarantine .operator then c
       else if v.outcome = .failRunout then .quarantine .runout
       else if v.outcome = .failTol then .quarantine .outOfTol
       else if life = 0 then .expired else .ready) := by
  have hlife : (if 0 < life then Condition.ready else .expired) = if life = 0 then .expired else .ready := by
    by_cases h : life = 0
    · simp [h]
    · simp [h, Nat.pos_of_ne_zero h]
  cases c with
  | quarantine r => cases r <;> cases v <;> simp [presetCondition, Verdict.outcome, hlife]
  | ready => cases v <;> simp [presetCondition, Verdict.outcome, hlife]
  | needsPreset => cases v <;> simp [presetCondition, Verdict.outcome, hlife]
  | expired => cases v <;> simp [presetCondition, Verdict.outcome, hlife]

/-! ### The end of a burst (R75, R79 to R83) -/

theorem exec_burstEnd {b : Burst} (hs : s.headReads = true) (hb : s.pru.burst = some b) :
    exec .burstEnd s = .next (concludeBurst b { s with pru := { s.pru with burst := none } }) := by
  show Host.Outcome.next _ = _
  rw [if_pos hs, hb]

theorem gaugeSettled_iff : s.gaugeSettled u = true ↔ ∃ e, s.entry? u = some e ∧ e.custody = .atGauge ∧ s.windowOpen u = false := by
  unfold State.gaugeSettled
  cases h : s.entry? u <;> simp

theorem concludeBurst_settled {b : Burst} {g : GaugeTool} (hb : b.tool.isSome = true) (hg : s.pru.gauge = some g)
    (hset : s.gaugeSettled g.tool = true) : concludeBurst b s = concludeSettled g b s := by
  obtain ⟨u, hu⟩ := Option.isSome_iff_exists.1 hb
  simp [concludeBurst, hu, hg, hset]

theorem concludeSettled_reduced {b : Burst} {g : GaugeTool} {k : KindEntry} (hk : s.kind? g.kind = some k) (h : 4 ≤ b.valid.length) :
    concludeSettled g b s = concludeReduced g.tool k (b.reduce g.tool k.alpha b.valid) s := by
  simp [concludeSettled, hk, Nat.not_lt.2 h]

theorem sendResult_free (h : s.pru.tx = none) (r : Result) : sendResult r s = { s with pru := { s.pru with tx := some r } } := by
  simp [sendResult, h]

/-- The Preset Queue is all of the Preset Reduction Unit that a report changes. -/
theorem presetRemove_pru (u : ToolId) (s : State) : (presetRemove u s).pru = { s.pru with queue := (presetRemove u s).pru.queue } := by
  unfold presetRemove
  split <;> rfl

theorem presetReport_pru_rest (u : ToolId) (s : State) : (presetReport u s).pru = { s.pru with queue := (presetReport u s).pru.queue } := by
  unfold presetReport
  split
  · split
    · split
      · rfl
      · split <;> rfl
    · exact presetRemove_pru u s
  · exact presetRemove_pru u s

theorem versioned_pru (u : ToolId) (f : Entry → Entry) (s : State) :
    (versioned u f s).pru = { s.pru with queue := (versioned u f s).pru.queue } := by
  unfold versioned
  split
  · rfl
  · dsimp only
    split
    · simp
    · rw [presetReport_pru_rest]
      simp

/-- R81 to R83: the values of a burst are taken and its RESULT goes out. -/
theorem concludePreset_spec {e : Entry} (k : KindEntry) (v : FirstBurst) (hb : s.Bounded) (he : s.entry? u = some e)
    (hp : e.pocket = none) (ha : s.adoptionOpen u = false) (htx : s.pru.tx = none) :
    (concludePreset u k v s).pru = { s.pru with tx := some ⟨(judge k v).outcome, v.cl, v.cr, v.runout⟩,
                                                queue := (concludePreset u k v s).pru.queue } ∧
      (concludePreset u k v s).entry? u = some { e.presetWith s.ownId k v with version := e.version + 1 } ∧
      (∀ w, w ≠ u → (concludePreset u k v s).entry? w = s.entry? w) ∧ (concludePreset u k v s).rds = s.rds ∧
      (concludePreset u k v s).cue = s.cue ∧ (concludePreset u k v s).slk = s.slk ∧ (concludePreset u k v s).cck = s.cck ∧
      (concludePreset u k v s).stc = s.stc := by
  set x := presetReport u (versioned u (Entry.presetWith s.ownId k v) s) with hx
  have hpru : x.pru = { s.pru with queue := x.pru.queue } := by
    rw [hx, presetReport_pru_rest, versioned_pru]
  have hc : concludePreset u k v s = { x with pru := { x.pru with tx := some (v.result (judge k v).outcome) } } :=
    sendResult_free (by rw [hpru]; exact htx) _
  have htrg : x.trg = (versioned u (Entry.presetWith s.ownId k v) s).trg := (presetReport_frame _ _).1
  rw [hc]
  refine ⟨?_, (entry?_of_trg htrg u).trans (versioned_entry_self hb he ha rfl),
    fun w hw => (entry?_of_trg htrg w).trans (versioned_entry_ne hb he ha (by rfl) hw), ?_, ?_, ?_, ?_, ?_⟩
  · exact congrArg (fun y : Pru => { y with tx := some (v.result (judge k v).outcome) }) hpru
  · simp [hx]
  · simp [hx]
  · show x.slk = s.slk
    rw [hx, (presetReport_frame _ _).2.2.2.2.1, versioned_slk he hp]
  · simp [hx]
  · simp [hx]

theorem presetWith_eq (own : StationId) (k : KindEntry) (v : FirstBurst) (e : Entry) :
    e.presetWith own k v =
      { e with
        preset := some { cls := if v.provisional then .provisional else .full, cl := v.cl, cr := v.cr, runout := v.runout,
                         station := own, age := 0 },
        used := 0, life := if v.edge then k.fullLife else e.life, remainder := if v.edge then 0 else e.remainder,
        condition :=
          (if e.condition = .quarantine .duplicate ∨ e.condition = .quarantine .operator then e.condition
           else if (judge k v).outcome = .failRunout then .quarantine .runout
           else if (judge k v).outcome = .failTol then .quarantine .outOfTol
           else if (if v.edge then k.fullLife else e.life) = 0 then .expired else .ready) } := by
  simp only [Entry.presetWith, presetCondition_eq]

/-- Settles O35: the values through the reduction, the entry through the checks' outcome. -/
theorem burstConcludes : Obligations.BurstConcludes := by
  intro b g k e s hs hbd hb hbt hg htx he hcu hp hw hk hone h4
  set v := b.reduce g.tool k.alpha b.valid with hv
  set x : State := { s with pru := { s.pru with burst := none, first := none } } with hx
  set y : State := { s with pru := { s.pru with burst := none } } with hy
  have hset : y.gaugeSettled g.tool = true := gaugeSettled_iff.2 ⟨e, he, hcu, hw⟩
  have hexec : exec .burstEnd s = .next (concludePreset g.tool k v x) := by
    rw [exec_burstEnd hs hb, concludeBurst_settled (s := y) hbt hg hset, concludeSettled_reduced (s := y) hk h4, concludeReduced,
      if_neg (by simp [hone])]
    rfl
  obtain ⟨hpru, h1, h2, h3, h4', h5, h6, h7⟩ := concludePreset_spec (s := x) k v { hbd with } he hp (adoptionOpen_of_windowOpen hw) htx
  obtain ⟨hz, hx'⟩ := reduce_spec h4 g.tool k.alpha
  refine ⟨v.cl, v.cr, v.runout, (judge k v).outcome, _, hexec, hz, hx', judge_failRunout, judge_failTol, verdict_outcome _, ?_, ?_, ?_, ?_,
    h1.trans ?_, h2, h3, h4', h5, h6, h7⟩
  · rw [hpru]
  · rw [hpru]
  · rw [hpru]
  · rw [hpru]
  · rw [presetWith_eq]
    rfl

theorem repeats_iff {band : Nat} {a b : FirstBurst} : repeats band a b = true ↔ absDiff a.cl b.cl ≤ band ∧ absDiff a.cr b.cr ≤ band := by
  simp [repeats]

/-- R79: a burst of a two-burst kind, by the first burst that waits. -/
theorem concludeReduced_two {k : KindEntry} (h : k.bursts = 2) (v : FirstBurst) (u : ToolId) :
    (s.pru.first = none → concludeReduced u k v s = sendResult (v.result .again) (setFirst (some v) s)) ∧
    (∀ a, s.pru.first = some a → concludeReduced u k v s =
      if repeats k.band a v then concludePreset u k (combine a v) (setFirst none s)
      else sendResult (v.result .repeatFail) (setFirst none s)) := by
  refine ⟨fun hf => ?_, fun a hf => ?_⟩ <;> rw [concludeReduced, if_pos h, hf]

/-- Settles O36: the cases of the table in their order, and the second burst of a two-burst kind. -/
theorem burstEndsOtherwise : Obligations.BurstEndsOtherwise := by
  refine ⟨fun s hs => ⟨fun hb => ?noBurst, fun b hb htx => ⟨fun h => ?noCustody, fun g hbt hg hset => ⟨fun hk => ?unknown,
    fun k hk h4 => ?short⟩⟩, congrArg Host.Outcome.next (if_pos hs)⟩,
    fun b g k v s hs hb hbt hg htx hset hk htwo h4 hv => ⟨⟨hv ▸ rfl, hv ▸ rfl, hv ▸ rfl, hv ▸ reduce_spec h4 g.tool k.alpha⟩, fun hf => ?first,
      fun a hf hband => ?apart, fun a w e hf h1 h2 hbd he hp hw => ?combined⟩, by decide, by decide, by decide⟩
  case noBurst =>
    show Host.Outcome.next _ = _
    rw [if_pos hs, hb]
  case noCustody =>
    set y : State := { s with pru := { s.pru with burst := none } } with hy
    have hc : concludeBurst b y = sendResult (Result.bare .noCustody) (setFirst none y) := by
      have hgy : y.pru.gauge = s.pru.gauge := rfl
      rcases h with h | h | ⟨g, hg, hset⟩
      · simp [concludeBurst, h]
      · cases hbt : b.tool <;> simp [concludeBurst, hbt, hgy, h]
      · have hset' : y.gaugeSettled g.tool = false := hset
        cases hbt : b.tool <;> simp [concludeBurst, hbt, hgy, hg, hset']
    rw [exec_burstEnd hs hb, hc, sendResult_free (s := setFirst none y) htx]
    rfl
  case unknown =>
    set y : State := { s with pru := { s.pru with burst := none } } with hy
    have hc : concludeSettled g b y = sendResult (Result.bare .kindUnknown) (setFirst none y) := by
      have hky : y.kind? g.kind = none := hk
      simp [concludeSettled, hky]
    rw [exec_burstEnd hs hb, concludeBurst_settled (s := y) hbt hg hset, hc, sendResult_free (s := setFirst none y) htx]
    rfl
  case short =>
    set y : State := { s with pru := { s.pru with burst := none } } with hy
    have hc : concludeSettled g b y = sendResult (Result.bare .shortBurst) y := by
      have hky : y.kind? g.kind = some k := hk
      simp [concludeSettled, hky, h4]
    rw [exec_burstEnd hs hb, concludeBurst_settled (s := y) hbt hg hset, hc, sendResult_free (s := y) htx]
    rfl
  all_goals
    subst hv
    set v := b.reduce g.tool k.alpha b.valid
    set y : State := { s with pru := { s.pru with burst := none } } with hy
    have hexec : exec .burstEnd s = .next (concludeReduced g.tool k v y) := by
      rw [exec_burstEnd hs hb, concludeBurst_settled (s := y) hbt hg hset, concludeSettled_reduced (s := y) hk h4]
    obtain ⟨hnone, hsome⟩ := concludeReduced_two (s := y) htwo v g.tool
  case first =>
    rw [hexec, hnone hf, sendResult_free (s := setFirst (some v) y) htx]
    rfl
  case apart =>
    have hrep : repeats k.band a v = false := by
      rw [← Bool.not_eq_true, repeats_iff]
      omega
    rw [hexec, hsome a hf, if_neg (by simp [hrep]), sendResult_free (s := setFirst none y) htx]
    rfl
  case combined =>
    obtain ⟨e', he', -, hwin⟩ := gaugeSettled_iff.1 hset
    obtain rfl : w = combine a v := hw
    obtain ⟨hpru, h3, h4', h5, h6, h7, h8, h9⟩ := concludePreset_spec (s := setFirst none y) k (combine a v) { hbd with } he hp
      (adoptionOpen_of_windowOpen hwin) htx
    rw [hsome a hf, if_pos (repeats_iff.2 ⟨h1, h2⟩)] at hexec
    refine ⟨(judge k (combine a v)).outcome, _, hexec, judge_failRunout, judge_failTol, verdict_outcome _, ?_, ?_, ?_, ?_, ?_,
      h3.trans ?_, h4', h5, h6, h7, h8, h9⟩
    · rw [hpru]
    · rw [hpru]; rfl
    · rw [hpru]; rfl
    · rw [hpru]; rfl
    · rw [hpru]; rfl
    · rw [presetWith_eq]
      rfl

end Sys2Proof.Machine

/-! PROOFS. The tool at the gauge: a TAG of a tool outside or in a pocket, and TAG_GONE (O32). -/

namespace Sys2Proof.Machine

open Sys2Proof

variable {s t : State} {p q : PocketNo} {u : ToolId}

/-! ### Versioned changes that keep the condition (R8) -/

theorem versioned_kept {e : Entry} {f : Entry → Entry} (h : s.entry? u = some e) (ha : s.adoptionOpen u = false)
    (hf : (f e).condition = e.condition) :
    versioned u f s = handRecord u (putEntry { f e with version := e.version + 1 } (clearEntryMark e s)) := by
  rw [versioned_eq h ha, if_pos hf, id]

/-- R132: a change that keeps the condition ends no issue. -/
theorem versionedCondition_kept {e : Entry} {f : Entry → Entry} (h : s.entry? u = some e) (hf : (f e).condition = e.condition) :
    versionedCondition u f s = versioned u f s := by
  simp [versionedCondition, h, Condition.endsIssue, hf]

/-! ### Pockets that tools leave (R54, R13) -/

/-- R4: the departures are counted by the entries, the giver transfers and the open releases alone. -/
theorem departureRoom_of_openRelease (htrg : t.trg = s.trg) (hcue : t.cue = s.cue) (hlen : t.pkc.pockets.length = s.pkc.pockets.length)
    (h : ∀ p, (t.pocket p).openRelease = (s.pocket p).openRelease) : t.departureRoom = s.departureRoom := by
  have hmap : t.pkc.pockets.map (·.openRelease) = s.pkc.pockets.map (·.openRelease) := by
    refine List.ext_getElem (by simpa using hlen) fun i hi hi' => ?_
    have hp := h i
    simp only [List.length_map] at hi hi'
    simpa [State.pocket, hi, hi'] using hp
  have hcount : ∀ l : List Pocket, l.countP (fun k => k.openRelease) = (l.map (·.openRelease)).countP (fun b => b) := fun l => by
    rw [List.countP_map]; rfl
  simp only [State.departureRoom, State.outsideCount, State.departureCount, htrg, hcue, hcount, hmap]

/-- R54: the pocket of a tool that turned up elsewhere. -/
def Pocket.vacatedBy (u : ToolId) (k : Pocket) : Pocket :=
  { k.toEmpty with state := .checking, check := some .insert, verified := false, vacated := some ⟨u, false⟩ }

theorem vacateMoved_eq (u : ToolId) (h : (s.pocket q).state ≠ .absent ∧ (s.pocket q).state ≠ .fault) :
    vacateMoved q u s = requestRead q (modPocket q (Pocket.vacatedBy u) (clearMark q (some u) s)) := by
  have hst : ((clearMark q (some u) s).pocket q).state = (s.pocket q).state :=
    ((Pocket.Alike.refl (s.pocket q)).clearMark (lt_of_pocket_present h.1) (some u)).congr Pocket.state
  unfold vacateMoved
  dsimp only
  rw [hst]
  obtain ⟨h1, h2⟩ := h
  split
  · exact absurd ‹_› h1
  · exact absurd ‹_› h2
  all_goals rfl

theorem vacateMoved_pocket_self (hq : q < s.pkc.pockets.length) (u : ToolId) (h : (s.pocket q).state ≠ .absent ∧ (s.pocket q).state ≠ .fault) :
    ({ (s.pocket q).vacatedBy u with mark := none, readRequested := true } : Pocket).Alike ((vacateMoved q u s).pocket q) := by
  have hcl := (Pocket.Alike.refl (s.pocket q)).clearMark hq (some u)
  rw [vacateMoved_eq u h]
  exact (hcl.modPocket (f := Pocket.vacatedBy u) (by simpa using hq)).requestRead (by simpa using hq)

theorem vacateMoved_pocket_ne (h : p ≠ q) (u : ToolId) : (vacateMoved q u s).pocket p = s.pocket p := by
  unfold vacateMoved
  dsimp only
  split <;> simp [requestRead_pocket_ne h, pocket_modPocket_ne h, clearMark_pocket_ne h]

theorem departureRoom_vacateMoved (u : ToolId) (h : (s.pocket q).state ≠ .absent ∧ (s.pocket q).state ≠ .fault)
    (hr : (s.pocket q).openRelease = false) : (vacateMoved q u s).departureRoom = s.departureRoom := by
  refine departureRoom_of_openRelease (by simp) (by simp) ?_ fun p => ?_
  · rw [vacateMoved_eq u h, requestRead_pkc]
    simp
  · by_cases hp : p = q
    · subst hp
      rw [(vacateMoved_pocket_self (lt_of_pocket_present h.1) u h).congr Pocket.openRelease, hr]
      rfl
    · rw [vacateMoved_pocket_ne hp]

theorem vacateMoved_reader (q : PocketNo) (u : ToolId) (s : State) :
    (vacateMoved q u s).rds.inFlight = s.rds.inFlight ∧ (vacateMoved q u s).rds.sweep = s.rds.sweep := by
  unfold vacateMoved
  dsimp only
  split <;> simp

theorem mem_vacateMoved (hq : s.present q = true) (hf : (s.pocket q).state ≠ .fault) (hr : s.rds.inFlight.map (·.pocket) ≠ some q) (u : ToolId) :
    q ∈ (vacateMoved q u s).rds.queue := by
  obtain ⟨hlt, hst⟩ := State.present_iff.1 hq
  have hlen := lt_of_pocket_present hst
  rw [vacateMoved_eq u ⟨hst, hf⟩]
  refine mem_requestRead ?_ (by simpa using hr)
  rw [State.present_iff, pocket_modPocket_self _ (by simpa using hlen)]
  exact ⟨hlt, by simp [Pocket.vacatedBy]⟩

theorem entry?_dropEntry_self (u : ToolId) (s : State) : (dropEntry u s).entry? u = none := by
  simp [State.entry?]

theorem entry?_dropEntry_ne {v : ToolId} (h : v ≠ u) : (dropEntry u s).entry? v = s.entry? v := by
  rw [State.entry?, dropEntry_entries, List.find?_filter]
  refine congrFun (congrArg _ (funext fun e => ?_)) _
  by_cases he : e.tool = v <;> simp [he, h]

theorem losesTool_mark (k : Pocket) : ({ k with mark := none } : Pocket).losesTool = { k.losesTool with mark := none } := by
  unfold Pocket.losesTool
  cases k.state <;> rfl

/-- R13: the deletion of a tool in a pocket that no transfer, window or queue names. -/
theorem deleteEntry_placed {e : Entry} (he : s.entry? u = some e) (hh : e.custody ≠ .foreign) (hgz : e.custody ≠ .atGauge)
    (hp : e.pocket = some p) (hg : s.giverOf? u = none) (hq : u ∉ s.pru.queue) (hw : s.window? u = none) (hwait : s.cue.waiting = []) :
    deleteEntry u s = withdrawRecord u (dropEntry u (modPocket p Pocket.losesTool (clearMark p (some u) s))) := by
  rw [deleteEntry_eq he hh hgz hg hq hw hwait, clearEntryMark_some hp, tool_of_entry? he, vacateEntry, hp]

theorem losesTool_pocket_self (hp : p < s.pkc.pockets.length) (u : Option ToolId) :
    ({ (s.pocket p).losesTool with mark := none } : Pocket).Alike ((modPocket p Pocket.losesTool (clearMark p u s)).pocket p) :=
  losesTool_mark (s.pocket p) ▸
    ((Pocket.Alike.refl _).clearMark hp u).modPocket (f := Pocket.losesTool) (by simpa using hp) losesTool_indicator

/-! ### The tool on the gauge (R68 to R70) -/

theorem displaceGauge_none (h : s.trg.entries.all (fun x => !decide (x.custody = .atGauge)) = true) (u : ToolId) : displaceGauge u s = s := by
  have hnone : s.trg.entries.find? (fun e => decide (e.custody = .atGauge) && e.tool != u) = none := by
    refine List.find?_eq_none.2 fun e he => ?_
    have := List.all_eq_true.1 h e he
    simp_all
  rw [displaceGauge, hnone]

/-- R68: a tool under the kind of its entry comes to a gauge that no entry has. -/
theorem becomeGauge_eq {e : Entry} (h : s.entry? u = some e) (ha : s.adoptionOpen u = false)
    (hall : s.trg.entries.all (fun x => !decide (x.custody = .atGauge)) = true) :
    becomeGauge u e.kind s = handRecord u (putEntry
      { e with custody := .atGauge, pocket := none, destination := none, awayTimer := none, version := e.version + 1 }
      (clearEntryMark e s)) := by
  have hto : Entry.toGauge s e.kind e = { e with custody := .atGauge, pocket := none, destination := none, awayTimer := none } := by
    simp [Entry.toGauge, Entry.withKind]
  rw [becomeGauge, displaceGauge_none hall, versionedCondition_kept h (by rw [hto]), versioned_kept h ha (by rw [hto]), hto]

theorem exec_headTag {kind : Nat} (hs : s.headReads = true) (hv : toolIdValid u = true) (hk : kind < 64) (hg : s.pru.gauge = none) :
    exec (.headTag u kind) s =
      .next (settleReader (takeToGauge u kind { s with pru := { s.pru with gauge := some ⟨u, kind⟩ } })) := by
  show Host.Outcome.next _ = _
  rw [if_pos (by simp [hs, hv, hk]), headTag, hg]
  rfl

theorem takeToGauge_outside {e : Entry} (h : s.entry? u = some e) (hc : e.custody = .away ∨ e.custody = .lost) (kind : Nat) :
    takeToGauge u kind s = becomeGauge u kind s := by
  rcases hc with hc | hc <;> simp [takeToGauge, h, hc]

theorem takeToGauge_stocked {e : Entry} (h : s.entry? u = some e) (hc : e.custody = .stocked) (hp : e.pocket = some p)
    (hg : s.giverOf? u = none) (kind : Nat) :
    takeToGauge u kind s = if (vacateMoved p u s).departureRoom then becomeGauge u kind (vacateMoved p u s)
      else noticeLimit 48 u (deleteEntry u s) := by
  simp only [takeToGauge, h, hc, hp, gaugeFromPocket, withdrawGiver_none hg]

/-- R66: the bursts ended with the transmitter free. -/
theorem endBursts_eq (h : s.pru.tx = none) : endBursts s = { s with pru := { s.pru with burst := none, first := none, tx := if s.pru.burst.isSome then some ⟨.aborted, 0, 0, 0⟩ else none } } := by
  cases hb : s.pru.burst with
  | none => simp only [endBursts, abortBurst, hb]; simp [← h, ← hb]
  | some b => simp only [endBursts, abortBurst, hb, sendResult, h]; rfl

theorem dropWaitingAt_nil (h : s.cue.waiting = []) (x : Place) : dropWaitingAt x s = s := by
  have hcue : { s.cue with waiting := [] } = s.cue := h ▸ rfl
  simp only [dropWaitingAt, h, List.filter_nil, hcue]

/-- R70: the gauge tool, settled AT_GAUGE, taken off. -/
theorem tagGone_eq {g : GaugeTool} {e : Entry} (hg : s.pru.gauge = some g) (he : s.entry? g.tool = some e) (hc : e.custody = .atGauge)
    (hw : s.cue.waiting = []) :
    tagGone s = { versioned g.tool Entry.goAway (endBursts s) with
      pru := { (versioned g.tool Entry.goAway (endBursts s)).pru with gauge := none } } := by
  have hex : (endBursts s).entry? g.tool = some e := (entry?_of_trg (by simp) _).trans he
  simp only [tagGone, hg, hex, hc, if_true]
  rw [dropWaitingAt_nil (by simpa using hw)]

/-- Settles O32, by the place of the tool whose tag is on the gauge. -/
theorem gaugeFollowsTag : Obligations.GaugeFollowsTag := by
  refine ⟨fun u kind s => ⟨fun h => ?discarded, fun e hs hv hk hg hread hall he hc hp ha => ?outside⟩,
    fun u e p s hs hv hk hg hread hb he hc hp hlt hst hrel hgiv hwin hw => ⟨fun e' hd hall he' => ?room, fun hd hq => ?limit⟩,
    fun s hs => ⟨fun hg => ?ungauged, fun g e hg he hc hp hwin hb hw htx => ?gone⟩⟩
  case discarded =>
    refine congrArg Host.Outcome.next (if_neg ?_)
    rcases h with h | h <;> simp [h]
  case outside =>
    set x : State := { s with pru := { s.pru with gauge := some ⟨u, e.kind⟩ } } with hx
    have hbe := becomeGauge_eq (s := x) he ha hall
    rw [clearEntryMark_none hp] at hbe
    have hkeep : ({ e with custody := .atGauge, destination := none, awayTimer := none, version := e.version + 1 } : Entry) =
        { e with custody := .atGauge, pocket := none, destination := none, awayTimer := none, version := e.version + 1 } := by rw [← hp]
    rw [exec_headTag hs hv hk hg, takeToGauge_outside (s := x) he hc, hbe, settleReader_of_busy (hread.of_rds (by simp [hx]) (by simp [hx])), hkeep]
  case room =>
    set x : State := { s with pru := { s.pru with gauge := some ⟨u, e.kind⟩ } } with hx
    set y := vacateMoved p u x with hy
    have hlen := hb.pocket_lt hlt
    have hkeeps : (x.pocket p).state ≠ .absent ∧ (x.pocket p).state ≠ .fault := by
      simp [show (x.pocket p).state = .stocked from hst]
    have hyp := vacateMoved_pocket_self (s := x) hlen u hkeeps
    have hey : y.entry? u = some e := (entry?_of_trg (by simp [hy, hx]) _).trans he
    have hay : y.adoptionOpen u = false := (State.adoptionOpen_of_cue (by simp [hy, hx]) _).trans (adoptionOpen_of_windowOpen hwin)
    have hby : y.Bounded := vacateMoved_bounded p u (s := x) { hb with }
    have hroom : y.departureRoom = true := (departureRoom_vacateMoved (s := x) u hkeeps hrel).trans hd
    have hcl : clearEntryMark e y = y := by
      rw [clearEntryMark_some hp, clearMark_none (hyp.congr Pocket.mark)]
    have hbg := becomeGauge_eq hey hay (by simpa [hy, hx] using hall)
    rw [hcl, ← he'] at hbg
    have hput : (putEntry e' y).entry? u = some e' := entry?_putEntry_of_tool hby.register (by rw [he']; exact tool_of_entry? (e := e) he)
    obtain ⟨hflight, hsweep⟩ := vacateMoved_reader p u x
    rw [exec_headTag hs hv hk hg, takeToGauge_stocked (s := x) he hc hp hgiv, ← hy, if_pos hroom, hbg,
      settleReader_of_busy (hread.busy.of_rds (by simpa using hflight) (by simpa using hsweep))]
    have hpk : ∀ q, (handRecord u (putEntry e' y)).pocket q = y.pocket q := fun q => State.pocket_of_pkc (by simp) q
    have hzp := hpk p ▸ hyp
    refine ⟨_, rfl, ?_, fun v hne => ?_, hzp.congr Pocket.state, hzp.congr Pocket.check, hzp.congr Pocket.contents, hzp.congr Pocket.latch,
      hzp.congr Pocket.verified, hzp.congr Pocket.mark, hzp.congr Pocket.readRequested, hzp.congr Pocket.vacated, ?_, fun q hq => ?_,
      ?_, fun hn => ?_, ?_, ?_, ?_⟩
    · rw [entry?_of_trg (handRecord_frame _ _).1]; exact hput
    · rw [entry?_of_trg (handRecord_frame _ _).1, entry?_putEntry_ne hby.register (by rw [he']; simpa [tool_of_entry? he] using hne)]
      exact entry?_of_trg (by simp [hy, hx]) v
    · rw [(handRecord_frame _ _).2.2.1]
      exact mem_vacateMoved (s := x) (State.present_iff.2 ⟨hlt, hkeeps.1⟩) hkeeps.2 hread.notInFlight u
    · rw [hpk, hy, vacateMoved_pocket_ne hq]; rfl
    · simp [hy, hx]
    · rw [handRecord_eq hput (by rw [he']; simp) hay (by simpa [hy, hx] using hn)]
      simp [hy, hx]
    all_goals simp [hy, hx]
  case limit =>
    set x : State := { s with pru := { s.pru with gauge := some ⟨u, e.kind⟩ } } with hx
    have hlen := hb.pocket_lt hlt
    have hkeeps : (x.pocket p).state ≠ .absent ∧ (x.pocket p).state ≠ .fault := by
      simp [show (x.pocket p).state = .stocked from hst]
    have hfull : (vacateMoved p u x).departureRoom = false := (departureRoom_vacateMoved (s := x) u hkeeps hrel).trans hd
    have hwin' : s.window? u = none := by simpa [State.windowOpen] using hwin
    have hdel := deleteEntry_placed (s := x) he (by simp [hc]) (by simp [hc]) hp hgiv hq hwin' hw
    set w := clearMark p (some u) x with hwm
    have hzp := losesTool_pocket_self (s := x) hlen (some u)
    rw [show (x.pocket p).losesTool = _ from losesTool_stocked hst, ← hwm] at hzp
    rw [exec_headTag hs hv hk hg, takeToGauge_stocked (s := x) he hc hp hgiv, if_neg (by simp [hfull]), hdel,
      settleReader_of_busy (hread.busy.of_rds (by simp [hwm, hx]) (by simp [hwm, hx]))]
    set z := withdrawRecord u (dropEntry u (modPocket p Pocket.losesTool w)) with hz
    have hpk : ∀ r, (noticeLimit 48 u z).pocket r = (modPocket p Pocket.losesTool w).pocket r := fun r =>
      State.pocket_of_pkc (by simp [hz]) r
    have htp := hpk p ▸ hzp
    have hent : ∀ v, (noticeLimit 48 u z).entry? v = (dropEntry u s).entry? v := fun v =>
      entry?_of_trg (by simp [hz, hwm, hx, dropEntry]) v
    refine ⟨_, rfl, ?_, fun v hne => ?_, htp.congr Pocket.state, htp.congr Pocket.contents, htp.congr Pocket.latch,
      htp.congr Pocket.verified, htp.congr Pocket.mark, htp.congr Pocket.readRequested, htp.congr Pocket.vacated, fun r hr => ?_,
      fun hm hk hl => ?_, ?_, ?_, ?_, ?_, ?_, ?_⟩
    · rw [hent, entry?_dropEntry_self]
    · rw [hent, entry?_dropEntry_ne hne]
    · rw [hpk, pocket_modPocket_ne hr, hwm, clearMark_pocket_ne hr]; rfl
    · have hslk : z.slk = s.slk := by
        rw [hz, hwm, clearMark_none (s := x) hm]
        simp [hx]
      have hstc : z.stc = s.stc := by simp [hz, hwm, hx]
      refine (pushNotice_notices ((masked_of_stc hstc _).trans hk) (hslk ▸ hl)).trans (hslk ▸ rfl)
    all_goals simp [hz, hwm, hx, withdrawRecord]
  case ungauged =>
    show Host.Outcome.next _ = _
    simp [hs, tagGone, hg]
  case gone =>
    set x := endBursts s with hx
    have hxe := hx.trans (endBursts_eq htx)
    have hex : x.entry? g.tool = some e := (entry?_of_trg (by simp [hx]) _).trans he
    have hax : x.adoptionOpen g.tool = false := (State.adoptionOpen_of_cue (by simp [hx]) _).trans (adoptionOpen_of_windowOpen hwin)
    have hbx : x.Bounded := endBursts_bounded hb
    have hv := versioned_kept (f := Entry.goAway) hex hax rfl
    rw [clearEntryMark_none hp] at hv
    have hself := versioned_entry_self (f := Entry.goAway) hbx hex hax rfl
    have hhere : (putEntry { e.goAway with version := e.version + 1 } x).entry? g.tool = some { e.goAway with version := e.version + 1 } :=
      entry?_putEntry_of_tool hbx.register (show e.tool = g.tool from tool_of_entry? he)
    have hgo : ({ e.goAway with version := e.version + 1 } : Entry) =
        { e with custody := .away, destination := none, awayTimer := some 3600, version := e.version + 1 } := by
      simp only [Entry.goAway, ← hp]
    have hxh : x.hli = s.hli := by simp [hx]
    have hxn : x.stc = s.stc := by simp [hx]
    refine ⟨_, (congrArg Host.Outcome.next (if_pos hs)).trans (congrArg _ (tagGone_eq hg he hc hw)), ?_, hgo ▸ hself, fun v hne => ?_,
      fun e' he' hn => ?_, fun hn => ?_, ?_, ?_, ?_, ?_, ?_, ?_⟩
    · rw [← hx, hv]
      simp [hxe]
    · exact (versioned_entry_ne hbx hex hax rfl hne).trans (entry?_of_trg (by simp [hx]) v)
    · obtain rfl := Option.some.inj (hself.symm.trans he')
      rw [← hx, hv, handRecord_eq hhere (by simp [Entry.goAway]) hax (by simpa [hxn] using hn)]
      simp [hxh]
    · rw [← hx, hv, handRecord_none (.inr (.inr (by simpa [hxn] using hn)))]
      exact hxh
    · rw [← hx, hv]
      simp [hx]
    · simp
    · simp
    · rw [← hx, hv]
      simp [hx]
    · simp
    · simp

end Sys2Proof.Machine

/-! PROOFS. A SEEK heard: the candidates and their order, the offer, and the promotion without a candidate (O42). -/

namespace Sys2Proof.Machine

open Sys2Proof

variable {s t : State} {p q : PocketNo} {u : ToolId}

/-! ### The candidates (R124 to R127) -/

theorem foldl_insertRanked_spec {α : Type} (rank : α → Rank) (l a : List α)
    (ha : a.Pairwise (fun x y => (rank y).better (rank x) = false)) :
    (∀ x, x ∈ l.foldl (fun m e => insertRanked rank e m) a ↔ x ∈ l ∨ x ∈ a) ∧
    (l.foldl (fun m e => insertRanked rank e m) a).Pairwise (fun x y => (rank y).better (rank x) = false) := by
  induction l generalizing a with
  | nil => exact ⟨fun x => by simp, ha⟩
  | cons y ys ih =>
    obtain ⟨hmem, hord⟩ := ih (insertRanked rank y a) (insertRanked_ordered rank ha)
    refine ⟨fun x => ?_, hord⟩
    rw [List.foldl_cons, hmem, mem_insertRanked, List.mem_cons]
    tauto

theorem mem_candidates {w : Want} {m : SeekMode} {minLife : Nat} {e : Entry} :
    e ∈ s.candidates w m minLife ↔ e ∈ s.trg.entries ∧ s.candidate w m minLife e = true := by
  rw [State.candidates, (foldl_insertRanked_spec Entry.rank _ [] .nil).1]
  simp

theorem candidates_ordered (w : Want) (m : SeekMode) (minLife : Nat) :
    (s.candidates w m minLife).Pairwise (fun a b => b.rank.better a.rank = false) :=
  (foldl_insertRanked_spec Entry.rank _ [] .nil).2

theorem reservable_iff : s.reservable q = true ↔ (s.pocket q).state = .stocked ∧ (s.pocket q).latch = .locked ∧
    (s.pocket q).openRelease = false ∧ (s.pocket q).verified = true ∧ (s.pocket q).hold = false ∧ s.moduleActive q = true := by
  simp [State.reservable, and_assoc]

theorem wantAccepts_iff {w : Want} {k : Nat} : wantAccepts w u k = true ↔ w = .kind k ∨ w = .tool u := by
  cases w <;> simp [wantAccepts, eq_comm]

/-- R125: the stock that a seek can be given. -/
theorem issuable_iff {w : Want} {minLife : Nat} {e : Entry} : s.issuable w minLife e = true ↔
    e.custody = .stocked ∧ ∃ q p k, e.pocket = some q ∧ e.preset = some p ∧ s.kind? e.kind = some k ∧
      s.isCrib q = true ∧ s.reservable q = true ∧ s.checkPending e.tool = false ∧ s.windowOpen e.tool = false ∧
      e.condition = .ready ∧ minLife ≤ e.life ∧ p.age ≤ k.ageLimit ∧ (w = .kind e.kind ∨ w = .tool e.tool) := by
  unfold State.issuable
  cases e.pocket <;> cases e.preset <;> cases s.kind? e.kind <;> simp [reservable_iff, wantAccepts_iff]
  tauto

/-- R126: what an unattended seek asks besides. -/
theorem issuableUnattended_iff {minLife : Nat} {e : Entry} {p : Preset} {k : KindEntry} (hp : e.preset = some p)
    (hk : s.kind? e.kind = some k) : s.issuableUnattended minLife e = true ↔
    p.cls = .full ∧ (minLife ≤ e.life ∧ k.reserve ≤ e.life) ∧ k.unattended = true ∧ (s.cck.trust = true ∧ s.stc.node ≠ .configFault) ∧
      s.cck.low = false := by
  simp [State.issuableUnattended, hp, hk, State.clockTrusted, and_assoc]

theorem candidate_iff {w : Want} {m : SeekMode} {minLife : Nat} {e : Entry} : s.candidate w m minLife e = true ↔
    s.issuable w minLife e = true ∧ (m = .unattended → s.issuableUnattended minLife e = true) := by
  cases m <;> simp [State.candidate]

/-! ### The offer (R127) -/

theorem exec_seek {src n mode minLife : Nat} {w : Want} {m : SeekMode} (hs : s.hallTaken src = true) (hg : s.giver? src n = none)
    (hw : s.knowsWant w = true) (hm : modeOfCode mode = some m) :
    exec (.seekReceived src n w mode minLife) s = .next (answerSeek src n w m minLife s) := by
  show Host.Outcome.next _ = _
  rw [if_pos (by simp [hs, hg, hw]), hm]

theorem exec_seek_ignored {src n mode minLife : Nat} {w : Want}
    (h : (s.giver? src n).isSome = true ∨ (∃ k, w = .kind k ∧ s.kind? k = none) ∨ modeOfCode mode = none) :
    exec (.seekReceived src n w mode minLife) s = .next s := by
  refine congrArg Host.Outcome.next ?_
  rcases h with h | ⟨k, rfl, hk⟩ | h
  · exact if_neg (by simp [Option.isNone_eq_false_iff.2 h])
  · exact if_neg (by simp [State.knowsWant, hk])
  · rw [h, ite_self]

/-- R127: the first candidate's pocket is reserved and its entry offered. -/
theorem openGiver_eq {g : Giver} {e : Entry} (he : s.entry? g.tool = some e) (hu : s.hli.urgent.length < 8) (hn : s.stc.node ≠ .idConflict) :
    openGiver g q s = modPocket q (fun k => { k with state := .reserved })
      { s with
        trg := { s.trg with entries := insertEntry { e with custody := .reserved } s.trg.entries },
        cue := { s.cue with givers := s.cue.givers ++ [g] },
        hli := { s.hli with urgent := s.hli.urgent ++ [⟨g.lastFrame, .giver g.seeker g.seek⟩] } } := by
  set x := modPocket q (fun k => { k with state := .reserved }) s with hx
  have hmod : modEntry g.tool (fun e => { e with custody := .reserved }) x = putEntry { e with custody := .reserved } x :=
    modEntry_eq (s := x) he _
  rw [openGiver, ← hx]
  simp only [hmod]
  exact if_pos (urgentTakes_iff.2 ⟨hu, hn⟩)

/-! ### Promotion (R87) -/

theorem Condition.queued_iff {c : Condition} : c.queued = true ↔
    c = .needsPreset ∨ c = .expired ∨ c = .quarantine .runout ∨ c = .quarantine .outOfTol := by
  unfold Condition.queued
  split <;> simp

theorem promotable_iff {k limit : Nat} {e : Entry} :
    e ∈ s.trg.entries.filter (Entry.promotable k limit) ↔ s.PromotionCandidate k limit e := by
  rw [List.mem_filter, State.PromotionCandidate, Entry.promotable]
  cases e.preset <;> simp [Condition.queued_iff] <;> tauto

/-- Of the candidates, the one in the lowest pocket. -/
theorem foldl_lowerPocket {e : Entry} (hp : e.pocket = some p) (l : List Entry) (a : Entry)
    (h : ∀ f, f = a ∨ f ∈ l → f = e ∨ ∃ q, f.pocket = some q ∧ p < q) (he : e = a ∨ e ∈ l) : l.foldl lowerPocket a = e := by
  induction l generalizing a with
  | nil => exact (he.resolve_right (by simp)).symm
  | cons b l ih =>
    have ha := h a (.inl rfl)
    have hb := h b (.inr List.mem_cons_self)
    have hlow : lowerPocket a b = a ∨ lowerPocket a b = b := by
      unfold lowerPocket
      split
      · split <;> simp
      · simp
      · simp
    have hkeeps : e = a ∨ e = b → e = lowerPocket a b := by
      rintro (rfl | rfl)
      · rcases hb with rfl | ⟨q, hq, hlt⟩
        · exact (hlow.elim id id).symm
        · simp [lowerPocket, hp, hq, Nat.lt_asymm hlt]
      · rcases ha with rfl | ⟨q, hq, hlt⟩
        · exact (hlow.elim id id).symm
        · simp [lowerPocket, hp, hq, hlt]
    refine ih (lowerPocket a b) (fun f hf => ?_) ?_
    · rcases hf with rfl | hf
      · rcases hlow with hl | hl <;> rw [hl]
        · exact ha
        · exact hb
      · exact h f (.inr (List.mem_cons_of_mem b hf))
    · rcases he with rfl | he
      · exact .inl (hkeeps (.inl rfl))
      · exact (List.mem_cons.1 he).imp (fun h => hkeeps (.inr h)) id

theorem promotion_none {k limit : Nat} (h : ∀ e, ¬s.PromotionCandidate k limit e) : s.promotion k limit = none := by
  have hnil : s.trg.entries.filter (Entry.promotable k limit) = [] :=
    List.eq_nil_iff_forall_not_mem.2 fun e he => h e (promotable_iff.1 he)
  have hfind : s.pru.queue.find? (fun _ => false) = none := List.find?_eq_none.2 (by simp)
  simp [State.promotion, hnil, hfind]

theorem promotion_queued {k limit : Nat} {e : Entry} {pre post : List ToolId} (he : s.PromotionCandidate k limit e)
    (hq : s.pru.queue = pre ++ e.tool :: post) (hpre : ∀ f, s.PromotionCandidate k limit f → f.tool ∉ pre) :
    s.promotion k limit = some e.tool := by
  have hfind : s.pru.queue.find? (fun t => (s.trg.entries.filter (Entry.promotable k limit)).any (fun f => f.tool == t)) = some e.tool := by
    rw [hq, List.find?_append, List.find?_eq_none.2, Option.none_or, List.find?_cons_of_pos]
    · exact List.any_eq_true.2 ⟨e, promotable_iff.2 he, by simp⟩
    · intro v hv hany
      obtain ⟨f, hf, hfv⟩ := List.any_eq_true.1 hany
      exact hpre f (promotable_iff.1 hf) (eq_of_beq hfv ▸ hv)
  simp only [State.promotion, hfind]

theorem promotion_unqueued {k limit : Nat} {e : Entry} (he : s.PromotionCandidate k limit e) (hp : e.pocket = some p)
    (hall : ∀ f, s.PromotionCandidate k limit f → f.tool ∉ s.pru.queue ∧ (f = e ∨ ∃ q, f.pocket = some q ∧ p < q)) :
    s.promotion k limit = some e.tool := by
  set cs := s.trg.entries.filter (Entry.promotable k limit) with hcs
  have hfind : s.pru.queue.find? (fun t => cs.any (fun f => f.tool == t)) = none := by
    refine List.find?_eq_none.2 fun v hv hany => ?_
    obtain ⟨f, hf, hfv⟩ := List.any_eq_true.1 hany
    exact (hall f (promotable_iff.1 hf)).1 (eq_of_beq hfv ▸ hv)
  have hmem : e ∈ cs := promotable_iff.2 he
  simp only [State.promotion, ← hcs, hfind]
  cases hl : cs with
  | nil => simp [hl] at hmem
  | cons a l =>
    refine congrArg (fun f : Entry => some f.tool) (foldl_lowerPocket hp l a (fun f hf => ?_) ?_)
    · exact (hall f (promotable_iff.1 (by rw [← hcs, hl]; exact List.mem_cons.2 hf))).2
    · exact List.mem_cons.1 (hl ▸ hmem)

/-- A report to the Preset Queue moves no other tool in it. -/
theorem presetReport_others (u : ToolId) (s : State) :
    (presetReport u s).pru.queue.filter (· != u) = s.pru.queue.filter (· != u) := by
  have hrem : (presetRemove u s).pru.queue.filter (· != u) = s.pru.queue.filter (· != u) := by
    unfold presetRemove
    split
    · show (s.pru.queue.filter (· != u)).filter (· != u) = _
      rw [List.filter_filter]
      simp
    · rfl
  unfold presetReport
  split
  · split
    · split
      · rfl
      · split
        · show (s.pru.queue ++ [u]).filter (· != u) = _
          simp
        · rfl
    · exact hrem
  · exact hrem

theorem versioned_others (u : ToolId) (f : Entry → Entry) (s : State) :
    (versioned u f s).pru.queue.filter (· != u) = s.pru.queue.filter (· != u) := by
  unfold versioned
  split
  · rfl
  · dsimp only
    split
    · simp
    · rw [presetReport_others]
      simp

/-- R164: a versioned change touches the mark and the indicator of a pocket alone. -/
theorem versioned_pocket_marked {e : Entry} (h : s.entry? u = some e) (f : Entry → Entry) (q : PocketNo) :
    ∃ m i, (versioned u f s).pocket q = { s.pocket q with mark := m, indicator := i } := by
  have hcl : ∃ m i, (clearEntryMark e s).pocket q = { s.pocket q with mark := m, indicator := i } := by
    by_cases hq : e.pocket = some q
    · rw [clearEntryMark_some hq]
      by_cases hlen : q < s.pkc.pockets.length
      · obtain ⟨i, hi⟩ := clearMark_pocket_self hlen (some e.tool)
        exact ⟨none, i, hi⟩
      · refine ⟨_, _, State.pocket_of_pkc (s := s) ?_ q⟩
        rw [clearMark_pkc, modPocket_of_le _ (Nat.le_of_not_lt hlen), ite_self]
    · exact ⟨_, _, clearEntryMark_pocket_ne hq⟩
  obtain ⟨m, i, hm⟩ := hcl
  obtain ⟨j, hj⟩ := versioned_alike h f q
  exact ⟨m, j, by rw [hj, hm]⟩

theorem entry?_of_mem {e : Entry} (h : s.trg.entries.Pairwise (fun a b => a.tool < b.tool)) (he : e ∈ s.trg.entries) :
    s.entry? e.tool = some e := by
  cases hx : s.entry? e.tool with
  | none => exact absurd (beq_self_eq_true e.tool) (List.find?_eq_none.1 hx e he)
  | some x =>
    obtain ⟨hmem, htool⟩ := mem_of_entry? hx
    rw [eq_of_tool_eq h hmem he htool]

theorem promote_none {k : Nat} {d : KindEntry} (hk : s.kind? k = some d) (h : s.promotion k d.ageLimit = none) : promote k s = s := by
  simp [promote, hk, h]

theorem promote_waiting {k : Nat} {d : KindEntry} {e : Entry} (hk : s.kind? k = some d) (h : s.promotion k d.ageLimit = some u)
    (he : s.entry? u = some e) (hc : e.condition ≠ .ready) : promote k s = setPresetQueue (promoted u s.pru.queue) s := by
  simp [promote, hk, h, he, hc]

theorem promote_ready {k : Nat} {d : KindEntry} {e : Entry} (hk : s.kind? k = some d) (h : s.promotion k d.ageLimit = some u)
    (he : s.entry? u = some e) (hc : e.condition = .ready) :
    promote k s = setPresetQueue (promoted u s.pru.queue) (versioned u (fun e => { e with condition := .needsPreset }) s) := by
  have hq : promoted u (versioned u (fun e => { e with condition := .needsPreset }) s).pru.queue = promoted u s.pru.queue := by
    simp only [promoted, versioned_others]
  simp only [promote, hk, h, he, hc, if_true, hq]

/-- Settles O42: who is answered, the candidates by the clauses of R125 and R126, and the promotion by the first of the waiting tools. -/
theorem seekIsOffered : Obligations.SeekIsOffered := by
  refine ⟨fun src n mode minLife w s => ⟨exec_seek_ignored, fun m u hm hw hc => ?unfilled,
      fun m e q rest hs hg hw hm hc ho hd hu hn he hp hr => ?offered⟩,
    fun w m minLife e s => ⟨?candidates, candidates_ordered w m minLife, fun q p hq hp hh => ?rank, fun q => reservable_iff⟩,
    fun src n mode minLife k m d s hs hg hm hk hc => ?promotes⟩
  case unfilled =>
    subst hw
    show Host.Outcome.next _ = _
    simp [hm, answerSeek, hc, seekUnfilled]
  case offered =>
    have hfirst : s.firstReservable (e :: rest) = some (e, q) := by simp [State.firstReservable, hp, hr]
    rw [exec_seek hs hg hw hm, answerSeek, hc]
    simp only [State.mayOffer, State.urgentSpace, ho, hd, hu, hfirst, decide_true, Bool.and_self, if_true]
    rw [openGiver_eq (g := newGiver src n w m minLife q e) he hu hn]
    rfl
  case candidates =>
    rw [mem_candidates, candidate_iff, issuable_iff]
    constructor
    · rintro ⟨hmem, ⟨hst, q, p, k, hq, hp, hk, hcrib, hres, hchk, hwin, hrdy, hlife, hage, hwant⟩, hun⟩
      obtain ⟨h1, h2, h3, h4, h5, h6⟩ := reservable_iff.1 hres
      refine ⟨hmem, hst, hrdy, hwant, hlife, hchk, hwin, q, p, k, hq, hp, hk, hage, hcrib, h6, h1, h2, h3, h4, h5, fun hm => ?_⟩
      obtain ⟨hf, ⟨-, hr⟩, hu, ⟨ht, hn⟩, hl⟩ := (issuableUnattended_iff hp hk).1 (hun hm)
      exact ⟨hf, hr, hu, ht, hl, hn⟩
    · rintro ⟨hmem, hst, hrdy, hwant, hlife, hchk, hwin, q, p, k, hq, hp, hk, hage, hcrib, h6, h1, h2, h3, h4, h5, hun⟩
      refine ⟨hmem, ⟨hst, q, p, k, hq, hp, hk, hcrib, reservable_iff.2 ⟨h1, h2, h3, h4, h5, h6⟩, hchk, hwin, hrdy, hlife, hage, hwant⟩,
        fun hm => ?_⟩
      obtain ⟨hf, hr, hu, ht, hl, hn⟩ := hun hm
      exact (issuableUnattended_iff hp hk).2 ⟨hf, ⟨hlife, hr⟩, hu, ⟨ht, hn⟩, hl⟩
  case rank => simp [Entry.rank, Record.rank, Entry.record, hq, hp]
  case promotes =>
    have hexec : exec (.seekReceived src n (.kind k) mode minLife) s = .next (promote k s) := by
      rw [exec_seek hs hg (by simp [State.knowsWant, hk]) hm, answerSeek, hc]
      rfl
    rw [hexec]
    refine ⟨fun h => by rw [promote_none hk (promotion_none h)], fun e hb he hfirst => ?_⟩
    have hprom : s.promotion k d.ageLimit = some e.tool := by
      rcases hfirst with ⟨pre, post, hq, hpre⟩ | ⟨p, hp, hall⟩
      · exact promotion_queued he hq hpre
      · exact promotion_unqueued he hp hall
    have hent : s.entry? e.tool = some e := entry?_of_mem hb.register he.1
    by_cases hr : e.condition = .ready
    · set x := versioned e.tool (fun e => { e with condition := .needsPreset }) s with hx
      rw [promote_ready hk hprom hent hr, ← hx]
      refine ⟨_, rfl, ?_, fun q => ?_, fun h => absurd hr h, fun _ ha => ⟨?_, fun v hv => ?_, fun hn => ?_⟩,
        by simp [hx], by simp [hx], by simp [hx], by simp [hx]⟩
      · rw [show (setPresetQueue (promoted e.tool s.pru.queue) x).pru = { x.pru with queue := promoted e.tool s.pru.queue } from rfl,
          hx, versioned_pru]
        rfl
      · obtain ⟨m, i, hm⟩ := versioned_pocket_marked hent (fun e => { e with condition := .needsPreset }) q
        have hal := setPresetQueue_alike (promoted e.tool s.pru.queue) q x
        rw [hx, hm] at hal
        exact ⟨hal.congr Pocket.state, hal.congr Pocket.contents, hal.congr Pocket.latch⟩
      · exact versioned_entry_self hb hent ha rfl
      · exact versioned_entry_ne hb hent ha rfl hv
      · have hput : (putEntry { e with condition := .needsPreset, version := e.version + 1 } (clearEntryMark e s)).entry? e.tool =
            some { e with condition := .needsPreset, version := e.version + 1 } :=
          entry?_putEntry_self (by simpa using hb.register)
        have hhli : (setPresetQueue (promoted e.tool s.pru.queue) x).hli = { s.hli with
            routine := placeRecord { e.record with condition := .needsPreset, version := e.version + 1 } s.hli.routine } := by
          rw [(setPresetQueue_frame _ _).2.2.2.1, hx, versioned_eq hent ha, if_neg (by simp [hr]), (presetReport_frame _ _).2.2.2.1,
            handRecord_eq hput (by simp [he.2.1]) ((State.adoptionOpen_of_cue (by simp) _).trans ha) (by simpa using hn)]
          simp [Entry.record]
        rw [hhli]
        exact ⟨rfl, rfl, rfl, rfl⟩
    · rw [promote_waiting hk hprom hent hr]
      refine ⟨_, rfl, rfl, fun q => ?_, fun _ => ⟨rfl, rfl, rfl⟩, fun h => absurd h hr, rfl, rfl, rfl, rfl⟩
      have hal := setPresetQueue_alike (promoted e.tool s.pru.queue) q s
      exact ⟨hal.congr Pocket.state, hal.congr Pocket.contents, hal.congr Pocket.latch⟩

end Sys2Proof.Machine

/-! PROOFS. The end of a read: its outcome, the layer of facts every case uses, and the read of an inserted tool (O26). -/

namespace Sys2Proof.Machine

open Sys2Proof

variable {s t : State} {p q : PocketNo} {u : ToolId} {r : Read} {a : AttemptResult} {o : Outcome}

/-! ### The outcome of a read (R50) -/

/-- R50: attempt result a ends read r with outcome o. -/
inductive Read.Ends (r : Read) : AttemptResult → Outcome → Prop
  | noTag : r.Ends .noTag .noTag
  | tag {u : ToolId} (kind : Nat) (hu : toolIdValid u = true) : r.Ends (.tag u kind) (.tag u kind)
  | fail (h : r.fails = 2) : r.Ends .fail .readFail

/-- R50: the reader free again after its read. -/
def State.freed (s : State) : State := { s with rds := { s.rds with inFlight := none } }

theorem exec_readEnds (hs : s.running = true) (hr : s.rds.inFlight = some r) (h : r.Ends a o) :
    exec (.readAttemptEnd a) s = .next (settleReader (deliver r.pocket o s.freed)) := by
  show Host.Outcome.next _ = _
  rw [if_pos hs, hr]
  cases h with
  | noTag => rfl
  | tag kind hu => exact congrArg Host.Outcome.next (if_pos hu)
  | fail h => exact congrArg Host.Outcome.next (if_neg (by omega))

theorem exec_readCounts (hs : s.running = true) (hr : s.rds.inFlight = some r) (hf : r.fails < 2)
    (h : a = .fail ∨ ∃ u k, a = .tag u k ∧ toolIdValid u = false) :
    exec (.readAttemptEnd a) s = .next { s with rds := { s.rds with inFlight := some { r with fails := r.fails + 1 } } } := by
  have hfail : failAttempt r s = { s with rds := { s.rds with inFlight := some { r with fails := r.fails + 1 } } } := if_pos hf
  show Host.Outcome.next _ = _
  rw [if_pos hs, hr]
  rcases h with rfl | ⟨u, k, rfl, hu⟩
  · exact congrArg Host.Outcome.next hfail
  · exact congrArg Host.Outcome.next ((if_neg (by simp [hu])).trans hfail)

/-! ### What the delivery of an outcome leaves (R52) -/

/-- State t is s after its read, but for the pockets. -/
def State.AfterRead (s t : State) : Prop :=
  t = { s with pkc := { s.pkc with pockets := t.pkc.pockets }, rds := { s.rds with inFlight := none } }

theorem State.AfterRead.freed (s : State) : s.AfterRead s.freed := rfl

theorem State.AfterRead.modPocket (h : s.AfterRead t) (p : PocketNo) (f : Pocket → Pocket) : s.AfterRead (modPocket p f t) := by
  obtain ⟨ps, rfl⟩ : ∃ ps, t = { s with pkc := { s.pkc with pockets := ps }, rds := { s.rds with inFlight := none } } := ⟨_, h⟩
  rfl

/-- The blocks that a read leaves as they are. -/
theorem State.AfterRead.blocks (h : s.AfterRead t) : t.trg = s.trg ∧ t.pkc.modules = s.pkc.modules ∧
    t.rds = { s.rds with inFlight := none } ∧ t.pru = s.pru ∧ t.cue = s.cue ∧ t.hli = s.hli ∧ t.slk = s.slk ∧ t.cck = s.cck ∧
    t.stc = s.stc ∧ t.free = s.free := by
  rw [h]
  exact ⟨rfl, rfl, rfl, rfl, rfl, rfl, rfl, rfl, rfl, rfl⟩

/-- R52: the pocket's record as its own logic meets the outcome. -/
def Pocket.readBy (o : Outcome) (k : Pocket) : Pocket := { k with verified := k.verified || !decide (o = .readFail), readRequested := false }

/-- R52: the state in which the pocket's own logic takes the outcome of a read it asked for. -/
def State.readBy (s : State) (p : PocketNo) (o : Outcome) : State :=
  modPocket p (fun k => { k with readRequested := false })
    (if o = .readFail then s.freed else Sys2Proof.Machine.modPocket p (fun k => { k with verified := true }) s.freed)

theorem afterRead_readBy (s : State) (p : PocketNo) (o : Outcome) : s.AfterRead (s.readBy p o) := by
  unfold State.readBy
  split
  · exact (State.AfterRead.freed s).modPocket _ _
  · exact ((State.AfterRead.freed s).modPocket _ _).modPocket _ _

@[simp] theorem readBy_length (s : State) (p : PocketNo) (o : Outcome) : (s.readBy p o).pkc.pockets.length = s.pkc.pockets.length := by
  unfold State.readBy
  split <;> simp [State.freed]

theorem readBy_pocket_self (hp : p < s.pkc.pockets.length) (o : Outcome) : ((s.pocket p).readBy o).Alike ((s.readBy p o).pocket p) := by
  unfold State.readBy
  split
  · next h =>
    subst h
    refine Pocket.Alike.trans (.of_eq ?_) (modPocket_alike (s := s.freed) hp)
    show ({ s.pocket p with readRequested := false } : Pocket) = _
    simp [Pocket.readBy]
  · next h =>
    have hv : ({ s.pocket p with verified := true } : Pocket).Alike
        ((Sys2Proof.Machine.modPocket p (fun k => { k with verified := true }) s.freed).pocket p) := modPocket_alike (s := s.freed) hp
    refine Pocket.Alike.trans (.of_eq ?_) (hv.modPocket (f := fun k => { k with readRequested := false }) (by simpa [State.freed] using hp))
    simp [Pocket.readBy, h]

theorem readBy_pocket_ne (h : q ≠ p) (o : Outcome) : (s.readBy p o).pocket q = s.pocket q := by
  unfold State.readBy
  split <;> simp [pocket_modPocket_ne h] <;> rfl

theorem readBy_bounded (h : s.Bounded) : (s.readBy p o).Bounded := by
  have hf : s.freed.Bounded := { h with }
  unfold State.readBy
  split
  · exact modPocket_bounded _ _ hf
  · exact modPocket_bounded _ _ (modPocket_bounded _ _ hf)

/-- A read that its pocket asked for, and with which no sweep, presence check or other read has to do. -/
structure State.OwnRead (s : State) (r : Read) : Prop where
  running : s.running = true
  inFlight : s.rds.inFlight = some r
  queue : s.rds.queue = []
  sweep : s.rds.sweep = .idle
  awaiting : s.rds.awaiting = false
  checks : s.trg.checks = []
  asked : (s.pocket r.pocket).readRequested = true

theorem State.SoleRead.own (h : s.SoleRead r) (ha : (s.pocket r.pocket).readRequested = true) : s.OwnRead r :=
  ⟨h.running, h.inFlight, h.queue, h.sweep, h.awaiting, h.checks, ha⟩

/-- R52: the pocket's own logic takes the outcome, and R2 the kind of the tool that was there. -/
theorem deliver_own {y : State} (h : s.OwnRead r) (hy : ownLogic r.pocket o (s.readBy r.pocket o) = y) (ha : y.rds.awaiting = false)
    (hc : y.trg.checks = [])
    (hk : ∀ u kind, o = .tag u kind → (s.pocket r.pocket).contents = some u → retag u kind y = y) : deliver r.pocket o s.freed = y := by
  have hpk : s.freed.pocket r.pocket = s.pocket r.pocket := rfl
  have hkeep : (s.pocket r.pocket).keepsFlag = false := by simp [Pocket.keepsFlag, h.asked]
  rw [State.readBy] at hy
  unfold deliver
  simp only [hpk, hkeep, h.asked, Bool.false_or, decide_eq_true_eq, if_true, hy, ha, hc, Bool.false_and, List.filter_nil,
    List.foldl_nil, Bool.false_eq_true, if_false]
  cases o with
  | tag u kind =>
    by_cases hu : (s.pocket r.pocket).contents = some u
    · simp [hu, hk u kind rfl hu]
    · simp [hu]
  | noTag => rfl
  | readFail => rfl

/-- A read ends with the reader left free. -/
theorem exec_ownRead {y : State} (h : s.OwnRead r) (he : r.Ends a o) (hy : ownLogic r.pocket o (s.readBy r.pocket o) = y)
    (hr : y.rds = { s.rds with inFlight := none }) (hc : y.trg.checks = [])
    (hk : ∀ u kind, o = .tag u kind → (s.pocket r.pocket).contents = some u → retag u kind y = y) :
    exec (.readAttemptEnd a) s = .next y := by
  rw [exec_readEnds h.running h.inFlight he, deliver_own h hy (by rw [hr]; exact h.awaiting) hc hk]
  exact congrArg _ (settleReader_stays (.inr (by rw [hr]; exact h.queue)) (by rw [hr]; simp [h.sweep]))

/-- A read ends with nothing changed but the pockets. -/
theorem exec_ownRead_pockets {y : State} (h : s.OwnRead r) (he : r.Ends a o)
    (hy : ownLogic r.pocket o (s.readBy r.pocket o) = y) (hpk : s.AfterRead y)
    (hk : ∀ u kind, o = .tag u kind → (s.pocket r.pocket).contents = some u → retag u kind y = y) :
    exec (.readAttemptEnd a) s = .next y := by
  obtain ⟨htrg, -, hrds, -⟩ := hpk.blocks
  exact exec_ownRead h he hy hrds (by rw [htrg]; exact h.checks) hk

/-! ### The pocket's own logic by its state (R52) -/

theorem ownLogic_insert {k : Pocket} (hk : k.Alike (s.pocket p)) (hst : k.state = .checking) (hc : k.check = some .insert)
    (hv : k.vacated = none) (o : Outcome) : ownLogic p o s = insertOutcome p o s := by
  simp [ownLogic, hk.congr Pocket.state, hk.congr Pocket.check, hk.congr Pocket.vacated, hst, hc, hv]

theorem ownLogic_vacated {k : Pocket} {v : Vacated} (hk : k.Alike (s.pocket p)) (hst : k.state = .checking) (hc : k.check = some .insert)
    (hv : k.vacated = some v) (o : Outcome) : ownLogic p o s = vacatedOutcome p v o s := by
  simp [ownLogic, hk.congr Pocket.state, hk.congr Pocket.check, hk.congr Pocket.vacated, hst, hc, hv]

theorem ownLogic_remove {k : Pocket} (hk : k.Alike (s.pocket p)) (hst : k.state = .checking) (hc : k.check = some .remove)
    (hu : k.contents = some u) (o : Outcome) : ownLogic p o s = removeOutcome p u o s := by
  simp [ownLogic, hk.congr Pocket.state, hk.congr Pocket.check, hk.congr Pocket.contents, hst, hc, hu]

theorem ownLogic_recheck {k : Pocket} (hk : k.Alike (s.pocket p))
    (hst : k.state = .checking ∧ k.check = some .recheck ∨ k.state = .reserved) (hu : k.contents = some u) (o : Outcome) :
    ownLogic p o s = recheckOutcome p u o s := by
  rcases hst with ⟨hst, hc⟩ | hst
  · simp [ownLogic, hk.congr Pocket.state, hk.congr Pocket.check, hk.congr Pocket.contents, hst, hc, hu]
  · simp [ownLogic, hk.congr Pocket.state, hk.congr Pocket.contents, hst, hu]

theorem ownLogic_target {k : Pocket} (hk : k.Alike (s.pocket p)) (hst : k.state = .awaiting ∨ k.state = .wrongTool) (o : Outcome) :
    ownLogic p o s = targetOutcome p o s := by
  rcases hst with hst | hst <;> simp [ownLogic, hk.congr Pocket.state, hst]

theorem ownLogic_releasing {k : Pocket} {g : Giver} (hk : k.Alike (s.pocket p)) (hst : k.state = .releasing)
    (hg : s.giverAt? p = some g) (o : Outcome) : ownLogic p o s = releasingOutcome g p o s := by
  simp [ownLogic, hk.congr Pocket.state, hst, hg]

/-! ### The RECORD of a versioned change (R8, R94) -/

theorem versioned_hli {e : Entry} {f : Entry → Entry} (hb : s.Bounded) (h : s.entry? u = some e) (ha : s.adoptionOpen u = false)
    (hf : (f e).tool = e.tool) (hh : (f e).custody ≠ .foreign) (hn : s.stc.node ≠ .idConflict) :
    (versioned u f s).hli =
      { s.hli with routine := placeRecord { f e with version := e.version + 1 : Entry }.record s.hli.routine } := by
  have hput : (putEntry { f e with version := e.version + 1 } (clearEntryMark e s)).entry? u = some { f e with version := e.version + 1 } :=
    entry?_putEntry_of_tool (by simpa using hb.register) (hf.trans (tool_of_entry? h))
  have hrec := handRecord_eq hput hh ((State.adoptionOpen_of_cue (by simp) _).trans ha) (by simpa using hn)
  rw [versioned_eq h ha]
  split
  · rw [id, hrec]; simp
  · rw [(presetReport_frame _ _).2.2.2.1, hrec]; simp

/-! ### The read of an inserted tool (R52, R53, R148) -/

/-- R23: a tool heard of twice is put in quarantine by a versioned change. -/
theorem conflictFound_eq {e : Entry} (h : s.entry? u = some e) (hc : e.condition ≠ .quarantine .duplicate) (hg : s.giverOf? u = none) :
    conflictFound u s = versioned u (fun e => { e with condition := .quarantine .duplicate, conflict := true }) s := by
  simp [conflictFound, h, hc, versionedCondition_eq hg]

/-- Settles O26, by the outcome of the read and the vacated mark. -/
theorem insertReadEnds : Obligations.InsertReadEnds := by
  refine ⟨fun a s => ⟨fun h => ?idle, fun r hs hr hf h => exec_readCounts hs hr hf h⟩,
    fun r s hs hr hq hw ha hc hlen hst hch hreq hv => ⟨?noTag, fun hf => ?readFail⟩,
    fun r v kind s hsole hst hch hcon hreq hv => ⟨?gone, fun hf hu => ?again, fun e hf hu he hh hep hcond hg hadopt => ?found⟩⟩
  case idle =>
    show Host.Outcome.next _ = _
    simp [h]
  case noTag =>
    have hown : s.OwnRead r := ⟨hs, hr, hq, hw, ha, hc, hreq⟩
    have hp : r.pocket < s.pkc.pockets.length := lt_of_pocket_present (by simp [hst])
    have hk := readBy_pocket_self hp .noTag
    have hy := hk.modPocket (f := fun k => { k.toEmpty with verified := true }) (by simpa using hp)
    have hafter := (afterRead_readBy s r.pocket .noTag).modPocket r.pocket (fun k => { k.toEmpty with verified := true })
    refine ⟨_, exec_ownRead_pockets hown .noTag (ownLogic_insert hk hst hch hv _) hafter (by simp), hy.congr Pocket.state,
      hy.congr Pocket.latch, hy.congr Pocket.verified, hy.congr Pocket.contents, hy.congr Pocket.readRequested,
      hy.congr Pocket.mark, hy.congr Pocket.hold, fun q hne => ?_, hafter⟩
    exact (pocket_modPocket_ne hne _ _).trans (readBy_pocket_ne hne _)
  case readFail =>
    have hown : s.OwnRead r := ⟨hs, hr, hq, hw, ha, hc, hreq⟩
    have hp : r.pocket < s.pkc.pockets.length := lt_of_pocket_present (by simp [hst])
    have hk := readBy_pocket_self hp .readFail
    have hy := hk.modPocket (f := fun k => { k with verified := false }) (by simpa using hp)
    have hafter := (afterRead_readBy s r.pocket .readFail).modPocket r.pocket (fun k => { k with verified := false })
    refine ⟨_, exec_ownRead_pockets hown (.fail hf) (ownLogic_insert hk hst hch hv _) hafter (by simp),
      (hy.congr Pocket.state).trans hst, (hy.congr Pocket.check).trans hch, hy.congr Pocket.latch, hy.congr Pocket.verified,
      hy.congr Pocket.readRequested, fun q hne => ?_, hafter⟩
    exact (pocket_modPocket_ne hne _ _).trans (readBy_pocket_ne hne _)
  all_goals
    have hown := hsole.own hreq
    have hp := hsole.bounded.pocket_lt hsole.range
  case gone =>
    have hk := readBy_pocket_self hp .noTag
    have hx := hk.modPocket (f := fun k => { k with vacated := none }) (by simpa using hp)
    have hy := hx.modPocket (f := fun k => { k.toEmpty with verified := true }) (by simpa using hp)
    have hafter := ((afterRead_readBy s r.pocket .noTag).modPocket r.pocket (fun k => { k with vacated := none })).modPocket r.pocket
      (fun k => { k.toEmpty with verified := true })
    refine ⟨_, exec_ownRead_pockets hown .noTag (ownLogic_vacated hk hst hch hv _) hafter (by simp), hy.congr Pocket.state,
      hy.congr Pocket.latch, hy.congr Pocket.verified, hy.congr Pocket.vacated, fun q hne => ?_, hafter⟩
    exact ((pocket_modPocket_ne hne _ _).trans (pocket_modPocket_ne hne _ _)).trans (readBy_pocket_ne hne _)
  case again =>
    have hk := readBy_pocket_self hp (.tag v.tool kind)
    have hy := hk.modPocket (f := fun k => { k with vacated := some { v with found := true }, verified := false }) (by simpa using hp)
    have hafter := (afterRead_readBy s r.pocket (.tag v.tool kind)).modPocket r.pocket
      (fun k => { k with vacated := some { v with found := true }, verified := false })
    have hlogic := (ownLogic_vacated hk hst hch hv (.tag v.tool kind)).trans
      (show vacatedOutcome r.pocket v (.tag v.tool kind) (s.readBy r.pocket (.tag v.tool kind)) = modPocket r.pocket
        (fun k => { k with vacated := some { v with found := true }, verified := false }) (s.readBy r.pocket (.tag v.tool kind)) by
          simp [vacatedOutcome, hf])
    have hvf : ({ v with found := true } : Vacated) = v := by rw [← hf]
    refine ⟨_, exec_ownRead_pockets hown (.tag kind hu) hlogic hafter (by simp [hcon]), (hy.congr Pocket.state).trans hst,
      (hy.congr Pocket.check).trans hch, (hy.congr Pocket.vacated).trans (congrArg some hvf), hy.congr Pocket.verified,
      hy.congr Pocket.readRequested, hy.congr Pocket.latch, fun q hne => ?_, hafter⟩
    exact (pocket_modPocket_ne hne _ _).trans (readBy_pocket_ne hne _)
  case found =>
    have hk := readBy_pocket_self hp (.tag v.tool kind)
    set x := modPocket r.pocket (fun k => { k with vacated := some { v with found := true }, verified := false })
      (s.readBy r.pocket (.tag v.tool kind)) with hx
    have hxk := hk.modPocket (f := fun k => { k with vacated := some { v with found := true }, verified := false }) (by simpa using hp)
    rw [← hx] at hxk
    have hafter : s.AfterRead x := (afterRead_readBy s r.pocket (.tag v.tool kind)).modPocket _ _
    obtain ⟨htrg, -, hrds, hpru, hcue, hhli, -, hcck, hstc, -⟩ := hafter.blocks
    have hex : x.entry? v.tool = some e := (entry?_of_trg htrg _).trans he
    have hgx : x.giverOf? v.tool = none := (giverOf?_of_cue hcue _).trans hg
    have hax : x.adoptionOpen v.tool = false := (State.adoptionOpen_of_cue hcue _).trans hadopt
    have hbx : x.Bounded := modPocket_bounded _ _ (readBy_bounded hsole.bounded)
    set y := versioned v.tool (fun e => { e with condition := .quarantine .duplicate, conflict := true }) x with hy
    have hlogic : ownLogic r.pocket (.tag v.tool kind) (s.readBy r.pocket (.tag v.tool kind)) = y := by
      rw [ownLogic_vacated hk hst hch hv, hy, ← conflictFound_eq hex hcond hgx]
      simp [vacatedOutcome, hf, ← hx, hex, Entry.here_iff.2 hh]
    have hyk := hxk.trans (versioned_pocket_ne hex hep (fun e => { e with condition := .quarantine .duplicate, conflict := true }))
    refine ⟨y, _, exec_ownRead hown (.tag kind hu) hlogic (by simp [hy, hrds]) ?_ (by simp [hcon]), versioned_entry_self hbx hex hax rfl,
      rfl, fun w hw => ?_, (hyk.congr Pocket.state).trans hst, (hyk.congr Pocket.check).trans hch, hyk.congr Pocket.vacated,
      hyk.congr Pocket.verified, hyk.congr Pocket.readRequested, hyk.congr Pocket.latch,
      not_mem_queue_versioned hbx hex hax rfl (by simpa using Ne.symm hcond) rfl, by simp [hy, hrds], fun hn => ?_, by simp [hy, hcue],
      by simp [hy, hcck], by simp [hy, hstc]⟩
    · rw [hy, versioned_trg hex hax]
      exact (congrArg Trg.checks htrg).trans hown.checks
    · exact (versioned_entry_ne hbx hex hax rfl hw).trans (entry?_of_trg htrg w)
    · rw [hy, versioned_hli hbx hex hax rfl (by simpa using hh) (by simpa [hstc] using hn), hhli]

end Sys2Proof.Machine

/-! PROOFS. Arrivals: the adoption of an unknown tool (O29), and the tools a read finds in another place (O27). -/

namespace Sys2Proof.Machine

open Sys2Proof

variable {s t : State} {p q : PocketNo} {u : ToolId} {r : Read} {a : AttemptResult} {o : Outcome}

/-! ### What a tag read makes of its tool (R2, R54, R121) -/

/-- R2: a tag under the kind of the entry changes nothing. -/
theorem retag_kept {e : Entry} (h : s.entry? u = some e) : retag u e.kind s = s := by
  simp [retag, h]

theorem takerFor?_of (hm : t.pkc.modules = s.pkc.modules) (hc : t.cue = s.cue) (p : PocketNo) (u : ToolId) :
    t.takerFor? p u = s.takerFor? p u := by
  have hmod : t.moduleOf p = s.moduleOf p := by simp only [State.moduleOf, hm]
  unfold State.takerFor? State.isMagazine State.hasLock
  rw [hmod, hc]

theorem takerAt?_of_cue (h : t.cue = s.cue) (p : PocketNo) : t.takerAt? p = s.takerAt? p := by
  simp only [State.takerAt?, h]

theorem arriveInsert_settles (h : s.takerFor? p u = none) (kind : Nat) : arriveInsert p u kind s = settleTag p u kind s := by
  simp [arriveInsert, h]

/-! ### Adoption (R139, R140) -/

/-- R140: the entry of a tool adopted in a pocket. -/
theorem openAdoption_new {kind : Nat} (he : s.entry? u = none) (hl : s.trg.entries.length < 256) (hu : s.hli.urgent.length < 8)
    (hn : s.stc.node ≠ .idConflict) : openAdoption u kind (.pocket p) s = presetReport u
      { modPocket p (fun k => { k.occupied u with readRequested := false }) s with
        trg := { s.trg with entries := insertEntry (adoptedEntry s.ownId u kind (.pocket p)) s.trg.entries,
                            heard := s.trg.heard.filter (· != u) },
        cue := { s.cue with windows := s.cue.windows ++ [{ tool := u, use := .adoption (.pocket p) none none, timer := 3 }] },
        hli := { s.hli with urgent := s.hli.urgent ++ [⟨.whereis u, .window u⟩] } } := by
  have hcreate : createEntry (adoptedEntry s.ownId u kind (.pocket p)) s = putEntry (adoptedEntry s.ownId u kind (.pocket p)) s := by
    have hnone : s.entry? (adoptedEntry s.ownId u kind (.pocket p)).tool = none := he
    simp only [createEntry, hnone, evictForRoom, hl, if_true]
  rw [openAdoption, if_neg (by simp)]
  simp only [reduceCtorEq, if_false, he, Option.map_none, hcreate]
  rw [handPlain_eq (by exact hu) (by exact hn)]
  rfl

/-- Settles O29: the adoption that the tag of an unknown tool opens. -/
theorem adoptionOpens : Obligations.AdoptionOpens := by
  intro r u kind s hs hn hb hr hq hw ha hc hst hch hreq hv hval he hl htk hwin hwait hurg hpq hpn
  have hown : s.OwnRead r := ⟨hs, hr, hq, hw, ha, hc, hreq⟩
  have hp : r.pocket < s.pkc.pockets.length := lt_of_pocket_present (by simp [hst])
  have hk := readBy_pocket_self hp (.tag u kind)
  set x := s.readBy r.pocket (.tag u kind) with hx
  have hafter : s.AfterRead x := afterRead_readBy s r.pocket (.tag u kind)
  obtain ⟨htrg, hmod, hrds, hpru, hcue, hhli, hslk, hcck, hstc, hfree⟩ := hafter.blocks
  have hex : x.entry? u = none := (entry?_of_trg htrg _).trans he
  set e := adoptedEntry x.ownId u kind (.pocket r.pocket) with hedef
  set y : State :=
    { modPocket r.pocket (fun k => { k.occupied u with readRequested := false }) x with
      trg := { x.trg with entries := insertEntry e x.trg.entries, heard := x.trg.heard.filter (· != u) },
      cue := { x.cue with windows := x.cue.windows ++ [{ tool := u, use := .adoption (.pocket r.pocket) none none, timer := 3 }] },
      hli := { x.hli with urgent := x.hli.urgent ++ [⟨.whereis u, .window u⟩] } } with hy
  have hey : y.entry? u = some e := entry?_putEntry_of_tool (s := x) (by rw [htrg]; exact hb.register) rfl
  have hlogic : ownLogic r.pocket (.tag u kind) x = presetReport u y := by
    rw [ownLogic_insert hk hst hch hv]
    show arriveInsert r.pocket u kind x = _
    rw [arriveInsert_settles ((takerFor?_of hmod hcue _ _).trans htk), settleTag, hex]
    show foreignArrival u kind (.pocket r.pocket) x = _
    rw [foreignArrival, if_neg (by simp [hcue, hwait]), if_pos (by rw [hcue]; exact hwin)]
    exact openAdoption_new hex (by rw [htrg]; exact hl) (by rw [hhli]; exact hurg) (by rw [hstc]; exact hn)
  have hjoin := presetReport_joins hey (by simp [hedef, adoptedEntry]) rfl
    (show u ∉ y.pru.queue by simpa [hy, hpru] using hpn) (show y.pru.queue.length < 32 by simpa [hy, hpru] using hpq)
  have hyk : ({ ((s.pocket r.pocket).readBy (.tag u kind)).occupied u with readRequested := false } : Pocket).Alike (y.pocket r.pocket) :=
    hk.modPocket (f := fun k => { k.occupied u with readRequested := false }) (by simpa [hx] using hp)
  have htk := hyk.trans (presetReport_alike u r.pocket y)
  have hent : ∀ v, (presetReport u y).entry? v = y.entry? v := fun v => entry?_of_trg (presetReport_frame u y).1 v
  refine ⟨presetReport u y, exec_ownRead hown (.tag kind hval) hlogic (by rw [(presetReport_frame u y).2.1]; exact hrds) ?_ ?_,
    (hent u).trans (hey.trans ?_), fun v hv => (hent v).trans ?_, htk.congr Pocket.state, htk.congr Pocket.contents,
    htk.congr Pocket.verified, htk.congr Pocket.latch, ?_, ?_, ?_, ?_, ?_, ?_⟩
  · rw [(presetReport_frame u y).1]
    exact (congrArg Trg.checks htrg).trans hc
  · intro w k hw hcon
    cases hw
    exact retag_kept ((hent u).trans hey)
  · rw [hedef, State.ownId, hstc]
    rfl
  · exact (entry?_putEntry_ne (s := x) (e := e) (by rw [htrg]; exact hb.register) hv).trans (entry?_of_trg htrg v)
  · rw [(presetReport_frame u y).2.2.1, hy, hcue]
  · rw [(presetReport_frame u y).2.2.2.1, hy, hhli]
  · rw [hjoin]
    show { y.pru with queue := y.pru.queue ++ [u] } = _
    rw [show y.pru = s.pru from hpru]
  · exact (presetReport_frame u y).2.2.2.2.1.trans hslk
  · exact (presetReport_frame u y).2.2.2.2.2.1.trans hcck
  · exact (presetReport_frame u y).2.2.2.2.2.2.1.trans hstc

end Sys2Proof.Machine

/-! PROOFS. Arrivals of tools that have a place elsewhere, of a taker's expected tool, and of a wrong one (O27). -/

namespace Sys2Proof.Machine

open Sys2Proof

variable {s t : State} {p q : PocketNo} {u : ToolId} {r : Read} {a : AttemptResult} {o : Outcome}

/-! ### A tool stocked in a pocket (R54) -/

/-- R54: entry e' is that of tool u, stocked in pocket p, and its RECORD is handed over. -/
def State.stocks (s : State) (p : PocketNo) (u : ToolId) (e' : Entry) : State :=
  modPocket p (Pocket.occupied u) (handRecord u (putEntry e' s))

theorem stocks_entry_self {e' : Entry} (hb : s.Bounded) (hu : e'.tool = u) : (s.stocks p u e').entry? u = some e' :=
  (entry?_of_trg (by simp [State.stocks]) u).trans (entry?_putEntry_of_tool hb.register hu)

theorem stocks_entry_ne {e' : Entry} {v : ToolId} (hb : s.Bounded) (hu : e'.tool = u) (hv : v ≠ u) :
    (s.stocks p u e').entry? v = s.entry? v :=
  (entry?_of_trg (s := putEntry e' s) (by simp [State.stocks]) v).trans (entry?_putEntry_ne hb.register (by rwa [hu]))

theorem stocks_pocket_self {e' : Entry} {k : Pocket} (hk : k.Alike (s.pocket p)) (hp : p < s.pkc.pockets.length) :
    (k.occupied u).Alike ((s.stocks p u e').pocket p) := by
  have hx : (handRecord u (putEntry e' s)).pocket p = s.pocket p := State.pocket_of_pkc (by simp) p
  exact Pocket.Alike.modPocket (f := Pocket.occupied u) (hx ▸ hk) (by simpa using hp)

theorem stocks_pocket_ne {e' : Entry} (h : q ≠ p) : (s.stocks p u e').pocket q = s.pocket q :=
  (pocket_modPocket_ne h _ _).trans (State.pocket_of_pkc (by simp) q)

theorem stocks_hli {e' : Entry} (hb : s.Bounded) (hu : e'.tool = u) (hh : e'.custody ≠ .foreign) (ha : s.adoptionOpen u = false)
    (hn : s.stc.node ≠ .idConflict) :
    (s.stocks p u e').hli = { s.hli with routine := placeRecord e'.record s.hli.routine } := by
  have hput : (putEntry e' s).entry? u = some e' := entry?_putEntry_of_tool hb.register hu
  show (handRecord u (putEntry e' s)).hli = _
  rw [handRecord_eq hput hh ha hn]
  rfl

@[simp] theorem stocks_frame (p : PocketNo) (u : ToolId) (e' : Entry) (s : State) :
    (s.stocks p u e').rds = s.rds ∧ (s.stocks p u e').pru = s.pru ∧ (s.stocks p u e').cue = s.cue ∧ (s.stocks p u e').slk = s.slk ∧
      (s.stocks p u e').cck = s.cck ∧ (s.stocks p u e').stc = s.stc ∧ (s.stocks p u e').trg.checks = s.trg.checks ∧
      (s.stocks p u e').pkc.modules = s.pkc.modules ∧ (s.stocks p u e').pkc.pockets.length = s.pkc.pockets.length := by
  simp [State.stocks, putEntry]

/-- R54: the entry of a tool that a read found in pocket p. -/
def Entry.returned (e : Entry) (p : PocketNo) : Entry :=
  { e with custody := .stocked, pocket := some p, destination := none, awayTimer := none, version := e.version + 1 }

/-- R54: the tag of a tool here, in a place that it then leaves. -/
theorem settleTag_returned {e : Entry} {x : State} (he : s.entry? u = some e) (hh : e.custody ≠ .foreign) (hx : leavePlace u s = x)
    (hex : x.entry? u = some e) (ha : x.adoptionOpen u = false) (hm : clearEntryMark e x = x) :
    settleTag p u e.kind s = reportReturn e (x.stocks p u (e.returned p)) := by
  have hin : Entry.stockIn x p e.kind e = { e with custody := .stocked, pocket := some p, destination := none, awayTimer := none } := by
    simp [Entry.stockIn, Entry.withKind]
  simp only [settleTag, he, Entry.here_iff.2 hh, hx, if_true]
  rw [versioned_kept hex ha (by rw [hin]), hm, hin]
  rfl

theorem reportReturn_unqueued {e e' : Entry} (hu : e.tool = u) (h : t.entry? u = some e') (hc : e'.condition.queued = false)
    (hq : u ∉ t.pru.queue) : reportReturn e t = t := by
  subst hu
  unfold reportReturn
  split
  · rw [presetReport_leaves h hc, presetRemove_absent (by simpa using hq)]
  · rfl

/-- R54: the reader free at a pocket with check INSERT, and a READY tool of this node, which has left its place in state x. -/
theorem deliver_returned {e : Entry} {x : State} (hown : s.OwnRead r) (hst : (s.pocket r.pocket).state = .checking)
    (hch : (s.pocket r.pocket).check = some .insert) (hv : (s.pocket r.pocket).vacated = none) (he : s.entry? u = some e)
    (hh : e.custody ≠ .foreign) (hc : e.condition = .ready) (htk : s.takerFor? r.pocket u = none)
    (hx : leavePlace u (s.readBy r.pocket (.tag u e.kind)) = x) (hb : x.Bounded) (htrg : x.trg = s.trg) (ha : x.adoptionOpen u = false)
    (hm : clearEntryMark e x = x) (hq : u ∉ x.pru.queue) (hw : x.rds.awaiting = false) :
    deliver r.pocket (.tag u e.kind) s.freed = x.stocks r.pocket u (e.returned r.pocket) := by
  have hp : r.pocket < s.pkc.pockets.length := lt_of_pocket_present (by simp [hst])
  have hk := readBy_pocket_self hp (.tag u e.kind)
  obtain ⟨hytrg, hmod, -, -, hcue, -⟩ := (afterRead_readBy s r.pocket (.tag u e.kind)).blocks
  have hut := tool_of_entry? he
  have hself : (x.stocks r.pocket u (e.returned r.pocket)).entry? u = some (e.returned r.pocket) := stocks_entry_self hb hut
  refine deliver_own hown ?_ (by simpa using hw) (by simpa [htrg] using hown.checks) fun v k hvk _ => ?_
  · rw [ownLogic_insert hk hst hch hv]
    show arriveInsert r.pocket u e.kind _ = _
    rw [arriveInsert_settles ((takerFor?_of hmod hcue _ _).trans htk),
      settleTag_returned ((entry?_of_trg hytrg u).trans he) hh hx ((entry?_of_trg htrg u).trans he) ha hm]
    exact reportReturn_unqueued hut hself (by simp [Entry.returned, hc, Condition.queued]) (by simpa using hq)
  · cases hvk
    exact retag_kept (e := e.returned r.pocket) hself

theorem running_of_stc (h : t.stc = s.stc) (hs : s.running = true) : t.running = true := by
  unfold State.running at *
  rw [h]
  exact hs

/-- R49: the one queued read is granted. -/
theorem settleReader_grants (hs : s.running = true) (hf : s.rds.inFlight = none) (hq : s.rds.queue = [p]) (hw : s.rds.sweep = .idle)
    (hst : (s.pocket p).state ≠ .fault) :
    settleReader s = { s with rds := { s.rds with queue := [], inFlight := some ⟨p, 0⟩ } } := by
  refine settleReader_of_step ?_ (readerStep_none (.inl rfl) (by simp [hw]))
  simp [readerStep, hs, hf, hq, grantRead, hst]

/-- R54: what a READY tool of this node, returned to a pocket, leaves. -/
structure State.ReturnedTo (s x y : State) (p : PocketNo) (u : ToolId) (e' : Entry) : Prop where
  entry : y.entry? u = some e'
  others : ∀ v, v ≠ u → y.entry? v = s.entry? v
  state : (y.pocket p).state = .stocked
  contents : (y.pocket p).contents = some u
  latch : (y.pocket p).latch = .locked
  verified : (y.pocket p).verified = true
  pockets : ∀ q, q ≠ p → y.pocket q = x.pocket q
  hli : y.hli = { x.hli with routine := placeRecord e'.record x.hli.routine }
  rds : y.rds = x.rds
  pru : y.pru = x.pru
  cue : y.cue = x.cue
  slk : y.slk = x.slk
  cck : y.cck = x.cck
  stc : y.stc = x.stc

theorem returnedTo {e : Entry} {x : State} (he : s.entry? u = some e) (hb : x.Bounded) (htrg : x.trg = s.trg)
    (ha : x.adoptionOpen u = false) (hn : x.stc.node ≠ .idConflict) (hp : p < x.pkc.pockets.length) :
    s.ReturnedTo x (x.stocks p u (e.returned p)) p u (e.returned p) := by
  have hut : (e.returned p).tool = u := tool_of_entry? (e := e) he
  have hk := stocks_pocket_self (u := u) (e' := e.returned p) (.refl (x.pocket p)) hp
  exact ⟨stocks_entry_self hb hut, fun v hv => (stocks_entry_ne hb hut hv).trans (entry?_of_trg htrg v), hk.congr Pocket.state,
    hk.congr Pocket.contents, hk.congr Pocket.latch, hk.congr Pocket.verified, fun q hq => stocks_pocket_ne hq,
    stocks_hli hb hut (by simp [Entry.returned]) ha hn, by simp, by simp, by simp, by simp, by simp, by simp⟩

/-! ### The places a returned tool leaves (R54) -/

theorem leavePlace_outside {e : Entry} (h : s.entry? u = some e) (hc : e.custody = .away ∨ e.custody = .lost) : leavePlace u s = s := by
  rcases hc with hc | hc <;> simp [leavePlace, h, hc]

theorem leavePlace_transit {e : Entry} {g : Giver} (h : s.entry? u = some e) (hc : e.custody = .transit) (hg : s.giverOf? u = some g)
    (hst : g.state = .transit) (hurg : s.hli.urgent.length < 8) (hn : s.stc.node ≠ .idConflict) (hwait : s.cue.waiting = [])
    (hw : s.window? u = none) : leavePlace u s = closeGiver g { s with hli := { s.hli with
      urgent := s.hli.urgent ++ [⟨.lapse g.seeker g.seek .withdrawn, .giver g.seeker g.seek⟩] } } := by
  simp only [leavePlace, h, hc, withdrawGiver, hg, hst, lapseSeeker, sendLapse_eq hurg hn]
  exact closeTransitCheck_eq hwait hw

theorem leavePlace_gauge {e : Entry} {g : GaugeTool} (h : s.entry? u = some e) (hc : e.custody = .atGauge) (hg : s.pru.gauge = some g)
    (hgu : g.tool = u) (htx : s.pru.tx = none) : leavePlace u s = { s with
      pru := { s.pru with gauge := none, burst := none, first := none,
                          tx := if s.pru.burst.isSome then some ⟨.aborted, 0, 0, 0⟩ else none } } := by
  simp only [leavePlace, h, hc, gaugeLeft, hg, hgu, if_true, endBursts_eq htx]

theorem leavePlace_pocket {e : Entry} (h : s.entry? u = some e) (hc : e.custody = .stocked) (hp : e.pocket = some p)
    (hg : s.giverOf? u = none) : leavePlace u s = vacateMoved p u s := by
  simp only [leavePlace, h, hc, hp, withdrawGiver_none hg]

theorem vacateMoved_slk (q : PocketNo) (u : ToolId) (s : State) : (vacateMoved q u s).slk = (clearMark q (some u) s).slk := by
  unfold vacateMoved
  dsimp only
  split <;> simp

theorem vacateMoved_fault (u : ToolId) (h : (s.pocket q).state = .fault) :
    vacateMoved q u s = modPocket q Pocket.losesTool (clearMark q (some u) s) := by
  have hst : ((clearMark q (some u) s).pocket q).state = .fault :=
    (((Pocket.Alike.refl (s.pocket q)).clearMark (lt_of_pocket_present (by simp [h])) (some u)).congr Pocket.state).trans h
  simp only [vacateMoved, hst]

theorem losesTool_fault {k : Pocket} (h : k.state = .fault) :
    k.losesTool = { k with contents := none, saved := some .empty, check := none, openRelease := false, target := none, timer := none,
                           timerRunning := false, verified := false } := by
  simp [Pocket.losesTool, h]

/-- R54: the pocket that a tool has left for another one. -/
theorem vacateMoved_stocked (hp : q < s.pkc.pockets.length) (u : ToolId) (h : (s.pocket q).state = .stocked) :
    ∃ k : Pocket, k.Alike ((vacateMoved q u s).pocket q) ∧ k.mark = none ∧ k.contents = none ∧ k.openRelease = false ∧
      k.verified = false ∧ k.state = .checking ∧ k.check = some .insert ∧ k.latch = .locked ∧ k.readRequested = true ∧
      k.vacated = some ⟨u, false⟩ :=
  ⟨_, vacateMoved_pocket_self hp u (by simp [h]), rfl, rfl, rfl, rfl, rfl, rfl, rfl, rfl, rfl⟩

theorem vacateMoved_faulty (hp : q < s.pkc.pockets.length) (u : ToolId) (h : (s.pocket q).state = .fault) :
    ∃ k : Pocket, k.Alike ((vacateMoved q u s).pocket q) ∧ k.mark = none ∧ k.contents = none ∧ k.openRelease = false ∧
      k.verified = false ∧ k.state = .fault ∧ k.saved = some .empty := by
  refine ⟨_, vacateMoved_fault u h ▸ losesTool_pocket_self hp (some u), ?_⟩
  rw [losesTool_fault h]
  exact ⟨rfl, rfl, rfl, rfl, h, rfl⟩

theorem requestRead_queue (hp : s.present q = true) (hn : q ∉ s.rds.queue) (hf : s.rds.inFlight.map (·.pocket) ≠ some q) :
    (requestRead q s).rds.queue = s.rds.queue ++ [q] := by
  have hpres : (modPocket q (fun k => { k with readRequested := true }) s).present q = true := by rwa [present_modPocket Iff.rfl]
  exact congrArg (·.rds.queue) (enqueueRead_eq hpres hn hf)

theorem requestRead_rds (q : PocketNo) (s : State) : (requestRead q s).rds = { s.rds with queue := (requestRead q s).rds.queue } := by
  rw [requestRead_eq]

/-- R54: a read of the vacated pocket is queued, unless the pocket is in FAULT. -/
theorem vacateMoved_rds (q : PocketNo) (u : ToolId) (s : State) :
    (vacateMoved q u s).rds = { s.rds with queue := (vacateMoved q u s).rds.queue } := by
  unfold vacateMoved
  dsimp only
  split
  all_goals
    try rw [requestRead_rds]
    simp

theorem vacateMoved_queue (hq : q < 48) (hp : q < s.pkc.pockets.length) (u : ToolId) (h : (s.pocket q).state = .stocked) (hn : q ∉ s.rds.queue)
    (hf : s.rds.inFlight.map (·.pocket) ≠ some q) : (vacateMoved q u s).rds.queue = s.rds.queue ++ [q] := by
  rw [vacateMoved_eq u (by simp [h]), requestRead_queue]
  · simp
  · rw [State.present_iff, pocket_modPocket_self _ (by simpa using hp)]
    exact ⟨hq, by simp [Pocket.vacatedBy]⟩
  · simpa using hn
  · simpa using hf

theorem clearMark_notices {m : Mark} (h : (s.pocket p).mark = some m) (hm : s.masked .recordChanged = false)
    (hl : s.slk.notices.length < 16) (u : Option ToolId) :
    (clearMark p u s).slk.notices = s.slk.notices ++ [pocketNotice .recordChanged p u] := by
  rw [clearMark_some h]
  exact pushNotice_notices hm hl

/-! ### The expected tool of a taker (R121) -/

theorem window?_of_cue (h : t.cue = s.cue) (u : ToolId) : t.window? u = s.window? u := by
  simp only [State.window?, h]

theorem versionNewer_asymm {a b : Version} (h : versionNewer a b = true) : versionNewer b a = false := by
  simp only [versionNewer, Bool.and_eq_true, decide_eq_true_eq] at h
  simp only [versionNewer, Bool.and_eq_false_iff, decide_eq_false_iff_not]
  bv_omega

/-- R121: the record that gives an arrived tool its values, with no window of the tool open. -/
theorem newestRecord_eq {r src : Record} (pick : Bool) (hw : s.window? u = none)
    (h : s.entry? u = none ∧ src = r ∨ ∃ c, s.entry? u = some c ∧
      (versionNewer r.version c.version = true ∧ src = r ∨ versionNewer c.version r.version = true ∧ src = c.record)) :
    newestRecord pick r (s.knownRecords u) = src := by
  rcases h with ⟨hn, rfl⟩ | ⟨c, hc, ⟨hv, rfl⟩ | ⟨hv, rfl⟩⟩
  · simp [State.knownRecords, hn, hw, newestRecord]
  · have hno : versionNewer c.record.version src.version = false := versionNewer_asymm hv
    simp [State.knownRecords, hc, hw, newestRecord, hno, show versionNewer src.version c.record.version = true from hv]
  · simp [State.knownRecords, hc, hw, newestRecord, show versionNewer c.record.version r.version = true from hv]

/-- R121: the target that its tool was not put into. -/
def untargetOther (q : PocketNo) (k : Taker) (s : State) : State := if q = k.pocket then s else untarget k.pocket s

/-- R121: the arrival of a taker's tool that no window and no custody entry of this node concerns. -/
theorem takerArrival_eq {k : Taker} {o : Offer} {kind : Nat} {src : Record} {e' : Entry}
    (hsrc : newestRecord (Config.tiePick s.free) o.record (s.knownRecords o.record.tool) = src) (ha : s.adoptionOpen o.record.tool = false)
    (hc : (s.entry? o.record.tool = none ∧ s.trg.entries.length < 256) ∨
      ∃ c, s.entry? o.record.tool = some c ∧ c.custody = .foreign)
    (he' : arrivedEntry s q kind src = e') (hu : e'.tool = o.record.tool) :
    takerArrival k o q kind s = presetReport o.record.tool
      (pushNotice { kind := .toolReady, pocket := some q, tool := some o.record.tool, seek := some k.seek, reason := none, counts := [] }
        (handPlain (.received o.station k.seek o.record.tool e'.version) (.taker k.seek)
          (closeTaker k (modPocket q (Pocket.occupied o.record.tool)
            (untargetOther q k (handRecord o.record.tool (dropHeard o.record.tool (putEntry e' { s with free := s.free + 1 })))))))) := by
  set x : State := { s with free := s.free + 1 } with hx
  have hleave : leavePlace o.record.tool x = x := by
    rcases hc with ⟨hn, -⟩ | ⟨c, hc, hf⟩
    · simp [leavePlace, show x.entry? o.record.tool = none from hn]
    · simp [leavePlace, show x.entry? o.record.tool = some c from hc, hf]
  have hcreate : createEntry e' x = putEntry e' x := by
    rcases hc with ⟨hn, hl⟩ | ⟨c, hc, -⟩
    · have hl' : x.trg.entries.length < 256 := hl
      simp only [createEntry, show x.entry? e'.tool = none by rw [hu]; exact hn, evictForRoom, hl', if_true]
    · simp only [createEntry, show x.entry? e'.tool = some c by rw [hu]; exact hc]
  have harr : arrivedEntry x q kind src = e' := he'
  simp only [takerArrival, hsrc, ← hx, show x.adoptionOpen o.record.tool = false from ha, hleave, harr, hcreate, Bool.false_eq_true, if_false]
  rfl

theorem untarget_pocket_ne (h : q ≠ p) : (untarget p s).pocket q = s.pocket q := by
  unfold untarget
  split <;> simp [pocket_modPocket_ne h, requestRead_pocket_ne h]

/-- R44: a target in WRONG_TOOL is read again. -/
theorem untarget_wrongTool (h : (s.pocket p).state = .wrongTool) :
    untarget p s = requestRead p (modPocket p (fun k => { k.toEmpty with state := .checking, check := some .insert }) s) := by
  simp [untarget, h]

theorem untarget_rds (p : PocketNo) (s : State) : (untarget p s).rds = { s.rds with queue := (untarget p s).rds.queue } := by
  unfold untarget
  split
  · rfl
  · rw [requestRead_rds]
    rfl
  · rfl

theorem untarget_queue (hl : s.pkc.pockets.length = 48) (hn : p ∉ s.rds.queue) (hf : s.rds.inFlight.map (·.pocket) ≠ some p) :
    (untarget p s).rds.queue = if (s.pocket p).state = .wrongTool then s.rds.queue ++ [p] else s.rds.queue := by
  by_cases h : (s.pocket p).state = .wrongTool
  · have hp : p < s.pkc.pockets.length := lt_of_pocket_present (by simp [h])
    rw [if_pos h, untarget_wrongTool h, requestRead_queue (State.present_iff.2 ⟨hl ▸ hp, ?_⟩) (by simpa using hn) (by simpa using hf)]
    · rfl
    · rw [pocket_modPocket_self _ hp]
      simp
  · rw [if_neg h]
    unfold untarget
    split
    · rfl
    · exact absurd ‹_› h
    · rfl

@[simp] theorem untargetOther_frame (q : PocketNo) (k : Taker) (s : State) :
    (untargetOther q k s).trg = s.trg ∧ (untargetOther q k s).pru = s.pru ∧ (untargetOther q k s).cue = s.cue ∧
      (untargetOther q k s).hli = s.hli ∧ (untargetOther q k s).slk = s.slk ∧ (untargetOther q k s).cck = s.cck ∧
      (untargetOther q k s).stc = s.stc ∧ (untargetOther q k s).pkc.pockets.length = s.pkc.pockets.length := by
  have hlen : (untarget k.pocket s).pkc.pockets.length = s.pkc.pockets.length := by
    unfold untarget
    split <;> simp [requestRead_pkc]
  unfold untargetOther
  split <;> simp [hlen]

theorem untargetOther_pocket_self (q : PocketNo) (k : Taker) (s : State) : (untargetOther q k s).pocket q = s.pocket q := by
  unfold untargetOther
  split
  · rfl
  · exact untarget_pocket_ne ‹_›

/-- R121: what the arrival of a taker's tool leaves, up to the indicators. -/
structure State.TookTool (s t : State) (k : Taker) (o : Offer) (q : PocketNo) (e' : Entry) : Prop where
  entry : t.entry? o.record.tool = some e'
  others : ∀ v, v ≠ o.record.tool → t.entry? v = s.entry? v
  heard : o.record.tool ∉ t.trg.heard
  checks : t.trg.checks = s.trg.checks
  pocket : ((s.pocket q).occupied o.record.tool).Alike (t.pocket q)
  freed : k.pocket ≠ q → (s.pocket k.pocket).state = .awaiting → (s.pocket k.pocket).readRequested = false →
    ((s.pocket k.pocket).toEmpty).Alike (t.pocket k.pocket)
  reread : k.pocket ≠ q → (s.pocket k.pocket).state = .wrongTool →
    ({ (s.pocket k.pocket).toEmpty with state := .checking, check := some .insert, readRequested := true } : Pocket).Alike
      (t.pocket k.pocket)
  hli : t.hli = { s.hli with
    urgent := s.hli.urgent ++ [⟨.received o.station k.seek o.record.tool e'.version, .taker k.seek⟩],
    routine := placeRecord e'.record s.hli.routine }
  notices : t.slk.notices = s.slk.notices ++ [⟨.toolReady, some q, some o.record.tool, some k.seek, none, []⟩]
  cue : t.cue = { s.cue with takers := s.cue.takers.filter (fun y => y.seek != k.seek) }
  rds : t.rds = { s.rds with queue :=
    if k.pocket ≠ q ∧ (s.pocket k.pocket).state = .wrongTool then s.rds.queue ++ [k.pocket] else s.rds.queue }
  cck : t.cck = s.cck
  stc : t.stc = s.stc

theorem tookTool {k : Taker} {o : Offer} {kind : Nat} {src : Record} {e' : Entry}
    (hsrc : newestRecord (Config.tiePick s.free) o.record (s.knownRecords o.record.tool) = src) (ha : s.adoptionOpen o.record.tool = false)
    (hc : (s.entry? o.record.tool = none ∧ s.trg.entries.length < 256) ∨
      ∃ c, s.entry? o.record.tool = some c ∧ c.custody = .foreign)
    (he' : arrivedEntry s q kind src = e') (hu : e'.tool = o.record.tool) (hb : s.Bounded) (hq : q < 48) (hh : e'.custody ≠ .foreign)
    (hurg : s.hli.urgent.length < 8) (hn : s.stc.node ≠ .idConflict) (hmask : s.masked .toolReady = false)
    (hlen : s.slk.notices.length < 16) (hqueue : s.rds.queue = []) (hfree : s.rds.inFlight = none) : s.TookTool (takerArrival k o q kind s) k o q e' := by
  set w : State := dropHeard o.record.tool (putEntry e' { s with free := s.free + 1 }) with hw
  have hwe : w.entry? o.record.tool = some e' := entry?_putEntry_of_tool (s := s) hb.register hu
  have hwp : (handRecord o.record.tool w).pkc = s.pkc := by simp [hw]
  set x := untargetOther q k (handRecord o.record.tool w) with hx
  set y := modPocket q (Pocket.occupied o.record.tool) x with hy
  set z := handPlain (.received o.station k.seek o.record.tool e'.version) (.taker k.seek) (closeTaker k y) with hz
  have hwr := handRecord_eq hwe hh (show w.adoptionOpen _ = false from ha) (show w.stc.node ≠ _ from hn)
  have hyhli : y.hli = { s.hli with routine := placeRecord e'.record s.hli.routine } := by
    show x.hli = _
    rw [hx, (untargetOther_frame _ _ _).2.2.2.1, hwr]
    rfl
  have hystc : y.stc = s.stc := by simp [hy, hx, hw]
  have hzeq := handPlain_eq (s := closeTaker k y) (show y.hli.urgent.length < 8 by rw [hyhli]; exact hurg)
    (show y.stc.node ≠ _ by rw [hystc]; exact hn) (.received o.station k.seek o.record.tool e'.version) (.taker k.seek)
  set n : Notice := { kind := .toolReady, pocket := some q, tool := some o.record.tool, seek := some k.seek, reason := none,
                      counts := [] } with hndef
  have harr : takerArrival k o q kind s = presetReport o.record.tool (pushNotice n z) := takerArrival_eq hsrc ha hc he' hu
  rw [harr]
  have hpk0 : ∀ p, (handRecord o.record.tool w).pocket p = s.pocket p := fun p => State.pocket_of_pkc hwp p
  have hlen0 : (handRecord o.record.tool w).pkc.pockets.length = s.pkc.pockets.length := by rw [hwp]
  have hrds0 : (handRecord o.record.tool w).rds = s.rds := by simp [hw]
  have hzpkc : z.pkc = y.pkc := by rw [hz, hzeq]; rfl
  have hal : ∀ p, (y.pocket p).Alike ((presetReport o.record.tool (pushNotice n z)).pocket p) := fun p => by
    have h1 : (pushNotice n z).pocket p = y.pocket p := State.pocket_of_pkc (by rw [(pushNotice_frame n z).2.1, hzpkc]) p
    exact h1 ▸ presetReport_alike o.record.tool p (pushNotice n z)
  have htrg : (presetReport o.record.tool (pushNotice n z)).trg = w.trg := by
    simp [hz, hy, hx]
  have hother : k.pocket ≠ q → ∀ p, p ≠ q → y.pocket p = (untarget k.pocket (handRecord o.record.tool w)).pocket p := fun hne p hp => by
    rw [hy, pocket_modPocket_ne hp, hx, untargetOther, if_neg (Ne.symm hne)]
  refine ⟨(entry?_of_trg htrg _).trans hwe, fun v hv => (entry?_of_trg htrg v).trans (entry?_putEntry_ne (s := s) hb.register (hu ▸ hv)),
    by rw [htrg, hw]; simp [dropHeard], by rw [htrg]; rfl, ?_, fun hne hst hr => ?_, fun hne hst => ?_, ?_, ?_, ?_, ?_, ?_, ?_⟩
  · have hxq : x.pocket q = s.pocket q := (untargetOther_pocket_self q k _).trans (hpk0 q)
    have hxlen : q < x.pkc.pockets.length := by
      rw [hx, (untargetOther_frame q k _).2.2.2.2.2.2.2, hlen0]
      exact hb.pocket_lt hq
    exact (hxq ▸ modPocket_alike hxlen).trans (hal q)
  · refine Pocket.Alike.trans ?_ (hal k.pocket)
    rw [hother hne _ hne, untarget_eq (by rwa [hpk0]) (by rwa [hpk0]), ← hpk0]
    exact modPocket_alike (by rw [hlen0]; exact lt_of_pocket_present (by simp [hst]))
  · refine Pocket.Alike.trans ?_ (hal k.pocket)
    have hlt : k.pocket < (handRecord o.record.tool w).pkc.pockets.length := by rw [hlen0]; exact lt_of_pocket_present (by simp [hst])
    rw [hother hne _ hne, untarget_wrongTool (by rwa [hpk0]), ← hpk0]
    exact (modPocket_alike (f := fun k => { k.toEmpty with state := .checking, check := some .insert }) hlt).requestRead (by simpa using hlt)
  · have hzhli : z.hli = { y.hli with
        urgent := y.hli.urgent ++ [⟨.received o.station k.seek o.record.tool e'.version, .taker k.seek⟩] } := by
      rw [hz, hzeq]
      rfl
    rw [(presetReport_frame _ _).2.2.2.1, (pushNotice_frame n z).2.2.2.2.2.1, hzhli, hyhli]
  · have hzslk : z.slk = s.slk := by simp [hz, hy, hx, hw]
    have hzstc : z.stc = s.stc := by simp [hz, hystc]
    rw [(presetReport_frame _ _).2.2.2.2.1, pushNotice_notices ((masked_of_stc hzstc _).trans hmask) (by rwa [hzslk]), hzslk]
  · simp [hz, hy, hx, hw, closeTaker]
  · have hxrds : (presetReport o.record.tool (pushNotice n z)).rds = x.rds := by simp [hz, hy]
    rw [hxrds, hx, untargetOther]
    by_cases hne : k.pocket ≠ q
    · rw [if_neg (Ne.symm hne), untarget_rds, untarget_queue (hlen0.trans hb.pockets) (by rw [hrds0, hqueue]; simp)
        (by rw [hrds0, hfree]; simp),
        hrds0, hpk0]
      simp [hne]
    · rw [if_pos (not_not.1 hne).symm, hrds0, if_neg (by simp [hne])]
  · simp [hz, hy, hx, hw]
  · simp [hz, hy, hx, hw]

/-- Settles O27, by the place the tool comes from and the transfer it answers. -/
theorem returnIsStocked : Obligations.ReturnIsStocked := by
  refine ⟨fun r u e s hs hn hb hr hqueue hw ha hc hst hch hreq hv hval he hcus hpk hheard hcond hq hwin htk => ?outside,
    fun r x o k s hsole hk hst hreq hcon hx ho => ⟨fun u kind hval hne => ?refused, fun a hend => ?unread⟩,
    fun r x o k src e' s hsole hk hreq hcon ho hxst hplace hval hsrc hwin hurg hn hmask hlen he' => ?taker,
    fun r u e e' s hsole hn hst hch hreq hv hval he hheard hcond hq hwin hwait htk he' =>
      ⟨fun g hc hep hg hgst hurg => ?transit, fun kind hc hep hg htx => ?gauge, fun p hc hep hne hlt hg hpst => ?moved⟩⟩
  case outside =>
    have hown : s.OwnRead r := ⟨hs, hr, hqueue, hw, ha, hc, hreq⟩
    have hp : r.pocket < s.pkc.pockets.length := lt_of_pocket_present (by simp [hst])
    set x := s.readBy r.pocket (.tag u e.kind) with hx
    obtain ⟨htrg, -, hrds, hpru, hcue, hhli, hslk, hcck, hstc, -⟩ := (afterRead_readBy s r.pocket (.tag u e.kind)).blocks
    rw [← hx] at htrg hrds hpru hcue hhli hslk hcck hstc
    have hax : x.adoptionOpen u = false := (State.adoptionOpen_of_cue hcue u).trans (adoptionOpen_of_windowOpen hwin)
    have hbx : x.Bounded := readBy_bounded hb
    have hd := deliver_returned hown hst hch hv he (by rcases hcus with h | h <;> simp [h]) hcond htk
      (leavePlace_outside ((entry?_of_trg htrg u).trans he) hcus) hbx htrg hax (clearEntryMark_none hpk)
      (by rw [hpru]; simpa using hq) (by rw [hrds]; exact ha)
    have hret := returnedTo (p := r.pocket) he hbx htrg hax (by rwa [hstc]) (by simpa [hx] using hp)
    have hrds' := hret.rds.trans hrds
    refine ⟨_, ?_, hret.entry, hret.others, hret.state, hret.contents, hret.latch, hret.verified,
      fun q hne => (hret.pockets q hne).trans (readBy_pocket_ne hne _), ?_, congrArg Rds.inFlight hrds', hret.cue.trans hcue,
      hret.pru.trans hpru, hret.slk.trans hslk, hret.cck.trans hcck, hret.stc.trans hstc⟩
    · rw [exec_readEnds hs hr (.tag e.kind hval), hd]
      exact congrArg _ (settleReader_stays (.inr (by rw [hrds']; exact hqueue)) (by rw [hrds']; simp [hw]))
    · rw [hret.hli, hhli]
      simp [Entry.record, Entry.returned, hheard, Custody.sent]
  case refused =>
    subst hk
    have hp := hsole.bounded.pocket_lt hsole.range
    have hxk := readBy_pocket_self hp (.tag u kind)
    have hafter := (afterRead_readBy s r.pocket (.tag u kind)).modPocket r.pocket (fun k => { k with state := .wrongTool })
    set y := modPocket r.pocket (fun k => { k with state := .wrongTool }) (s.readBy r.pocket (.tag u kind)) with hy
    obtain ⟨htrg, -, hrds, hpru, hcue, hhli, hslk, hcck, hstc, -⟩ := hafter.blocks
    have hat : (s.readBy r.pocket (.tag u kind)).takerAt? r.pocket = some x :=
      (takerAt?_of_cue (afterRead_readBy s r.pocket (.tag u kind)).blocks.2.2.2.2.1 _).trans hx
    set n : Notice := ⟨.toolRefused, some r.pocket, some u, some x.seek, none, []⟩ with hndef
    have hlogic : ownLogic r.pocket (.tag u kind) (s.readBy r.pocket (.tag u kind)) = pushNotice n y := by
      rw [ownLogic_target hxk hst, targetOutcome, hat]
      simp only [ho, if_neg hne]
      rfl
    have hyk := hxk.modPocket (f := fun k => { k with state := .wrongTool }) (by simpa using hp)
    have hpk : ∀ q, (pushNotice n y).pocket q = y.pocket q := fun q => State.pocket_of_pkc (by simp) q
    have hself := hpk r.pocket ▸ hyk
    refine ⟨pushNotice n y, exec_ownRead (hsole.own hreq) (.tag kind hval) hlogic (by simpa using hrds) ?_ (by simp [hcon]),
      hself.congr Pocket.state, ?_, hself.congr Pocket.latch, hself.congr Pocket.target, (hself.congr Pocket.contents).trans hcon,
      fun q hqne => ?_, fun hm hl => ?_, by simpa using hrds, by simpa using htrg, by simpa using hcue, by simpa using hpru,
      by simpa using hhli, by simpa using hcck, by simpa using hstc⟩
    · simpa [htrg] using hsole.checks
    · rw [hpk, hy, pocket_modPocket_self _ (by simpa using hp)]
      rfl
    · rw [hpk, hy, pocket_modPocket_ne hqne, readBy_pocket_ne hqne]
    · rw [pushNotice_notices ((masked_of_stc hstc _).trans hm) (by rwa [hslk]), hslk]
  case unread =>
    subst hk
    have hp := hsole.bounded.pocket_lt hsole.range
    rcases hend with rfl | ⟨rfl, hf⟩
    · have hxk := readBy_pocket_self hp .noTag
      have hafter := (afterRead_readBy s r.pocket .noTag).modPocket r.pocket (fun k => { k with state := .awaiting })
      have hyk := hxk.modPocket (f := fun k => { k with state := .awaiting }) (by simpa using hp)
      have hlogic : ownLogic r.pocket .noTag (s.readBy r.pocket .noTag) =
          modPocket r.pocket (fun k => { k with state := .awaiting }) (s.readBy r.pocket .noTag) := by
        rw [ownLogic_target hxk hst, targetOutcome,
          (takerAt?_of_cue (afterRead_readBy s r.pocket .noTag).blocks.2.2.2.2.1 _).trans hx]
        simp only [ho]
      refine ⟨_, exec_ownRead_pockets (hsole.own hreq) .noTag hlogic hafter (by simp), fun _ => ⟨hyk.congr Pocket.state, ?_⟩,
        fun h => by simp at h, hyk.congr Pocket.latch, hyk.congr Pocket.target, fun q hqne => ?_, hafter⟩
      · rw [pocket_modPocket_self _ (by simpa using hp)]
        rfl
      · rw [pocket_modPocket_ne hqne, readBy_pocket_ne hqne]
    · have hxk := readBy_pocket_self hp .readFail
      have hafter := afterRead_readBy s r.pocket .readFail
      have hlogic : ownLogic r.pocket .readFail (s.readBy r.pocket .readFail) = s.readBy r.pocket .readFail := by
        rw [ownLogic_target hxk hst, targetOutcome, (takerAt?_of_cue hafter.blocks.2.2.2.2.1 _).trans hx]
        simp only [ho]
      refine ⟨_, exec_ownRead_pockets (hsole.own hreq) (.fail hf) hlogic hafter (by simp), fun h => by simp at h,
        fun _ => ⟨hxk.congr Pocket.state, (hxk.congr Pocket.verified).trans (by simp [Pocket.readBy])⟩, hxk.congr Pocket.latch,
        hxk.congr Pocket.target, fun q hqne => readBy_pocket_ne hqne _, hafter⟩
  case taker =>
    subst hk
    have hp := hsole.bounded.pocket_lt hsole.range
    have hown := hsole.own hreq
    set w := s.readBy r.pocket (.tag o.record.tool src.kind) with hw
    obtain ⟨htrg, hmod, hrds, hpru, hcue, hhli, hslk, hcck, hstc, hfree⟩ := (afterRead_readBy s r.pocket (.tag o.record.tool src.kind)).blocks
    rw [← hw] at htrg hmod hrds hpru hcue hhli hslk hcck hstc hfree
    have hwk := readBy_pocket_self hp (.tag o.record.tool src.kind)
    have hew : ∀ v, w.entry? v = s.entry? v := entry?_of_trg htrg
    have hwin' : w.window? o.record.tool = none := (window?_of_cue hcue _).trans (by simpa [State.windowOpen] using hwin)
    have hut : src.tool = o.record.tool := by
      rcases hsrc with ⟨-, -, rfl⟩ | ⟨c, hc, -, ⟨-, rfl⟩ | ⟨-, rfl⟩⟩
      · rfl
      · rfl
      · exact tool_of_entry? hc
    have harr : arrivedEntry w r.pocket src.kind src = e' := by
      have hlife : ∀ k, w.fullLife k = s.fullLife k := fun k => by rw [State.fullLife, State.fullLife, kind?_of_stc hstc]
      rw [he', ← hut]
      simp [arrivedEntry, Entry.withKind, Record.adjust, hlife, State.ownId, hstc]
    have htook := tookTool (s := w) (k := x) (o := o) (kind := src.kind) (q := r.pocket) (e' := e') (src := src)
      (newestRecord_eq _ hwin' (by
        rcases hsrc with ⟨h1, -, h2⟩ | ⟨c, hc, -, h2⟩
        · exact .inl ⟨(hew _).trans h1, h2⟩
        · exact .inr ⟨c, (hew _).trans hc, h2⟩))
      (adoptionOpen_of_windowOpen (windowOpen_of_window? hwin'))
      (by
        rcases hsrc with ⟨h1, h2, -⟩ | ⟨c, hc, h2, -⟩
        · exact .inl ⟨(hew _).trans h1, by rwa [htrg]⟩
        · exact .inr ⟨c, (hew _).trans hc, h2⟩)
      harr (by rw [he']) (readBy_bounded hsole.bounded) hsole.range (by rw [he']; simp) (by rwa [hhli]) (by rwa [hstc])
      ((masked_of_stc hstc _).trans hmask) (by rwa [hslk]) (by rw [hrds]; exact hsole.queue) (by rw [hrds])
    have hlogic : ownLogic r.pocket (.tag o.record.tool src.kind) w = takerArrival x o r.pocket src.kind w := by
      rcases hplace with ⟨hst, -, hat⟩ | ⟨hst, hch, hv, htk, -, hmag, hlock⟩
      · rw [ownLogic_target hwk hst, targetOutcome, (takerAt?_of_cue hcue _).trans hat]
        simp only [ho, if_true]
        rfl
      · have hfor : w.takerFor? r.pocket o.record.tool = some (x, o) := by
          rw [takerFor?_of hmod hcue]
          simp [State.takerFor?, hmag, hlock, htk, Taker.targeting, hxst, Taker.expected, ho]
        rw [ownLogic_insert hwk hst hch hv]
        show arriveInsert r.pocket o.record.tool src.kind w = _
        rw [arriveInsert, hfor]
    generalize takerArrival x o r.pocket src.kind w = y at htook hlogic
    have hwx : ∀ p, p ≠ r.pocket → w.pocket p = s.pocket p := fun p hne => readBy_pocket_ne hne _
    have hyrds : y.rds = { s.rds with inFlight := none, queue :=
        if x.pocket ≠ r.pocket ∧ (s.pocket x.pocket).state = .wrongTool then [x.pocket] else [] } := by
      rw [htook.rds, hrds]
      by_cases hne : x.pocket ≠ r.pocket
      · rw [hwx _ hne]
        simp [hsole.queue]
      · simp [hne, hsole.queue]
    have hd := deliver_own hown hlogic (by rw [hyrds]; exact hsole.awaiting) (by rw [htook.checks, htrg]; exact hsole.checks) (by simp [hcon])
    have hsettle : settleReader y = { y with rds := { s.rds with inFlight :=
        if x.pocket ≠ r.pocket ∧ (s.pocket x.pocket).state = .wrongTool then some ⟨x.pocket, 0⟩ else none } } := by
      by_cases hread : x.pocket ≠ r.pocket ∧ (s.pocket x.pocket).state = .wrongTool
      · have hxk := htook.reread hread.1 (by rw [hwx _ hread.1]; exact hread.2)
        rw [if_pos hread] at hyrds ⊢
        rw [settleReader_grants (p := x.pocket) (running_of_stc (htook.stc.trans hstc) hsole.running) (by rw [hyrds]) (by rw [hyrds])
          (by rw [hyrds]; exact hsole.sweep) (by rw [hxk.congr Pocket.state]; simp), hyrds, ← hsole.queue]
      · rw [if_neg hread] at hyrds ⊢
        rw [← hsole.queue] at hyrds
        rw [settleReader_stays (.inr (by rw [hyrds]; exact hsole.queue)) (by rw [hyrds]; simp [hsole.sweep]), ← hyrds]
    have hyk := (hwk.map (f := Pocket.occupied o.record.tool)).trans htook.pocket
    refine ⟨_, (exec_readEnds hsole.running hsole.inFlight (.tag src.kind hval)).trans
        (congrArg Host.Outcome.next ((congrArg settleReader hd).trans hsettle)), htook.entry,
      fun v hv => (htook.others v hv).trans (hew v), htook.heard, hyk.congr Pocket.state, hyk.congr Pocket.contents, hyk.congr Pocket.latch,
      hyk.congr Pocket.verified, hyk.congr Pocket.target, fun hne _ hst hr => ?_, fun hne hst => ?_, ?_, ?_, ?_, rfl,
      htook.cck.trans hcck, htook.stc.trans hstc⟩
    · have hxk := htook.freed hne (by rw [hwx _ hne]; exact hst) (by rw [hwx _ hne]; exact hr)
      exact ⟨hxk.congr Pocket.state, hxk.congr Pocket.latch, hxk.congr Pocket.target⟩
    · have hxk := htook.reread hne (by rw [hwx _ hne]; exact hst)
      exact ⟨hxk.congr Pocket.state, hxk.congr Pocket.check, hxk.congr Pocket.latch, hxk.congr Pocket.target, hxk.congr Pocket.readRequested⟩
    · exact htook.hli.trans (by rw [hhli])
    · exact htook.notices.trans (by rw [hslk])
    · exact htook.cue.trans (by rw [hcue])
  all_goals
    have hown := hsole.own hreq
    have hp := hsole.bounded.pocket_lt hsole.range
    set x := s.readBy r.pocket (.tag u e.kind) with hx
    obtain ⟨htrg, -, hrds, hpru, hcue, hhli, hslk, hcck, hstc, -⟩ := (afterRead_readBy s r.pocket (.tag u e.kind)).blocks
    rw [← hx] at htrg hrds hpru hcue hhli hslk hcck hstc
    have hex : x.entry? u = some e := (entry?_of_trg htrg u).trans he
    have hbx : x.Bounded := readBy_bounded hsole.bounded
    have hwx : x.window? u = none := (window?_of_cue hcue u).trans (by simpa [State.windowOpen] using hwin)
    have hpx : r.pocket < x.pkc.pockets.length := by simpa [hx] using hp
    subst he'
  case transit =>
    have hleave := leavePlace_transit hex hc ((giverOf?_of_cue hcue u).trans hg) hgst (by rwa [hhli]) (by rwa [hstc]) (by rwa [hcue]) hwx
    set z := closeGiver g { x with hli := { x.hli with
      urgent := x.hli.urgent ++ [⟨.lapse g.seeker g.seek .withdrawn, .giver g.seeker g.seek⟩] } } with hz
    have hbz : z.Bounded := hleave ▸ leavePlace_bounded u hbx
    have haz : z.adoptionOpen u = false := adoptionOpen_of_windowOpen (windowOpen_of_window? hwx)
    have hzrds : z.rds = { s.rds with inFlight := none } := hrds
    have hd := deliver_returned hown hst hch hv he (by simp [hc]) hcond htk hleave hbz htrg haz (clearEntryMark_none hep)
      (show u ∉ x.pru.queue by rw [hpru]; simpa using hq) (by rw [hzrds]; exact hsole.awaiting)
    have hret := returnedTo (p := r.pocket) (x := z) he hbz htrg haz (show x.stc.node ≠ _ by rwa [hstc]) hpx
    refine ⟨_, ?_, hret.entry, hret.others, hret.state, hret.contents, hret.latch, hret.verified,
      fun q hne => (hret.pockets q hne).trans (readBy_pocket_ne hne _), ?_, ?_, hret.rds.trans hzrds, hret.pru.trans hpru,
      hret.slk.trans hslk, hret.cck.trans hcck, hret.stc.trans hstc⟩
    · rw [exec_readEnds hsole.running hsole.inFlight (.tag e.kind hval), hd]
      exact congrArg _ (settleReader_stays (.inr (by rw [hret.rds, hzrds]; exact hsole.queue)) (by rw [hret.rds, hzrds]; simp [hsole.sweep]))
    · have hzh : z.hli = { s.hli with
          urgent := s.hli.urgent ++ [⟨.lapse g.seeker g.seek .withdrawn, .giver g.seeker g.seek⟩] } := by
        rw [← hhli]
        rfl
      rw [hret.hli, hzh]
      rfl
    · rw [hret.cue, hz, ← hcue]
      rfl
  case gauge =>
    have hleave := leavePlace_gauge hex hc (by rw [hpru]; exact hg) rfl (by rw [hpru]; exact htx)
    set z : State := { x with
      pru := { x.pru with gauge := none, burst := none, first := none,
                          tx := if x.pru.burst.isSome then some ⟨.aborted, 0, 0, 0⟩ else none } } with hz
    have hbz : z.Bounded := hleave ▸ leavePlace_bounded u hbx
    have haz : z.adoptionOpen u = false := adoptionOpen_of_windowOpen (windowOpen_of_window? hwx)
    have hzrds : z.rds = { s.rds with inFlight := none } := hrds
    have hd := deliver_returned hown hst hch hv he (by simp [hc]) hcond htk hleave hbz htrg haz (clearEntryMark_none hep)
      (show u ∉ x.pru.queue by rw [hpru]; simpa using hq) (by rw [hzrds]; exact hsole.awaiting)
    have hret := returnedTo (p := r.pocket) (x := z) he hbz htrg haz (show x.stc.node ≠ _ by rwa [hstc]) hpx
    refine ⟨_, ?_, hret.entry, hret.others, hret.state, hret.contents, hret.latch, hret.verified,
      fun q hne => (hret.pockets q hne).trans (readBy_pocket_ne hne _), ?_, ?_, hret.rds.trans hzrds, hret.cue.trans hcue,
      hret.slk.trans hslk, hret.cck.trans hcck, hret.stc.trans hstc⟩
    · rw [exec_readEnds hsole.running hsole.inFlight (.tag e.kind hval), hd]
      exact congrArg _ (settleReader_stays (.inr (by rw [hret.rds, hzrds]; exact hsole.queue)) (by rw [hret.rds, hzrds]; simp [hsole.sweep]))
    · rw [hret.pru, hz, hpru]
    · exact hret.hli.trans (by rw [show z.hli = s.hli from hhli]; rfl)
  case moved =>
    have hleave := leavePlace_pocket hex hc hep ((giverOf?_of_cue hcue u).trans hg)
    have hpp := hsole.bounded.pocket_lt hlt
    have hxp : x.pocket p = s.pocket p := readBy_pocket_ne hne _
    set z := vacateMoved p u x with hz
    have hbz : z.Bounded := vacateMoved_bounded p u hbx
    have hztrg : z.trg = s.trg := by rw [hz, (vacateMoved_frame p u x).1, htrg]
    have hzcue : z.cue = s.cue := by rw [hz, (vacateMoved_frame p u x).2.2.1, hcue]
    have hzpru : z.pru = s.pru := by rw [hz, (vacateMoved_frame p u x).2.1, hpru]
    have hzhli : z.hli = s.hli := by rw [hz, (vacateMoved_frame p u x).2.2.2.1, hhli]
    have hzcck : z.cck = s.cck := by rw [hz, (vacateMoved_frame p u x).2.2.2.2.1, hcck]
    have hzstc : z.stc = s.stc := by rw [hz, (vacateMoved_frame p u x).2.2.2.2.2.1, hstc]
    have haz : z.adoptionOpen u = false := (State.adoptionOpen_of_cue hzcue u).trans (adoptionOpen_of_windowOpen hwin)
    have hzrds : z.rds = { s.rds with inFlight := none, queue := z.rds.queue } := by
      rw [hz, vacateMoved_rds, hrds]
    have hpx' : p < x.pkc.pockets.length := by simpa [hx] using hpp
    have hslkz : z.slk = (clearMark p (some u) x).slk := vacateMoved_slk p u x
    obtain ⟨k, hzk, hkmark, hkcon, hkrel, hkver, hkst⟩ : ∃ k : Pocket, k.Alike (z.pocket p) ∧ k.mark = none ∧ k.contents = none ∧
        k.openRelease = false ∧ k.verified = false ∧ ((s.pocket p).state = .stocked → k.state = .checking ∧
          k.check = some .insert ∧ k.latch = .locked ∧ k.readRequested = true ∧ k.vacated = some ⟨u, false⟩) ∧
        ((s.pocket p).state = .fault → k.state = .fault ∧ k.saved = some .empty) := by
      rcases hpst with hps | hps
      · obtain ⟨k, h1, h2, h3, h4, h5, h6⟩ := vacateMoved_stocked hpx' u (by rwa [hxp])
        exact ⟨k, h1, h2, h3, h4, h5, fun _ => h6, fun h => by simp [hps] at h⟩
      · obtain ⟨k, h1, h2, h3, h4, h5, h6⟩ := vacateMoved_faulty hpx' u (by rwa [hxp])
        exact ⟨k, h1, h2, h3, h4, h5, fun h => by simp [hps] at h, fun _ => h6⟩
    have hzmark : (z.pocket p).mark = none := (hzk.congr Pocket.mark).trans hkmark
    have hzw : z.rds.awaiting = false := by rw [hzrds]; exact hsole.awaiting
    have hd := deliver_returned hown hst hch hv he (by simp [hc]) hcond htk hleave hbz hztrg haz
      (by rw [clearEntryMark_some hep, clearMark_none hzmark]) (by rw [hzpru]; simpa using hq) hzw
    have hret := returnedTo (p := r.pocket) (x := z) he hbz hztrg haz (by rwa [hzstc]) (by rw [hbz.pockets]; exact hsole.range)
    generalize z.stocks r.pocket u (e.returned r.pocket) = y at hret hd
    have hyk : k.Alike (y.pocket p) := (hret.pockets p hne).symm ▸ hzk
    set w : State := { y with rds := { s.rds with inFlight := if (s.pocket p).state = .stocked then some ⟨p, 0⟩ else none } } with hwdef
    have hsettle : settleReader y = w := by
      have hyrds : y.rds = { s.rds with inFlight := none, queue := z.rds.queue } := hret.rds.trans hzrds
      rcases hpst with hps | hps
      · have hqueue : z.rds.queue = [p] := by
          rw [hz, vacateMoved_queue hlt hpx' u (by rwa [hxp]) (by simp [hrds, hsole.queue]) (by simp [hrds]), hrds]
          simp [hsole.queue]
        rw [settleReader_grants (p := p) (running_of_stc (hret.stc.trans hzstc) hsole.running) (by rw [hyrds]) (by rw [hyrds, hqueue])
          (by rw [hyrds]; exact hsole.sweep) (by rw [(hyk.congr Pocket.state).trans (hkst.1 hps).1]; simp), hwdef, if_pos hps, hyrds,
          ← hsole.queue]
      · have hqueue : z.rds.queue = [] := by
          rw [hz, vacateMoved_fault u (by rwa [hxp])]
          simp [hrds, hsole.queue]
        have hyrds' : y.rds = { s.rds with inFlight := none } := by rw [hyrds, hqueue, ← hsole.queue]
        rw [settleReader_stays (.inr (by rw [hyrds']; exact hsole.queue)) (by rw [hyrds']; simp [hsole.sweep]), hwdef,
          if_neg (by simp [hps]), ← hyrds']
    refine ⟨w, ?_, hret.entry, hret.others, hret.state, hret.contents, hret.latch, hret.verified, (hyk.congr Pocket.contents).trans hkcon,
      (hyk.congr Pocket.mark).trans hkmark, (hyk.congr Pocket.openRelease).trans hkrel, (hyk.congr Pocket.verified).trans hkver,
      fun h => ?_, fun h => ?_, fun q hqr hqp => ?_, fun hm => ?_, fun hm hmask hl => ?_, ?_, hret.pru.trans hzpru, hret.cue.trans hzcue,
      hret.cck.trans hzcck, hret.stc.trans hzstc⟩
    · rw [exec_readEnds hsole.running hsole.inFlight (.tag e.kind hval), hd, hsettle]
    · obtain ⟨h1, h2, h3, h4, h5⟩ := hkst.1 h
      exact ⟨(hyk.congr Pocket.state).trans h1, (hyk.congr Pocket.check).trans h2, (hyk.congr Pocket.latch).trans h3,
        (hyk.congr Pocket.readRequested).trans h4, (hyk.congr Pocket.vacated).trans h5, by rw [hwdef, if_pos h]⟩
    · obtain ⟨h1, h2⟩ := hkst.2 h
      exact ⟨(hyk.congr Pocket.state).trans h1, (hyk.congr Pocket.saved).trans h2, by rw [hwdef, if_neg (by simp [h])]⟩
    · exact (hret.pockets q hqr).trans ((vacateMoved_pocket_ne hqp u).trans (readBy_pocket_ne hqr _))
    · rw [show w.slk = z.slk from hret.slk, hslkz, clearMark_none (by rwa [hxp]), hslk]
    · obtain ⟨m, hm⟩ := Option.ne_none_iff_exists'.1 hm
      rw [show w.slk = z.slk from hret.slk, hslkz, clearMark_notices (by rwa [hxp]) ((masked_of_stc hstc _).trans hmask) (by rwa [hslk]),
        hslk]
      rfl
    · rw [show w.hli = _ from hret.hli, hzhli]
      rfl

end Sys2Proof.Machine

/-! PROOFS. Tools that a read finds missing, and the tag found in their place. -/

namespace Sys2Proof.Machine

open Sys2Proof

variable {s t : State} {p q : PocketNo} {u : ToolId} {r : Read} {a : AttemptResult} {o : Outcome}

/-- R2, R52: the tag of the tool that was there, under another kind, changes the kind last. -/
theorem deliver_own_tag {y : State} {kind : Nat} (h : s.OwnRead r) (hy : ownLogic r.pocket (.tag u kind) (s.readBy r.pocket (.tag u kind)) = y)
    (ha : y.rds.awaiting = false) (hc : y.trg.checks = []) (hu : (s.pocket r.pocket).contents = some u) :
    deliver r.pocket (.tag u kind) s.freed = retag u kind y := by
  have hpk : s.freed.pocket r.pocket = s.pocket r.pocket := rfl
  have hkeep : (s.pocket r.pocket).keepsFlag = false := by simp [Pocket.keepsFlag, h.asked]
  rw [State.readBy] at hy
  unfold deliver
  simp only [hpk, hkeep, h.asked, Bool.false_or, decide_eq_true_eq, if_true, hy, ha, hc, Bool.false_and, List.filter_nil,
    List.foldl_nil, Bool.false_eq_true, if_false, hu]

theorem retag_changes {e : Entry} {kind : Nat} (h : s.entry? u = some e) (hh : e.custody ≠ .foreign) (hk : e.kind ≠ kind)
    (hg : s.giverOf? u = none) : retag u kind s = versioned u (Entry.withKind s kind) s := by
  simp [retag, h, Entry.here_iff.2 hh, hk, versionedCondition_eq hg]

/-! ### Room for a departure (R4) -/

theorem insertEntry_countP_le {P : Entry → Bool} {e : Entry} (he : P e = false) (l : List Entry) :
    (insertEntry e l).countP P ≤ l.countP P := by
  induction l with
  | nil => simp [insertEntry, he]
  | cons x xs ih =>
    unfold insertEntry
    split
    · simp only [List.countP_cons, he, Bool.false_eq_true, if_false]
      omega
    · split
      · simp [List.countP_cons, he]
      · simp only [List.countP_cons]
        omega

theorem countP_openRelease (s : State) :
    s.pkc.pockets.countP (fun k => k.openRelease) = (List.range s.pkc.pockets.length).countP (fun p => (s.pocket p).openRelease) := by
  have hmap : s.pkc.pockets = (List.range s.pkc.pockets.length).map s.pocket :=
    List.ext_getElem (by simp) fun i hi _ => by simp [State.pocket, hi]
  conv_lhs => rw [hmap, List.countP_map]
  rfl

/-- R4: fewer tools outside and fewer departures leave room. -/
theorem departureRoom_mono (ht : t.outsideCount ≤ s.outsideCount)
    (hg : t.cue.givers.countP (fun g => !decide (g.state = .transit)) ≤ s.cue.givers.countP (fun g => !decide (g.state = .transit)))
    (hl : t.pkc.pockets.length = s.pkc.pockets.length) (hp : ∀ p, (t.pocket p).openRelease = true → (s.pocket p).openRelease = true)
    (h : s.departureRoom = true) : t.departureRoom = true := by
  have hle : t.pkc.pockets.countP (fun k => k.openRelease) ≤ s.pkc.pockets.countP (fun k => k.openRelease) := by
    rw [countP_openRelease, countP_openRelease, hl]
    exact List.countP_mono_left fun p _ => hp p
  have hroom : s.outsideCount + s.departureCount < 64 := of_decide_eq_true h
  refine decide_eq_true ?_
  unfold State.departureCount at hroom ⊢
  omega

/-! ### The tag found in the place of another tool (R52, R54) -/

/-- R85, R86: the Preset Queue after the report of a tool here with the condition. -/
def Condition.reported (c : Condition) (u : ToolId) (l : List ToolId) : List ToolId :=
  if c.queued = true then if u ∈ l then l else if l.length < 32 then l ++ [u] else l else l.filter (· != u)

/-- R54: an AWAY tool stocked in a pocket, its condition reported, up to the indicators. -/
structure State.Inserted (s t : State) (p : PocketNo) (u : ToolId) (e : Entry) : Prop where
  entry : t.entry? u = some (e.returned p)
  others : ∀ v, v ≠ u → t.entry? v = s.entry? v
  state : (t.pocket p).state = .stocked
  contents : (t.pocket p).contents = some u
  latch : (t.pocket p).latch = .locked
  verified : (t.pocket p).verified = true
  pockets : ∀ q, q ≠ p → (s.pocket q).Alike (t.pocket q)
  pru : t.pru = { s.pru with queue := e.condition.reported u s.pru.queue }
  checks : t.trg.checks = s.trg.checks
  rds : t.rds = s.rds
  cue : t.cue = s.cue
  slk : t.slk = s.slk
  cck : t.cck = s.cck
  stc : t.stc = s.stc

theorem presetRemove_queue (u : ToolId) (s : State) : (presetRemove u s).pru = { s.pru with queue := s.pru.queue.filter (· != u) } := by
  unfold presetRemove
  split
  · rfl
  · next h =>
    have hall : s.pru.queue.filter (· != u) = s.pru.queue :=
      List.filter_eq_self.2 fun v hv => by
        have hne : v ≠ u := fun hvu => h (by simpa [hvu] using hv)
        simpa using hne
    rw [hall]

theorem presetReport_queue {e : Entry} (h : s.entry? u = some e) (hh : e.custody ≠ .foreign) :
    (presetReport u s).pru = { s.pru with queue := e.condition.reported u s.pru.queue } := by
  by_cases hq : e.condition.queued = true
  · rw [presetReport_pru h hh hq, Condition.reported, if_pos hq]
  · rw [presetReport_leaves h (by simpa using hq), presetRemove_queue, Condition.reported, if_neg hq]

theorem insertTag_inserts {e : Entry} (l : Latch) (hb : s.Bounded) (hp : p < 48) (he : s.entry? u = some e) (hc : e.custody = .away)
    (hpk : e.pocket = none) (htk : s.takerFor? p u = none) (ha : s.adoptionOpen u = false) :
    s.Inserted (insertTag p l u e.kind s) p u e := by
  set x := modPocket p (fun k => { k.toEmpty with state := .checking, check := some .insert, latch := l }) s with hx
  have hex : x.entry? u = some e := he
  have hbx : x.Bounded := modPocket_bounded p _ hb
  have hpx : p < x.pkc.pockets.length := hbx.pocket_lt hp
  have hut : (e.returned p).tool = u := tool_of_entry? (e := e) he
  have heq : insertTag p l u e.kind s = presetReport u (x.stocks p u (e.returned p)) := by
    rw [insertTag, ← hx, arriveInsert_settles (s := x) htk,
      settleTag_returned hex (by simp [hc]) (leavePlace_outside hex (.inl hc)) hex ha (clearEntryMark_none hpk), reportReturn,
      if_pos (by simp [hc, Custody.outside]), tool_of_entry? he]
  set y := x.stocks p u (e.returned p) with hy
  have hey : y.entry? u = some (e.returned p) := stocks_entry_self hbx hut
  have hyk := (stocks_pocket_self (u := u) (e' := e.returned p) (.refl (x.pocket p)) hpx).trans (presetReport_alike u p y)
  have hent : ∀ v, (presetReport u y).entry? v = y.entry? v := entry?_of_trg (presetReport_frame u y).1
  rw [heq]
  exact
    { entry := (hent u).trans hey
      others := fun v hv => (hent v).trans (stocks_entry_ne hbx hut hv)
      state := hyk.congr Pocket.state
      contents := hyk.congr Pocket.contents
      latch := hyk.congr Pocket.latch
      verified := hyk.congr Pocket.verified
      pockets := fun q hq => by
        have hyq : y.pocket q = s.pocket q := (stocks_pocket_ne hq).trans (pocket_modPocket_ne hq _ _)
        exact hyq ▸ presetReport_alike u q y
      pru := by
        rw [presetReport_queue hey (by simp [Entry.returned]), show y.pru = s.pru from (stocks_frame _ _ _ _).2.1]
        rfl
      checks := by rw [(presetReport_frame u y).1]; exact (stocks_frame _ _ _ _).2.2.2.2.2.2.1
      rds := by simp [hy, hx]
      cue := by simp [hy, hx]
      slk := by simp [hy, hx]
      cck := by simp [hy, hx]
      stc := by simp [hy, hx] }

/-! ### A tool found missing (R4, R42, R13) -/

/-- R42: the entry of a tool that left its place. -/
def Entry.departed (e : Entry) : Entry :=
  { e with custody := .away, pocket := none, destination := none, awayTimer := some 3600, version := e.version + 1 }

theorem versioned_departs {e : Entry} (h : s.entry? u = some e) (ha : s.adoptionOpen u = false) :
    versioned u Entry.goAway s = handRecord u (putEntry e.departed (clearEntryMark e s)) :=
  versioned_kept h ha rfl

/-- R13: a deletion with no giver transfer and no window of the tool, but perhaps a place in the waiting list. -/
theorem deleteEntry_windowless {e : Entry} (he : s.entry? u = some e) (hh : e.custody ≠ .foreign) (hgz : e.custody ≠ .atGauge)
    (hg : s.giverOf? u = none) (hw : s.windowOpen u = false) :
    ∃ c, deleteEntry u s = { presetRemove u (withdrawRecord u (dropEntry u (vacateEntry e (clearEntryMark e s)))) with cue := c } := by
  set x := presetRemove u (withdrawRecord u (dropEntry u (vacateEntry e (clearEntryMark e s)))) with hx
  have hcue : x.cue = s.cue := by simp [hx]
  have hgiv : withdrawGiver .deleted u (clearEntryMark e s) = clearEntryMark e s :=
    withdrawGiver_none ((giverOf?_of_cue (by simp) u).trans hg) _
  set y : State := { x with cue := { x.cue with waiting := x.cue.waiting.filter (fun w => !decide (w = .transitCheck u)) } } with hy
  have hyw : y.windowOpen u = false := by
    simp only [State.windowOpen, State.window?, hy, hcue]
    exact hw
  have hclose : closeWindow u (closeTransitCheck u x) = y := by
    have h1 : closeWindow u y = y := by simp [closeWindow, hyw]
    have h2 : closeTransitCheck u x = y := by
      rw [closeTransitCheck, ← hy]
      simp only [h1, ite_self]
    rw [h2, h1]
  refine ⟨y.cue, ?_⟩
  simp only [deleteEntry, he, Entry.here_iff.2 hh, hgz, hgiv, ← hx, if_false, if_true]
  exact hclose

end Sys2Proof.Machine

/-! PROOFS. Removals: a release as AWAY, a recheck, a RESERVED and a RELEASING pocket (O28). -/

namespace Sys2Proof.Machine

open Sys2Proof

variable {s t : State} {p q : PocketNo} {u : ToolId} {r : Read} {a : AttemptResult} {o : Outcome}

theorem takerFor?_of_takers (hm : t.pkc.modules = s.pkc.modules) (hc : t.cue.takers = s.cue.takers) (p : PocketNo) (u : ToolId) :
    t.takerFor? p u = s.takerFor? p u := by
  have hmod : t.moduleOf p = s.moduleOf p := by simp only [State.moduleOf, hm]
  unfold State.takerFor? State.isMagazine State.hasLock
  rw [hmod, hc]

/-! ### A tool that left its pocket (R42, R35) -/

/-- R42: what the departure of tool u from pocket p leaves. -/
structure State.Departed (s t : State) (p : PocketNo) (u : ToolId) (e : Entry) : Prop where
  bounded : t.Bounded
  entry : t.entry? u = some e.departed
  others : ∀ v, v ≠ u → t.entry? v = s.entry? v
  pocket : ({ (s.pocket p).toEmpty with mark := none, verified := true } : Pocket).Alike (t.pocket p)
  pockets : ∀ q, q ≠ p → t.pocket q = s.pocket q
  modules : t.pkc.modules = s.pkc.modules
  slk : t.slk = (clearMark p (some u) s).slk
  urgent : t.hli.urgent = s.hli.urgent
  checks : t.trg.checks = s.trg.checks
  rds : t.rds = s.rds
  pru : t.pru = s.pru
  cue : t.cue = s.cue
  cck : t.cck = s.cck
  stc : t.stc = s.stc

theorem departed {e : Entry} (hb : s.Bounded) (hp : p < 48) (he : s.entry? u = some e) (hpk : e.pocket = some p)
    (ha : s.adoptionOpen u = false) : s.Departed (emptyVerified p (versioned u Entry.goAway s)) p u e := by
  have hlen := hb.pocket_lt hp
  set x := clearMark p (some u) s with hx
  have hv : versioned u Entry.goAway s = handRecord u (putEntry e.departed x) := by
    rw [versioned_departs he ha, clearEntryMark_some hpk, tool_of_entry? he]
  have hbv : (versioned u Entry.goAway s).Bounded := versioned_bounded u _ hb fun _ => rfl
  have hvp : ∀ q, (handRecord u (putEntry e.departed x)).pocket q = x.pocket q := fun q => State.pocket_of_pkc (by simp) q
  have hxp := (Pocket.Alike.refl (s.pocket p)).clearMark hlen (some u)
  have hal : ({ s.pocket p with mark := none } : Pocket).Alike ((versioned u Entry.goAway s).pocket p) := by
    rw [hv, hvp]
    exact hxp
  exact
    { bounded := modPocket_bounded p _ hbv
      entry := versioned_entry_self hb he ha rfl
      others := fun v hne => versioned_entry_ne hb he ha rfl hne
      pocket := hal.modPocket (f := fun k => { k.toEmpty with verified := true }) (hbv.pocket_lt hp)
      pockets := fun q hq => by
        rw [emptyVerified, pocket_modPocket_ne hq, hv, hvp, hx, clearMark_pocket_ne hq]
      modules := by simp [emptyVerified, hv, hx]
      slk := by simp [emptyVerified, hv, ← hx]
      urgent := by
        rw [emptyVerified, (modPocket_frame _ _ _).2.2.2.2.1, hv, handRecord_rest]
        simp [hx]
      checks := by
        show (versioned u Entry.goAway s).trg.checks = _
        rw [versioned_trg he ha]
        rfl
      rds := by simp [emptyVerified]
      pru := by simp [emptyVerified, hv, hx]
      cue := by simp [emptyVerified]
      cck := by simp [emptyVerified]
      stc := by simp [emptyVerified] }

theorem toolMissing_room (hg : s.giverOf? u = none) (hd : s.departureRoom = true) :
    toolMissing p u s = emptyVerified p (versioned u Entry.goAway s) := by
  simp only [toolMissing, withdrawGiver_none hg, forceAway, hd, if_true]

theorem toolMissing_full (hg : s.giverOf? u = none) (hd : s.departureRoom = false) :
    toolMissing p u s = emptyVerified p (noticeLimit p u (deleteEntry u s)) := by
  simp [toolMissing, withdrawGiver_none hg, forceAway, hd]

theorem mem_pushNotice {n : Notice} (h : s.masked n.kind = false) : n ∈ (pushNotice n s).slk.notices := by
  rw [pushNotice_of_shown h, owePulse_notices]
  exact mem_queueNotice n s

/-- R4, R13: a tool found missing at the outside limit. -/
theorem toolMissing_deletes {e : Entry} (hb : s.Bounded) (hp : p < 48) (he : s.entry? u = some e) (hc : e.custody = .stocked)
    (hpk : e.pocket = some p) (hg : s.giverOf? u = none) (hw : s.windowOpen u = false) (hd : s.departureRoom = false) :
    (toolMissing p u s).entry? u = none ∧ (∀ v, v ≠ u → (toolMissing p u s).entry? v = s.entry? v) ∧
      u ∉ (toolMissing p u s).pru.queue ∧
      (s.masked .limit = false → ⟨.limit, some p, some u, none, none, []⟩ ∈ (toolMissing p u s).slk.notices) ∧
      ({ (s.pocket p).losesTool.toEmpty with mark := none, verified := true } : Pocket).Alike ((toolMissing p u s).pocket p) ∧
      (toolMissing p u s).trg.checks = s.trg.checks ∧ (toolMissing p u s).rds = s.rds ∧ (toolMissing p u s).cck = s.cck ∧
      (toolMissing p u s).stc = s.stc := by
  have hlen := hb.pocket_lt hp
  obtain ⟨c, hdel⟩ := deleteEntry_windowless he (by simp [hc]) (by simp [hc]) hg hw
  have hvac : vacateEntry e (clearEntryMark e s) = modPocket p Pocket.losesTool (clearMark p (some u) s) := by
    rw [clearEntryMark_some hpk, tool_of_entry? he, vacateEntry, hpk]
  rw [hvac] at hdel
  set w := withdrawRecord u (dropEntry u (modPocket p Pocket.losesTool (clearMark p (some u) s))) with hwdef
  set x : State := { presetRemove u w with cue := c } with hx
  rw [toolMissing_full hg hd, hdel]
  have hent : ∀ v, (emptyVerified p (noticeLimit p u x)).entry? v = (dropEntry u s).entry? v := fun v =>
    entry?_of_trg (by simp [emptyVerified, hx, hwdef, dropEntry]) v
  have hxk : ({ (s.pocket p).losesTool with mark := none } : Pocket).Alike (x.pocket p) :=
    (losesTool_pocket_self hlen (some u)).trans (presetRemove_alike u p w)
  have hnk : (noticeLimit p u x).pocket p = x.pocket p := State.pocket_of_pkc (by simp) p
  have hbw : (presetRemove u w).Bounded :=
    presetRemove_bounded u (withdrawRecord_bounded u (dropEntry_bounded u (modPocket_bounded p _ (clearMark_bounded p _ hb))))
  have hxlen : p < (noticeLimit p u x).pkc.pockets.length := by
    rw [(noticeLimit_frame p u x).2.1]
    exact hbw.pocket_lt hp
  refine ⟨(hent u).trans (entry?_dropEntry_self u s), fun v hv => (hent v).trans (entry?_dropEntry_ne hv), ?_, fun hm => ?_,
    Pocket.Alike.modPocket (f := fun k => { k.toEmpty with verified := true }) (hnk ▸ hxk) hxlen, ?_, ?_, ?_, ?_⟩
  · simpa [emptyVerified, hx] using not_mem_presetRemove u w
  · refine mem_pushNotice (n := pocketNotice .limit p (some u)) ((masked_of_stc ?_ _).trans hm)
    simp [hx, hwdef]
  all_goals simp [emptyVerified, hx, hwdef]

/-- R4: a read leaves the departures as they are. -/
theorem departureRoom_readBy (s : State) (p : PocketNo) (o : Outcome) : (s.readBy p o).departureRoom = s.departureRoom := by
  obtain ⟨htrg, -, -, -, hcue, -⟩ := (afterRead_readBy s p o).blocks
  refine departureRoom_of_openRelease htrg hcue (by simp) fun q => ?_
  by_cases hq : q = p
  · subst hq
    by_cases hlen : q < s.pkc.pockets.length
    · exact (readBy_pocket_self hlen o).congr Pocket.openRelease
    · simp [State.pocket, hlen]
  · rw [readBy_pocket_ne hq]

/-! ### The read of a RELEASING pocket (R129 to R131) -/

/-- R129: what the removal of tool u from RELEASING pocket p leaves, before its giver transfer is settled. -/
structure State.Gone (s t : State) (p : PocketNo) (u : ToolId) (e' : Entry) : Prop where
  bounded : t.Bounded
  entry : t.entry? u = some e'
  others : ∀ v, v ≠ u → t.entry? v = s.entry? v
  pocket : ((s.pocket p).toEmpty).Alike (t.pocket p)
  pockets : ∀ q, q ≠ p → t.pocket q = s.pocket q
  modules : t.pkc.modules = s.pkc.modules
  hli : t.hli = { s.hli with routine := placeRecord e'.record s.hli.routine }
  checks : t.trg.checks = s.trg.checks
  rds : t.rds = s.rds
  pru : t.pru = s.pru
  cue : t.cue = s.cue
  slk : t.slk = s.slk
  cck : t.cck = s.cck
  stc : t.stc = s.stc

/-- R112, R129: the entry f gives, and the pocket freed. -/
def State.removed (s : State) (p : PocketNo) (u : ToolId) (f : Entry → Entry) : State :=
  relatchGone p (modPocket p (fun k => { k with contents := none }) (versioned u f s))

theorem gone {e : Entry} {f : Entry → Entry} (hb : s.Bounded) (hp : p < 48) (he : s.entry? u = some e) (hpk : e.pocket = some p)
    (ha : s.adoptionOpen u = false) (hn : s.stc.node ≠ .idConflict) (hmark : (s.pocket p).mark = none)
    (hst : (s.pocket p).state = .releasing) (hr : (s.pocket p).readRequested = false) (hcond : ∀ e, (f e).condition = e.condition)
    (htool : ∀ e, (f e).tool = e.tool) (hh : (f e).custody ≠ .foreign) :
    s.Gone (s.removed p u f) p u { f e with version := e.version + 1 } := by
  have hv : versioned u f s = handRecord u (putEntry { f e with version := e.version + 1 } s) := by
    rw [versioned_kept he ha (hcond e), clearEntryMark_some hpk, clearMark_none hmark]
  set x := versioned u f s with hx
  have hbx : x.Bounded := versioned_bounded u f hb htool
  have hxp : ∀ q, x.pocket q = s.pocket q := fun q => State.pocket_of_pkc (by rw [hv]; simp) q
  have hlen := hbx.pocket_lt hp
  set y := modPocket p (fun k => { k with contents := none }) x with hy
  have hyk : ({ s.pocket p with contents := none } : Pocket).Alike (y.pocket p) := hxp p ▸ modPocket_alike hlen
  have hylen : p < y.pkc.pockets.length := by simpa [hy] using hlen
  have hfreed : ({ s.pocket p with contents := none } : Pocket).freed = (s.pocket p).toEmpty := by
    simp [Pocket.freed, hr, Pocket.toEmpty]
  have hz : s.removed p u f = modPocket p Pocket.freed y := relatchGone_eq ((hyk.congr Pocket.state).trans hst)
  rw [hz]
  exact
    { bounded := modPocket_bounded p _ (modPocket_bounded p _ hbx)
      entry := versioned_entry_self hb he ha (htool e)
      others := fun v hne => versioned_entry_ne hb he ha (htool e) hne
      pocket := hfreed ▸ hyk.modPocket (f := Pocket.freed) hylen fun k i => by
        unfold Pocket.freed
        dsimp only
        split <;> rfl
      pockets := fun q hq => by rw [pocket_modPocket_ne hq, hy, pocket_modPocket_ne hq, hxp]
      modules := by simp [hy, hv]
      hli := by
        show x.hli = _
        exact versioned_hli hb he ha (htool e) hh hn
      checks := by
        show x.trg.checks = _
        rw [hx, versioned_trg he ha]
        rfl
      rds := by simp [hy, hx]
      pru := by simp [hy, hv]
      cue := by simp [hy, hx]
      slk := by simp [hy, hv]
      cck := by simp [hy, hx]
      stc := by simp [hy, hx] }

/-- R129: the entry of a tool on its way to the seeker. -/
def Entry.goSeeker (dst : StationId) (e : Entry) : Entry :=
  { e with custody := .transit, pocket := none, destination := some dst, awayTimer := some 900 }

/-- R129: the giver transfer of a tool on its way, with the frame that says so. -/
def Giver.onTheWay (g : Giver) (e : Entry) : Giver :=
  { g with state := .transit, pocket := none, timer := none, expired := false, withdrawing := false,
           lastFrame := .released g.seeker g.seek e.record }

theorem removal_eq {g : Giver} {e' : Entry} (he : (s.removed q g.tool (Entry.goSeeker g.seeker)).entry? g.tool = some e')
    (hu : (s.removed q g.tool (Entry.goSeeker g.seeker)).hli.urgent.length < 8)
    (hn : (s.removed q g.tool (Entry.goSeeker g.seeker)).stc.node ≠ .idConflict) :
    removal g q s = { putGiver (g.onTheWay e') (s.removed q g.tool (Entry.goSeeker g.seeker)) with
      hli := { (s.removed q g.tool (Entry.goSeeker g.seeker)).hli with
        urgent := (s.removed q g.tool (Entry.goSeeker g.seeker)).hli.urgent ++
          [⟨.released g.seeker g.seek e'.record, .giver g.seeker g.seek⟩] } } := by
  have hrem : removal g q s = handPlain (.released g.seeker g.seek e'.record) (.giver g.seeker g.seek)
      (putGiver (g.onTheWay e') (s.removed q g.tool (Entry.goSeeker g.seeker))) := by
    have he' : (relatchGone q (modPocket q (fun k => { k with contents := none }) (versioned g.tool (fun e =>
        { e with custody := .transit, pocket := none, destination := some g.seeker, awayTimer := some 900 }) s))).entry? g.tool =
        some e' := he
    simp only [removal, he']
    rfl
  rw [hrem]
  exact handPlain_eq (s := putGiver (g.onTheWay e') (s.removed q g.tool (Entry.goSeeker g.seeker))) hu hn _ _

/-- R131: the tool back in its RELEASING pocket. -/
theorem giverBack_eq {g : Giver} {e : Entry} (hst : (s.pocket q).state = .releasing) (he : s.entry? g.tool = some e)
    (hc : e.custody = .releasing) :
    giverBack g q s = closeGiver g (putEntry { e with custody := .stocked } (modPocket q Pocket.toStocked s)) := by
  have he' : (modPocket q Pocket.toStocked s).entry? g.tool = some e := he
  rw [giverBack, relatchPresent_eq hst, restock_eq he' (.inr hc)]

/-- R130, R131: the transfer of RELEASING pocket p closed with its tool back, and LAPSE(TIMEOUT) for one that was not withdrawn. -/
def State.backAt (s : State) (g : Giver) (p : PocketNo) (e : Entry) : State :=
  { closeGiver g (putEntry { e with custody := .stocked } (modPocket p Pocket.toStocked s)) with
    hli := { s.hli with urgent := s.hli.urgent ++
      (if g.withdrawing then [] else [⟨.lapse g.seeker g.seek .timeout, .giver g.seeker g.seek⟩]) } }

/-- R130, R131: what the transfer closed after a read leaves besides the pocket. -/
theorem backAt_spec {x : State} {g : Giver} {e : Entry} (hafter : s.AfterRead x) (hb : s.Bounded) (he : s.entry? g.tool = some e) :
    (x.backAt g p e).entry? g.tool = some { e with custody := .stocked } ∧
      (∀ v, v ≠ g.tool → (x.backAt g p e).entry? v = s.entry? v) ∧ (x.backAt g p e).giver? g.seeker g.seek = none ∧
      (x.backAt g p e).cue.lapsed.getLast? = some (g.seeker, g.seek) ∧ (x.backAt g p e).cue.takers = s.cue.takers ∧
      (x.backAt g p e).hli = { s.hli with urgent := s.hli.urgent ++
        (if g.withdrawing then [] else [⟨.lapse g.seeker g.seek .timeout, .giver g.seeker g.seek⟩]) } ∧
      (x.backAt g p e).rds = { s.rds with inFlight := none } ∧ (x.backAt g p e).trg.checks = s.trg.checks := by
  obtain ⟨htrg, -, hrds, -, hcue, hhli, -⟩ := hafter.blocks
  have hut : ({ e with custody := .stocked } : Entry).tool = g.tool := tool_of_entry? (e := e) he
  have hreg : x.trg.entries.Pairwise (fun a b => a.tool < b.tool) := by
    rw [htrg]
    exact hb.register
  refine ⟨entry?_putEntry_of_tool (s := x) hreg hut, fun v hv => (entry?_putEntry_ne (s := x) hreg (by rwa [hut])).trans
    (entry?_of_trg htrg v), giver?_closeGiver g _, addLapsed_getLast? _ _, ?_, ?_, hrds, ?_⟩
  · rw [← hcue]
    rfl
  · rw [← hhli]
    rfl
  · rw [← htrg]
    rfl

theorem releasingOutcome_back {g : Giver} {e : Entry} (h : g.withdrawing = true ∨ g.expired = true)
    (hst : (s.pocket p).state = .releasing) (he : s.entry? g.tool = some e) (hc : e.custody = .releasing) (hu : s.hli.urgent.length < 8)
    (hn : s.stc.node ≠ .idConflict) (kind : Nat) :
    releasingOutcome g p (.tag g.tool kind) s = s.backAt g p e ∧ releasingOutcome g p .readFail s = unverify p (s.backAt g p e) := by
  have hback := giverBack_eq hst he hc
  by_cases hw : g.withdrawing = true
  · have heq : giverBack g p s = s.backAt g p e := by
      rw [hback, State.backAt, if_pos hw, List.append_nil]
      rfl
    simp only [releasingOutcome, hw, if_true, heq, true_and]
  · have hw' := Bool.eq_false_iff.2 hw
    have heq : sendLapse g.seeker g.seek .timeout (.giver g.seeker g.seek) (giverBack g p s) = s.backAt g p e := by
      rw [hback, sendLapse_eq (s := closeGiver g (putEntry { e with custody := .stocked } (modPocket p Pocket.toStocked s))) hu hn,
        State.backAt, if_neg hw]
      rfl
    simp only [releasingOutcome, hw', h.resolve_left hw, Bool.false_eq_true, if_false, if_true, heq, true_and]

/-- R129, R131: what the removal from RELEASING pocket p leaves, its transfer on the way or closed. -/
structure State.LeftBy (s t : State) (g : Giver) (p : PocketNo) (e' : Entry) : Prop where
  bounded : t.Bounded
  entry : t.entry? g.tool = some e'
  others : ∀ v, v ≠ g.tool → t.entry? v = s.entry? v
  pocket : ((s.pocket p).toEmpty).Alike (t.pocket p)
  pockets : ∀ q, q ≠ p → t.pocket q = s.pocket q
  modules : t.pkc.modules = s.pkc.modules
  routine : t.hli.routine = placeRecord e'.record s.hli.routine
  onTheWay : g.withdrawing = false → t.giver? g.seeker g.seek = some (g.onTheWay e') ∧
    t.hli.urgent = s.hli.urgent ++ [⟨.released g.seeker g.seek e'.record, .giver g.seeker g.seek⟩] ∧ t.cue.lapsed = s.cue.lapsed
  closed : g.withdrawing = true → t.giver? g.seeker g.seek = none ∧ t.hli.urgent = s.hli.urgent ∧
    t.cue.lapsed.getLast? = some (g.seeker, g.seek)
  takers : t.cue.takers = s.cue.takers
  windows : t.cue.windows = s.cue.windows
  checks : t.trg.checks = s.trg.checks
  rds : t.rds = s.rds
  pru : t.pru = s.pru
  slk : t.slk = s.slk
  cck : t.cck = s.cck
  stc : t.stc = s.stc

/-- R129, R131: the entry of a tool removed from a RELEASING pocket. -/
def Giver.goneEntry (g : Giver) (e : Entry) : Entry :=
  if g.withdrawing then e.departed else { e.goSeeker g.seeker with version := e.version + 1 }

theorem leftBy {g : Giver} {e : Entry} (hb : s.Bounded) (hp : p < 48) (he : s.entry? g.tool = some e) (hpk : e.pocket = some p)
    (ha : s.adoptionOpen g.tool = false) (hn : s.stc.node ≠ .idConflict) (hu : s.hli.urgent.length < 8) (hmark : (s.pocket p).mark = none)
    (hst : (s.pocket p).state = .releasing) (hr : (s.pocket p).readRequested = false) (hg : s.giver? g.seeker g.seek = some g) :
    ∃ y : State, s.LeftBy y g p (g.goneEntry e) ∧ releasingOutcome g p .noTag s = y ∧
      ∀ v kind, v ≠ g.tool → releasingOutcome g p (.tag v kind) s = insertTag p .locked v kind y := by
  by_cases hw : g.withdrawing = true
  · have hgone := gone (f := Entry.goAway) hb hp he hpk ha hn hmark hst hr (fun _ => rfl) (fun _ => rfl) (by simp [Entry.goAway])
    have hurgent : (s.removed p g.tool Entry.goAway).hli.urgent = s.hli.urgent := by rw [hgone.hli]
    have htakers : (s.removed p g.tool Entry.goAway).cue.takers = s.cue.takers := by rw [hgone.cue]
    have hwindows : (s.removed p g.tool Entry.goAway).cue.windows = s.cue.windows := by rw [hgone.cue]
    refine ⟨closeGiver g (s.removed p g.tool Entry.goAway), ?_, ?_, fun v kind hv => ?_⟩
    · rw [Giver.goneEntry, if_pos hw]
      exact ⟨closeGiver_bounded g hgone.bounded, hgone.entry, hgone.others, hgone.pocket, hgone.pockets, hgone.modules,
        congrArg Hli.routine hgone.hli, fun h => absurd (hw.symm.trans h) (by decide),
        fun _ => ⟨giver?_closeGiver g _, hurgent, addLapsed_getLast? _ _⟩, htakers, hwindows, hgone.checks, hgone.rds, hgone.pru, hgone.slk, hgone.cck, hgone.stc⟩
    · simp only [releasingOutcome, hw, if_true]
      rfl
    · simp only [releasingOutcome, hw, if_true, if_neg hv]
      rfl
  · have hw' := Bool.eq_false_iff.2 hw
    have hgone := gone (f := Entry.goSeeker g.seeker) hb hp he hpk ha hn hmark hst hr (fun _ => rfl) (fun _ => rfl)
      (by simp [Entry.goSeeker])
    have hrem := removal_eq hgone.entry (by rw [hgone.hli]; exact hu) (by rw [hgone.stc]; exact hn)
    have hlapsed : (s.removed p g.tool (Entry.goSeeker g.seeker)).cue.lapsed = s.cue.lapsed := by rw [hgone.cue]
    have htakers : (s.removed p g.tool (Entry.goSeeker g.seeker)).cue.takers = s.cue.takers := by rw [hgone.cue]
    have hwindows : (s.removed p g.tool (Entry.goSeeker g.seeker)).cue.windows = s.cue.windows := by rw [hgone.cue]
    refine ⟨removal g p s, ?_, ?_, fun v kind hv => ?_⟩
    · rw [hrem, Giver.goneEntry, if_neg hw]
      have hbr : (removal g p s).Bounded := removal_bounded g p hb
      rw [hrem] at hbr
      exact ⟨hbr, hgone.entry, hgone.others, hgone.pocket, hgone.pockets, hgone.modules, congrArg Hli.routine hgone.hli,
        fun _ => ⟨giver?_putGiver ((giver?_of_cue hgone.cue _ _).trans hg) rfl rfl, by rw [hgone.hli], hlapsed⟩,
        fun h => absurd h hw, htakers, hwindows, hgone.checks, hgone.rds, hgone.pru, hgone.slk, hgone.cck, hgone.stc⟩
    · simp only [releasingOutcome, hw', Bool.false_eq_true, if_false]
    · simp only [releasingOutcome, hw', Bool.false_eq_true, if_false, if_neg hv]
      rfl

/-- R42: a read without a tag that ends in the departure of the pocket's tool. -/
theorem exec_departs {e : Entry} (hown : s.OwnRead r) (hb : s.Bounded) (hr : r.pocket < 48) (he : s.entry? u = some e)
    (hpk : e.pocket = some r.pocket) (ha : s.adoptionOpen u = false)
    (hlogic : ownLogic r.pocket .noTag (s.readBy r.pocket .noTag) =
      emptyVerified r.pocket (versioned u Entry.goAway (s.readBy r.pocket .noTag))) :
    ∃ t : State, exec (.readAttemptEnd .noTag) s = .next t ∧ (s.readBy r.pocket .noTag).Departed t r.pocket u e := by
  obtain ⟨htrg, -, hrds, -, hcue, -⟩ := (afterRead_readBy s r.pocket .noTag).blocks
  have hdep := departed (p := r.pocket) (readBy_bounded (p := r.pocket) (o := .noTag) hb) hr ((entry?_of_trg htrg u).trans he) hpk
    ((State.adoptionOpen_of_cue hcue u).trans ha)
  exact ⟨_, exec_ownRead hown .noTag hlogic (hdep.rds.trans hrds) (by rw [hdep.checks, htrg]; exact hown.checks) (by simp), hdep⟩

/-- R52: the tag of the tool that was there, under the kind of its entry. -/
theorem retag_same {e : Entry} {y : State} (he : y.entry? u = some e) {v : ToolId} {kind : Nat}
    (h : Outcome.tag u e.kind = Outcome.tag v kind) : retag v kind y = y := by
  cases h
  exact retag_kept he

/-- R42: the read that settles a release as AWAY. -/
theorem removeOutcome_stocks (hown : s.OwnRead r) (hb : s.Bounded) (hr : r.pocket < 48) {e : Entry} (hst : (s.pocket r.pocket).state = .checking)
    (hch : (s.pocket r.pocket).check = some .remove) (hc : (s.pocket r.pocket).contents = some u) (hval : toolIdValid u = true)
    (he : s.entry? u = some e) :
    ∃ t : State, exec (.readAttemptEnd (.tag u e.kind)) s = .next t ∧
      ({ ((s.pocket r.pocket).readBy (.tag u e.kind)).toStocked with verified := true } : Pocket).Alike (t.pocket r.pocket) ∧
      (∀ q, q ≠ r.pocket → t.pocket q = s.pocket q) ∧ s.AfterRead t := by
  have hp := hb.pocket_lt hr
  have hk := readBy_pocket_self hp (.tag u e.kind)
  have hafter := (afterRead_readBy s r.pocket (.tag u e.kind)).modPocket r.pocket (fun k => { k.toStocked with verified := true })
  refine ⟨_, exec_ownRead_pockets hown (.tag e.kind hval) ((ownLogic_remove hk hst hch hc _).trans (if_pos rfl)) hafter
    (fun v kind hv _ => retag_same ((entry?_of_trg hafter.blocks.1 u).trans he) hv), ?_, fun q hq => ?_, hafter⟩
  · exact hk.modPocket (f := fun k => { k.toStocked with verified := true }) (by simpa using hp)
  · exact (pocket_modPocket_ne hq _ _).trans (readBy_pocket_ne hq _)

theorem changeKind_condition (full kind : Nat) (e : Entry) : (e.changeKind full kind).condition =
    if e.condition = .quarantine .duplicate ∨ e.condition = .quarantine .operator then e.condition else .needsPreset := by
  unfold Entry.changeKind
  dsimp only
  split <;> simp_all

/-- R35: the own tag read at a CHECKING pocket with check RECHECK, before R2. -/
theorem recheck_stocks {kind : Nat} (hr : r.pocket < s.pkc.pockets.length) (hst : (s.pocket r.pocket).state = .checking)
    (hch : (s.pocket r.pocket).check = some .recheck) (hc : (s.pocket r.pocket).contents = some u) :
    ownLogic r.pocket (.tag u kind) (s.readBy r.pocket (.tag u kind)) =
      modPocket r.pocket (fun k => { k.toStocked with verified := true }) (s.readBy r.pocket (.tag u kind)) := by
  have hk := readBy_pocket_self hr (.tag u kind)
  have hne : ((s.readBy r.pocket (.tag u kind)).pocket r.pocket).state ≠ .reserved := by
    rw [hk.congr Pocket.state]
    simp [Pocket.readBy, hst]
  rw [ownLogic_recheck hk (.inl ⟨hst, hch⟩) hc, recheckOutcome]
  simp only [if_true, if_neg hne]

/-- Settles O28, by the check or the state of the pocket and the outcome of its read. -/
theorem removalSettles : Obligations.RemovalSettles := by
  refine ⟨fun r u e s hs hb hr hqueue hw ha hchk hst hch hreq hc hmark hval he hut hpk hcus hwin => ?remove,
    fun r u e k s hsole hk hc hreq hval he hpk hwin => ⟨fun hst hch hcus hg => ⟨?same, fun kind hkind => ?kind, ?missing,
      fun v f hvv hvu hf hfc hfp htk hcw hd => ?other, fun hf => ?unread⟩,
      fun g hst hcus hg hgst hgp => ⟨?kept, fun hd hurg hn => ?reserved⟩⟩,
    fun r g e gone k s hsole hk hst hc hreq hmark hval hgst hgp hgat hgid he hcus hpk hwin hurg hn hgone =>
      ⟨?gone, fun hw hx a ha => ?stays, fun hwx a ha => ?back, fun v f hvv hvu hf hfc hfp htk hcw => ?replaced⟩⟩
  case remove =>
    have hr48 : r.pocket < 48 := hb.pockets ▸ lt_of_pocket_present (by simp [hst])
    have hown : s.OwnRead r := ⟨hs, hr, hqueue, hw, ha, hchk, hreq⟩
    have hp := hb.pocket_lt hr48
    refine ⟨?_, ?_⟩
    · have hk := readBy_pocket_self hp .noTag
      obtain ⟨htrg, -, -, hpru, hcue, -, hslk, hcck, hstc, -⟩ := (afterRead_readBy s r.pocket .noTag).blocks
      obtain ⟨t, ht, hdep⟩ := exec_departs hown hb hr48 he hpk (adoptionOpen_of_windowOpen hwin) (ownLogic_remove hk hst hch hc _)
      have hyk := (hk.map (f := fun k => { k.toEmpty with mark := none, verified := true })).trans hdep.pocket
      refine ⟨t, ht, hdep.entry, fun v hv => (hdep.others v hv).trans (entry?_of_trg htrg v), hyk.congr Pocket.state,
        hyk.congr Pocket.contents, hyk.congr Pocket.latch, hyk.congr Pocket.openRelease, hyk.congr Pocket.verified,
        fun q hq => (hdep.pockets q hq).trans (readBy_pocket_ne hq _), hdep.cue.trans hcue, hdep.pru.trans hpru, ?_,
        hdep.cck.trans hcck, hdep.stc.trans hstc⟩
      rw [hdep.slk, clearMark_none ((hk.congr Pocket.mark).trans hmark), hslk]
    · obtain ⟨t, ht, htk, hne, hafter⟩ := removeOutcome_stocks hown hb hr48 hst hch hc hval he
      exact ⟨t, ht, htk.congr Pocket.state, (htk.congr Pocket.contents).trans hc, htk.congr Pocket.latch, htk.congr Pocket.openRelease,
        htk.congr Pocket.verified, hne, hafter⟩
  all_goals
    subst hk
    have hown := hsole.own hreq
    have hp := hsole.bounded.pocket_lt hsole.range
  case' gone | replaced =>
    have hgoneEq : gone = g.goneEntry e := hgone
  case same =>
    have hk := readBy_pocket_self hp (.tag u e.kind)
    have hafter := (afterRead_readBy s r.pocket (.tag u e.kind)).modPocket r.pocket (fun k => { k.toStocked with verified := true })
    have hyk := hk.modPocket (f := fun k => { k.toStocked with verified := true }) (by simpa using hp)
    exact ⟨_, exec_ownRead_pockets hown (.tag e.kind hval) (recheck_stocks hp hst hch hc) hafter
        (fun v kind hv _ => retag_same ((entry?_of_trg hafter.blocks.1 u).trans he) hv),
      hyk.congr Pocket.state, (hyk.congr Pocket.contents).trans hc, hyk.congr Pocket.latch, hyk.congr Pocket.verified,
      hyk.congr Pocket.mark, fun q hq => (pocket_modPocket_ne hq _ _).trans (readBy_pocket_ne hq _), hafter⟩
  case kind =>
    have hk := readBy_pocket_self hp (.tag u kind)
    have hafter := (afterRead_readBy s r.pocket (.tag u kind)).modPocket r.pocket (fun k => { k.toStocked with verified := true })
    have hyk := hk.modPocket (f := fun k => { k.toStocked with verified := true }) (by simpa using hp)
    have hb := modPocket_bounded r.pocket (fun k => { k.toStocked with verified := true }) (readBy_bounded (p := r.pocket)
      (o := .tag u kind) hsole.bounded)
    have hd := deliver_own_tag hown (recheck_stocks (kind := kind) hp hst hch hc) (by rw [hafter.blocks.2.2.1]; exact hsole.awaiting)
      (by rw [hafter.blocks.1]; exact hsole.checks) hc
    generalize modPocket r.pocket (fun k => { k.toStocked with verified := true }) (s.readBy r.pocket (.tag u kind)) = y at *
    obtain ⟨htrg, -, hrds, -, hcue, hhli, -, hcck, hstc, -⟩ := hafter.blocks
    have hey := (entry?_of_trg htrg u).trans he
    have hay : y.adoptionOpen u = false := (State.adoptionOpen_of_cue hcue u).trans (adoptionOpen_of_windowOpen hwin)
    have hfull : y.fullLife kind = s.fullLife kind := by rw [State.fullLife, State.fullLife, kind?_of_stc hstc]
    have hwith : Entry.withKind y kind e = e.changeKind (s.fullLife kind) kind := by
      rw [Entry.withKind, if_neg (Ne.symm hkind), hfull]
    rw [retag_changes hey (by simp [hcus]) (Ne.symm hkind) ((giverOf?_of_cue hcue u).trans hg)] at hd
    have hself := versioned_entry_self (f := Entry.withKind y kind) hb hey hay (by rw [hwith]; rfl)
    have hhli' := versioned_hli (f := Entry.withKind y kind) hb hey hay (by rw [hwith]; rfl) (by rw [hwith]; simp [Entry.changeKind, hcus])
    rw [hwith, hhli, hstc] at hhli'
    rw [hwith] at hself
    have htk := (hyk.map (f := fun k => { k with mark := none })).trans
      (versioned_pocket_self hey hpk (hb.pocket_lt hsole.range) (Entry.withKind y kind))
    refine ⟨versioned u (Entry.withKind y kind) y, { e.changeKind (s.fullLife kind) kind with version := e.version + 1 }, ?_, hself, ?_,
      fun v hv => (versioned_entry_ne hb hey hay (by rw [hwith]; rfl) hv).trans (entry?_of_trg htrg v),
      htk.congr Pocket.state, (htk.congr Pocket.contents).trans hc, htk.congr Pocket.verified, htk.congr Pocket.mark, hhli',
      by simp [hcue], by simp [hrds], by simp [hcck], by simp [hstc]⟩
    · rw [exec_readEnds hsole.running hsole.inFlight (.tag kind hval), hd]
      exact congrArg _ (settleReader_stays (.inr (by simp [hrds, hsole.queue])) (by simp [hrds, hsole.sweep]))
    · rw [← changeKind_condition (s.fullLife kind) kind e]
      rfl
  case missing =>
    obtain ⟨htrg, -, hrds, hpru, hcue, -, hslk, hcck, hstc, -⟩ := (afterRead_readBy s r.pocket .noTag).blocks
    have hk := readBy_pocket_self hp .noTag
    have hgx := (giverOf?_of_cue hcue u).trans hg
    have hlogic := ownLogic_recheck hk (.inl ⟨hst, hch⟩) hc .noTag
    by_cases hd : s.departureRoom = true
    · obtain ⟨t, ht, hdep⟩ := exec_departs hown hsole.bounded hsole.range he hpk (adoptionOpen_of_windowOpen hwin)
        (hlogic.trans (toolMissing_room hgx ((departureRoom_readBy s _ _).trans hd)))
      have hyk := (hk.map (f := fun k => { k.toEmpty with mark := none, verified := true })).trans hdep.pocket
      exact ⟨t, ht, fun _ => hdep.entry, fun h => absurd (hd.symm.trans h) (by decide),
        fun v hv => (hdep.others v hv).trans (entry?_of_trg htrg v), hyk.congr Pocket.state, hyk.congr Pocket.contents,
        hyk.congr Pocket.latch, hyk.congr Pocket.verified, hyk.congr Pocket.mark, hdep.rds.trans hrds, hdep.cck.trans hcck,
        hdep.stc.trans hstc⟩
    · have hd' := Bool.eq_false_iff.2 hd
      have hwx : (s.readBy r.pocket .noTag).windowOpen u = false := by
        rw [State.windowOpen, window?_of_cue hcue]
        exact hwin
      obtain ⟨h1, h2, h3, h4, h5, h6, h7, h8, h9⟩ := toolMissing_deletes (readBy_bounded (p := r.pocket) (o := .noTag) hsole.bounded)
        hsole.range ((entry?_of_trg htrg u).trans he) hcus hpk hgx hwx ((departureRoom_readBy s _ _).trans hd')
      exact ⟨_, exec_ownRead hown .noTag hlogic (h7.trans hrds) (by rw [show recheckOutcome r.pocket u .noTag _ = toolMissing r.pocket u _ from rfl, h6, htrg]; exact hsole.checks) (by simp),
        fun h => absurd h hd, fun _ => ⟨h1, h3, fun hm => h4 ((masked_of_stc hstc _).trans hm)⟩,
        fun v hv => (h2 v hv).trans (entry?_of_trg htrg v), h5.congr Pocket.state, h5.congr Pocket.contents, h5.congr Pocket.latch,
        h5.congr Pocket.verified, h5.congr Pocket.mark, h7.trans hrds, h8.trans hcck, h9.trans hstc⟩
  case other =>
    obtain ⟨htrg, hmod, hrds, -, hcue, -⟩ := (afterRead_readBy s r.pocket (.tag v f.kind)).blocks
    have hk := readBy_pocket_self hp (.tag v f.kind)
    have hgx := (giverOf?_of_cue hcue u).trans hg
    have hdep := departed (p := r.pocket) (readBy_bounded (p := r.pocket) (o := .tag v f.kind) hsole.bounded) hsole.range
      ((entry?_of_trg htrg u).trans he) hpk ((State.adoptionOpen_of_cue hcue u).trans (adoptionOpen_of_windowOpen hwin))
    have hlogic := ownLogic_recheck hk (.inl ⟨hst, hch⟩) hc (.tag v f.kind)
    rw [show recheckOutcome r.pocket u (.tag v f.kind) (s.readBy r.pocket (.tag v f.kind)) = insertTag r.pocket .locked v f.kind
      (toolMissing r.pocket u (s.readBy r.pocket (.tag v f.kind))) from if_neg hvu,
      toolMissing_room hgx ((departureRoom_readBy s _ _).trans hd)] at hlogic
    generalize emptyVerified r.pocket (versioned u Entry.goAway (s.readBy r.pocket (.tag v f.kind))) = y at hdep hlogic
    have hycue := hdep.cue.trans hcue
    have hins := insertTag_inserts .locked hdep.bounded hsole.range
      (((hdep.others v hvu).trans (entry?_of_trg htrg v)).trans hf) hfc hfp ((takerFor?_of (hdep.modules.trans hmod) hycue _ _).trans htk)
      ((State.adoptionOpen_of_cue hycue v).trans (adoptionOpen_of_windows_nil hcw v))
    exact ⟨_, exec_ownRead hown (.tag f.kind hvv) hlogic (hins.rds.trans (hdep.rds.trans hrds))
        (by rw [hins.checks, hdep.checks, htrg]; exact hsole.checks) (fun w kind hw hcon => absurd hcon (by cases hw; simp [hc, Ne.symm hvu])),
      (hins.others u (Ne.symm hvu)).trans hdep.entry, hins.entry,
      fun w hwu hwv => ((hins.others w hwv).trans (hdep.others w hwu)).trans (entry?_of_trg htrg w), hins.state, hins.contents, hins.latch,
      hins.verified, hins.cue.trans hycue⟩
  case unread =>
    have hk := readBy_pocket_self hp .readFail
    have hafter := (afterRead_readBy s r.pocket .readFail).modPocket r.pocket (fun k => { k with verified := false })
    have hyk := hk.modPocket (f := fun k => { k with verified := false }) (by simpa using hp)
    exact ⟨_, exec_ownRead_pockets hown (.fail hf) (ownLogic_recheck hk (.inl ⟨hst, hch⟩) hc _) hafter (by simp),
      (hyk.congr Pocket.state).trans hst, (hyk.congr Pocket.check).trans hch, (hyk.congr Pocket.contents).trans hc,
      hyk.congr Pocket.verified, hyk.congr Pocket.readRequested,
      fun q hq => (pocket_modPocket_ne hq _ _).trans (readBy_pocket_ne hq _), hafter⟩
  case kept =>
    have hk := readBy_pocket_self hp (.tag u e.kind)
    have hafter := afterRead_readBy s r.pocket (.tag u e.kind)
    have hlogic : ownLogic r.pocket (.tag u e.kind) (s.readBy r.pocket (.tag u e.kind)) = s.readBy r.pocket (.tag u e.kind) := by
      rw [ownLogic_recheck hk (.inr hst) hc, recheckOutcome]
      simp only [if_true, (hk.congr Pocket.state).trans hst]
    exact ⟨_, exec_ownRead_pockets hown (.tag e.kind hval) hlogic hafter
        (fun v kind hv _ => retag_same ((entry?_of_trg hafter.blocks.1 u).trans he) hv),
      (hk.congr Pocket.state).trans hst, (hk.congr Pocket.verified).trans (by simp [Pocket.readBy]), (hk.congr Pocket.contents).trans hc,
      fun q hq => readBy_pocket_ne hq _, hafter⟩
  case reserved =>
    obtain ⟨htrg, hmod, hrds, hpru, hcue, hhli, hslk, hcck, hstc, -⟩ := (afterRead_readBy s r.pocket .noTag).blocks
    have hk := readBy_pocket_self hp .noTag
    have hbx := readBy_bounded (p := r.pocket) (o := .noTag) hsole.bounded
    have hroom := (departureRoom_readBy s r.pocket .noTag).trans hd
    have hlogic := ownLogic_recheck hk (.inr hst) hc .noTag
    have hlenx : r.pocket < (s.readBy r.pocket .noTag).pkc.pockets.length := by simpa using hp
    obtain ⟨x, hx⟩ : ∃ x, s.readBy r.pocket .noTag = x := ⟨_, rfl⟩
    rw [hx] at htrg hmod hrds hpru hcue hhli hslk hcck hstc hk hbx hroom hlogic hlenx
    have hex := (entry?_of_trg htrg u).trans he
    have hgt : g.tool = u := by simpa using List.find?_some hg
    set w : State := { x with hli := { x.hli with
      urgent := x.hli.urgent ++ [⟨.lapse g.seeker g.seek .withdrawn, .giver g.seeker g.seek⟩] } } with hw
    have hwithdraw : withdrawGiver .elsewhere u x = endOffered g w := by
      simp only [withdrawGiver, (giverOf?_of_cue hcue u).trans hg, hgst, lapseSeeker, sendLapse_eq (by rwa [hhli]) (by rwa [hstc])]
      rfl
    have hend : endOffered g w = closeGiver g (putEntry { e with custody := .stocked } (modPocket r.pocket Pocket.toStocked w)) :=
      endOffered_eq hgp ((hk.congr Pocket.state).trans hst) (by rw [hgt]; exact hex) hcus
    set y := closeGiver g (putEntry { e with custody := .stocked } (modPocket r.pocket Pocket.toStocked w)) with hy
    have hby : y.Bounded := by
      rw [← hend, ← hwithdraw]
      exact withdrawGiver_bounded _ _ hbx
    have hey : y.entry? u = some { e with custody := .stocked } :=
      entry?_putEntry_of_tool (s := x) hbx.register (tool_of_entry? (e := e) he)
    have hyroom : y.departureRoom = true := by
      refine departureRoom_mono (s := x) ?_ ?_ (by simp [hy, hw]) (fun p hp => ?_) hroom
      · exact insertEntry_countP_le (P := fun e => e.custody.outside) (by rfl) _
      · exact List.filter_sublist.countP_le
      · by_cases hpr : p = r.pocket
        · subst hpr
          rw [show y.pocket r.pocket = _ from pocket_modPocket_self (s := w) Pocket.toStocked hlenx] at hp
          simp [Pocket.toStocked] at hp
        · rwa [show y.pocket p = _ from pocket_modPocket_ne hpr Pocket.toStocked w] at hp
    have hmissing : toolMissing r.pocket u x = emptyVerified r.pocket (versioned u Entry.goAway y) := by
      simp only [toolMissing, hwithdraw, hend, forceAway, hyroom, if_true]
    have hay : y.adoptionOpen u = false := adoptionOpen_of_windowOpen (by
      rw [State.windowOpen, show y.window? u = x.window? u from rfl, window?_of_cue hcue]
      exact hwin)
    have hdep := departed hby hsole.range hey hpk hay
    have hyk := (Pocket.Alike.refl ((y.pocket r.pocket).toEmpty)).map (f := fun k => { k with mark := none, verified := true })
    have htk := hyk.trans hdep.pocket
    rw [show recheckOutcome r.pocket u .noTag x = toolMissing r.pocket u x from rfl, hmissing] at hlogic
    refine ⟨_, exec_ownRead hown .noTag ((congrArg _ hx).trans hlogic) (hdep.rds.trans hrds) (by rw [hdep.checks]; exact (congrArg Trg.checks htrg).trans hsole.checks)
        (by simp), hdep.entry, fun v hv => (hdep.others v hv).trans ?_, htk.congr Pocket.state, htk.congr Pocket.contents,
      htk.congr Pocket.latch, htk.congr Pocket.verified, ?_, ?_, ?_, hdep.pru.trans hpru, hdep.rds.trans hrds, hdep.cck.trans hcck,
      hdep.stc.trans hstc⟩
    · exact (entry?_putEntry_ne (s := x) (e := { e with custody := .stocked }) hbx.register
        (by rw [show ({ e with custody := .stocked } : Entry).tool = u from tool_of_entry? (e := e) he]; exact hv)).trans
        (entry?_of_trg htrg v)
    · rw [giver?_of_cue hdep.cue]
      exact giver?_closeGiver g _
    · rw [hdep.cue]
      exact addLapsed_getLast? _ _
    · rw [hdep.urgent]
      show x.hli.urgent ++ _ = _
      rw [hhli]
  case gone =>
    obtain ⟨htrg, hmod, hrds, hpru, hcue, hhli, hslk, hcck, hstc, -⟩ := (afterRead_readBy s r.pocket .noTag).blocks
    have hk := readBy_pocket_self hp .noTag
    have hbx := readBy_bounded (p := r.pocket) (o := .noTag) hsole.bounded
    have hnex : ∀ q, q ≠ r.pocket → (s.readBy r.pocket .noTag).pocket q = s.pocket q := fun q hq => readBy_pocket_ne hq _
    obtain ⟨y, hy, hout, -⟩ := leftBy (g := g) hbx hsole.range ((entry?_of_trg htrg _).trans he) hpk
      ((State.adoptionOpen_of_cue hcue _).trans (adoptionOpen_of_windowOpen hwin)) (by rwa [hstc]) (by rwa [hhli])
      ((hk.congr Pocket.mark).trans hmark) ((hk.congr Pocket.state).trans hst) (hk.congr Pocket.readRequested)
      ((giver?_of_cue hcue _ _).trans hgid)
    have hgat' : (s.readBy r.pocket .noTag).giverAt? r.pocket = some g := by
      rw [State.giverAt?, hcue]
      exact hgat
    have hyk := (hk.map (f := Pocket.toEmpty)).trans hy.pocket
    rw [← hgoneEq] at hy
    refine ⟨y, exec_ownRead hown .noTag ((ownLogic_releasing hk hst hgat' _).trans hout) (hy.rds.trans hrds)
        (by rw [hy.checks, htrg]; exact hsole.checks) (by simp), hy.entry, fun v hv => (hy.others v hv).trans (entry?_of_trg htrg v),
      hyk.congr Pocket.state, hyk.congr Pocket.contents, hyk.congr Pocket.latch, (hyk.congr Pocket.verified).trans (by simp [Pocket.readBy, Pocket.toEmpty]),
      fun q hq => (hy.pockets q hq).trans (hnex q hq), hy.routine.trans (by rw [hhli]), fun hw => ?_, fun hw => ?_,
      hy.takers.trans (by rw [hcue]), hy.rds.trans hrds, hy.pru.trans hpru, hy.slk.trans hslk, hy.cck.trans hcck, hy.stc.trans hstc⟩
    · obtain ⟨h1, h2, h3⟩ := hy.onTheWay hw
      refine ⟨h1.trans ?_, h2.trans (by rw [hhli]), h3.trans (by rw [hcue])⟩
      simp [Giver.onTheWay, hw]
    · obtain ⟨h1, h2, h3⟩ := hy.closed hw
      exact ⟨h1, h2.trans (by rw [hhli]), h3⟩
  case stays =>
    have hgat' : ∀ o, (s.readBy r.pocket o).giverAt? r.pocket = some g := fun o => by
      rw [State.giverAt?, (afterRead_readBy s r.pocket o).blocks.2.2.2.2.1]
      exact hgat
    rcases ha with rfl | ⟨rfl, hf⟩
    · have hk := readBy_pocket_self hp (.tag g.tool e.kind)
      have hafter := afterRead_readBy s r.pocket (.tag g.tool e.kind)
      have hlogic := ownLogic_releasing hk hst (hgat' _) (.tag g.tool e.kind)
      rw [releasingOutcome] at hlogic
      simp only [hw, hx, if_true, Bool.false_eq_true, if_false] at hlogic
      exact ⟨_, exec_ownRead_pockets hown (.tag e.kind hval) hlogic hafter
          (fun v kind hv _ => retag_same ((entry?_of_trg hafter.blocks.1 _).trans he) hv),
        (hk.congr Pocket.state).trans hst, hk.congr Pocket.latch, (hk.congr Pocket.contents).trans hc, hk.congr Pocket.readRequested,
        (hk.congr Pocket.verified).trans (by simp [Pocket.readBy]), fun q hq => readBy_pocket_ne hq _, hafter⟩
    · have hk := readBy_pocket_self hp .readFail
      have hafter := (afterRead_readBy s r.pocket .readFail).modPocket r.pocket (fun k => { k with verified := false })
      have hyk := hk.modPocket (f := fun k => { k with verified := false }) (by simpa using hp)
      have hlogic := ownLogic_releasing hk hst (hgat' _) .readFail
      rw [releasingOutcome] at hlogic
      simp only [hw, hx, Bool.false_eq_true, if_false] at hlogic
      exact ⟨_, exec_ownRead_pockets hown (.fail hf) hlogic hafter (by simp),
        (hyk.congr Pocket.state).trans hst, hyk.congr Pocket.latch, (hyk.congr Pocket.contents).trans hc, hyk.congr Pocket.readRequested,
        (hyk.congr Pocket.verified).trans (by simp), fun q hq => (pocket_modPocket_ne hq _ _).trans (readBy_pocket_ne hq _), hafter⟩
  case back =>
    have hgat' : ∀ o, (s.readBy r.pocket o).giverAt? r.pocket = some g := fun o => by
      rw [State.giverAt?, (afterRead_readBy s r.pocket o).blocks.2.2.2.2.1]
      exact hgat
    have hback : ∀ o, releasingOutcome g r.pocket (.tag g.tool e.kind) (s.readBy r.pocket o) = (s.readBy r.pocket o).backAt g r.pocket e ∧
        releasingOutcome g r.pocket .readFail (s.readBy r.pocket o) = unverify r.pocket ((s.readBy r.pocket o).backAt g r.pocket e) := fun o => by
      obtain ⟨htrg, -, -, -, -, hhli, -, -, hstc, -⟩ := (afterRead_readBy s r.pocket o).blocks
      exact releasingOutcome_back hwx (((readBy_pocket_self hp o).congr Pocket.state).trans hst) ((entry?_of_trg htrg _).trans he) hcus
        (by rwa [hhli]) (by rwa [hstc]) e.kind
    have hpockets : ∀ o q, q ≠ r.pocket → ((s.readBy r.pocket o).backAt g r.pocket e).pocket q = s.pocket q := fun o q hq =>
      (pocket_modPocket_ne hq _ _).trans (readBy_pocket_ne hq _)
    rcases ha with rfl | ⟨rfl, hf⟩
    · have hk := readBy_pocket_self hp (.tag g.tool e.kind)
      have hafter := afterRead_readBy s r.pocket (.tag g.tool e.kind)
      obtain ⟨h1, h2, h3, h4, h5, h6, h7, h8⟩ := backAt_spec (p := r.pocket) hafter hsole.bounded he
      obtain ⟨-, -, -, hpru, -, -, hslk, hcck, hstc, -⟩ := hafter.blocks
      have hyk := hk.modPocket (f := Pocket.toStocked) (by simpa using hp)
      exact ⟨_, exec_ownRead hown (.tag e.kind hval) ((ownLogic_releasing hk hst (hgat' _) _).trans (hback _).1) h7 (h8.trans hsole.checks)
          (fun v kind hv _ => retag_same (e := { e with custody := .stocked }) h1 hv), hyk.congr Pocket.state, hyk.congr Pocket.latch,
        (hyk.congr Pocket.contents).trans hc, (hyk.congr Pocket.verified).trans (by simp [Pocket.readBy, Pocket.toStocked]),
        hpockets _, h1, h2, h3, h4, h5, h6, h7, hpru, hslk, hcck, hstc⟩
    · have hk := readBy_pocket_self hp .readFail
      have hafter := afterRead_readBy s r.pocket .readFail
      obtain ⟨h1, h2, h3, h4, h5, h6, h7, h8⟩ := backAt_spec (p := r.pocket) hafter hsole.bounded he
      obtain ⟨-, -, -, hpru, -, -, hslk, hcck, hstc, -⟩ := hafter.blocks
      have hyk := (hk.modPocket (f := Pocket.toStocked) (by simpa using hp)).modPocket (f := fun k => { k with verified := false })
        (by simpa using hp)
      exact ⟨_, exec_ownRead hown (.fail hf) ((ownLogic_releasing hk hst (hgat' _) _).trans (hback _).2) h7 (h8.trans hsole.checks)
          (by simp), hyk.congr Pocket.state, hyk.congr Pocket.latch, (hyk.congr Pocket.contents).trans hc,
        (hyk.congr Pocket.verified).trans (by simp), fun q hq => (pocket_modPocket_ne hq _ _).trans (hpockets _ q hq),
        h1, h2, h3, h4, h5, h6, h7, hpru, hslk, hcck, hstc⟩
  case replaced =>
    obtain ⟨htrg, hmod, hrds, hpru, hcue, hhli, hslk, hcck, hstc, -⟩ := (afterRead_readBy s r.pocket (.tag v f.kind)).blocks
    have hk := readBy_pocket_self hp (.tag v f.kind)
    have hbx := readBy_bounded (p := r.pocket) (o := .tag v f.kind) hsole.bounded
    obtain ⟨y, hy, -, hout⟩ := leftBy (g := g) hbx hsole.range ((entry?_of_trg htrg _).trans he) hpk
      ((State.adoptionOpen_of_cue hcue _).trans (adoptionOpen_of_windowOpen hwin)) (by rwa [hstc]) (by rwa [hhli])
      ((hk.congr Pocket.mark).trans hmark) ((hk.congr Pocket.state).trans hst) (hk.congr Pocket.readRequested)
      ((giver?_of_cue hcue _ _).trans hgid)
    have hgat' : (s.readBy r.pocket (.tag v f.kind)).giverAt? r.pocket = some g := by
      rw [State.giverAt?, hcue]
      exact hgat
    have hlogic := (ownLogic_releasing hk hst hgat' _).trans (hout v f.kind hvu)
    have hins := insertTag_inserts .locked hy.bounded hsole.range
      (((hy.others v hvu).trans (entry?_of_trg htrg v)).trans hf) hfc hfp
      ((takerFor?_of_takers (hy.modules.trans hmod) (hy.takers.trans (by rw [hcue])) _ _).trans htk)
      (adoptionOpen_of_windows_nil (hy.windows.trans (by rw [hcue]; exact hcw)) v)
    rw [← hgoneEq] at hy
    exact ⟨_, exec_ownRead hown (.tag f.kind hvv) hlogic (hins.rds.trans (hy.rds.trans hrds))
        (by rw [hins.checks, hy.checks, htrg]; exact hsole.checks) (fun w kind hw hcon => absurd hcon (by cases hw; simp [hc, Ne.symm hvu])),
      (hins.others _ (Ne.symm hvu)).trans hy.entry, hins.entry,
      fun w hwu hwv => ((hins.others w hwv).trans (hy.others w hwu)).trans (entry?_of_trg htrg w), hins.state, hins.contents, hins.latch,
      hins.verified⟩

end Sys2Proof.Machine

/-! PROOFS. The Inventory Sweep: its commands, its run over ABSENT pockets, and the read of the cursor pocket (O30). -/

namespace Sys2Proof.Machine

open Sys2Proof

variable {s t : State} {p q : PocketNo} {u : ToolId} {r : Read} {a : AttemptResult} {o : Outcome}

/-! ### The commands (R59, R64) -/

theorem exec_sweep (hs : s.takesCommands) : exec .sweep s = .next (respond 0x1A (sweepCommand s)) :=
  congrArg Host.Outcome.next (command_of_takesCommands hs _ _)

theorem exec_sweep_starts (hs : s.takesCommands) (hw : s.rds.sweep = .idle) :
    exec .sweep s = .next (State.replied (settleReader (startSweep s)) 0x1A .ok .none) := by
  rw [exec_sweep hs, sweepCommand, if_pos hw, respond_plain]

/-! ### The sweep over ABSENT pockets (R60, R64) -/

/-- R60: the sweep before it visits pocket i, the pockets below recorded ABSENT. -/
def State.sweepAt (s : State) (i : Nat) : State :=
  { s with rds := { s.rds with sweep := .active, cursor := i, awaiting := false,
                               table := (List.range 48).map (fun j => if j < i then .absent else .none) } }

/-- R64: the sweep past pocket 47, every pocket recorded ABSENT. -/
def State.sweptAbsent (s : State) : State :=
  pushNotice ⟨.sweepDone, none, none, none, none, [0, 0, 0, 0, 0, 0, 48]⟩
    { s with rds := { s.rds with sweep := .idle, cursor := 0, awaiting := false, table := List.replicate 48 .absent } }

theorem sweepAt_table_set (i : Nat) :
    ((List.range 48).map (fun j => if j < i then SweepStatus.absent else .none)).set i .absent =
      (List.range 48).map (fun j => if j < i + 1 then SweepStatus.absent else .none) := by
  refine List.ext_getElem (by simp) fun j hj _ => ?_
  rw [List.getElem_set]
  by_cases hij : i = j
  · simp [hij]
  · have : j < i ↔ j < i + 1 := by omega
    simp [hij, this]

theorem visit_absent {i : Nat} (hi : i < 48) (h : ∀ p, s.present p = false) : visit (s.sweepAt i) =
    if i < 47 then s.sweepAt (i + 1) else s.sweptAbsent := by
  have hp : (s.sweepAt i).present i = false := h i
  have hv : visit (s.sweepAt i) = advanceSweep (recordStatus .absent (s.sweepAt i)) := by
    simp only [visit, show (s.sweepAt i).rds.cursor = i from rfl, hp, Bool.not_false, if_true]
  have hrec : recordStatus .absent (s.sweepAt i) = { s with rds := { s.rds with
      sweep := .active, cursor := i, awaiting := false,
      table := (List.range 48).map (fun j => if j < i + 1 then SweepStatus.absent else .none) } } := by
    rw [← sweepAt_table_set i]
    rfl
  rw [hv, hrec]
  by_cases h47 : i < 47
  · rw [if_pos h47]
    exact if_pos h47
  · obtain rfl : i = 47 := by omega
    rw [if_neg h47]
    exact if_neg h47

theorem readerStep_sweepAt {i : Nat} (hs : s.running = true) (hq : s.rds.queue = []) : readerStep (s.sweepAt i) = some (visit (s.sweepAt i)) := by
  have hrun : (s.sweepAt i).running = true := hs
  have hqueue : (s.sweepAt i).rds.queue = [] := hq
  unfold readerStep
  rw [hrun, hqueue]
  cases (s.sweepAt i).rds.inFlight <;> simp [State.sweepAt]

theorem readerRun_absent (hs : s.running = true) (hq : s.rds.queue = []) (h : ∀ p, s.present p = false) (n k : Nat) (hk : k ≤ 47) :
    readerRun (n + 1 + k) (s.sweepAt (47 - k)) = readerRun n s.sweptAbsent := by
  induction k with
  | zero =>
    rw [Nat.add_zero, readerRun, readerStep_sweepAt hs hq, visit_absent (by omega) h, if_neg (by omega)]
  | succ k ih =>
    rw [show n + 1 + (k + 1) = (n + 1 + k) + 1 by omega, readerRun, readerStep_sweepAt hs hq, visit_absent (by omega) h, if_pos (by omega),
      show 47 - (k + 1) + 1 = 47 - k by omega]
    exact ih (by omega)

theorem settleReader_absent (hs : s.running = true) (hq : s.rds.queue = []) (h : ∀ p, s.present p = false) :
    settleReader (s.sweepAt 0) = s.sweptAbsent := by
  have hrun := readerRun_absent hs hq h 208 47 (by omega)
  have hrds : s.sweptAbsent.rds = { s.rds with sweep := .idle, cursor := 0, awaiting := false, table := List.replicate 48 .absent } := by
    simp [State.sweptAbsent]
  refine hrun.trans (readerRun_of_none (readerStep_none (.inr ?_) ?_) 208)
  · rw [hrds]; exact hq
  · rw [hrds]; simp

/-! ### The outcome of the read of the cursor pocket (R61 to R64) -/

/-- R52: the state in which the sweep takes the outcome of the read of a pocket that asked for none. -/
def State.seenBy (s : State) (p : PocketNo) (o : Outcome) : State :=
  if (s.pocket p).passedOver || decide (o = .readFail) then s.freed
  else modPocket p (fun k => { k with verified := true }) s.freed

theorem afterRead_seenBy (s : State) (p : PocketNo) (o : Outcome) : s.AfterRead (s.seenBy p o) := by
  unfold State.seenBy
  split
  · exact .freed s
  · exact (State.AfterRead.freed s).modPocket _ _

theorem seenBy_pocket_self (hp : p < s.pkc.pockets.length) (o : Outcome) :
    ({ s.pocket p with verified := (s.pocket p).verified || !((s.pocket p).passedOver || decide (o = .readFail)) } : Pocket).Alike
      ((s.seenBy p o).pocket p) := by
  have hpk : s.freed.pocket p = s.pocket p := rfl
  unfold State.seenBy
  split
  · next h =>
    refine .of_eq ?_
    rw [h, Bool.not_true, Bool.or_false]
    rfl
  · next h =>
    refine Pocket.Alike.trans (.of_eq ?_) (modPocket_alike (s := s.freed) hp)
    simp [hpk, Bool.eq_false_iff.2 h]

theorem seenBy_pocket_ne (h : q ≠ p) (o : Outcome) : (s.seenBy p o).pocket q = s.pocket q := by
  unfold State.seenBy
  split
  · rfl
  · exact pocket_modPocket_ne h _ _

theorem seenBy_bounded (h : s.Bounded) : (s.seenBy p o).Bounded := by
  have hf : s.freed.Bounded := { h with }
  unfold State.seenBy
  split
  · exact hf
  · exact modPocket_bounded _ _ hf

/-- The read of the cursor pocket of a SUSPENDED sweep, with which no other read, presence check or request has to do. -/
structure State.SweepRead (s : State) (r : Read) : Prop where
  running : s.running = true
  inFlight : s.rds.inFlight = some r
  queue : s.rds.queue = []
  sweep : s.rds.sweep = .suspended
  awaiting : s.rds.awaiting = true
  cursor : s.rds.cursor = r.pocket
  range : r.pocket < 48
  checks : s.trg.checks = []
  unasked : (s.pocket r.pocket).readRequested = false

theorem deliver_swept {y : State} (h : s.SweepRead r) (hy : sweepOutcome r.pocket false o (s.seenBy r.pocket o) = y) (hc : y.trg.checks = [])
    (hk : ∀ u kind, o = .tag u kind → (s.pocket r.pocket).contents = some u → retag u kind y = y) : deliver r.pocket o s.freed = y := by
  have hpk : s.freed.pocket r.pocket = s.pocket r.pocket := rfl
  have hkeep : (s.pocket r.pocket).keepsFlag = (s.pocket r.pocket).passedOver := by simp [Pocket.keepsFlag, h.unasked]
  obtain ⟨-, -, hrds, -⟩ := (afterRead_seenBy s r.pocket o).blocks
  have haw : ((s.seenBy r.pocket o).rds.awaiting && decide ((s.seenBy r.pocket o).rds.cursor = r.pocket)) = true := by
    simp [hrds, h.awaiting, h.cursor]
  unfold deliver
  simp only [hpk, hkeep, h.unasked, Bool.false_eq_true, if_false, Bool.false_and]
  rw [show (if (s.pocket r.pocket).passedOver || decide (o = .readFail) then s.freed
    else modPocket r.pocket (fun k => { k with verified := true }) s.freed) = s.seenBy r.pocket o from rfl, haw, if_pos rfl, hy]
  simp only [hc, List.filter_nil, List.foldl_nil]
  cases o with
  | tag u kind =>
    by_cases hu : (s.pocket r.pocket).contents = some u
    · simp [hu, hk u kind rfl hu]
    · simp [hu]
  | noTag => rfl
  | readFail => rfl

/-- R64: the notice of the end of a sweep. -/
def sweepDone (table : List SweepStatus) : Notice := ⟨.sweepDone, none, none, none, none, sweepCounts table⟩

theorem advanceSweep_rds (hw : s.rds.sweep = .suspended) : (advanceSweep s).rds =
    { s.rds with sweep := if s.rds.cursor < 47 then .suspended else .idle, cursor := if s.rds.cursor < 47 then s.rds.cursor + 1 else 0 } := by
  unfold advanceSweep
  by_cases h : s.rds.cursor < 47
  · simp only [if_pos h, ← hw]
  · simp only [if_neg h, (pushNotice_frame _ _).2.2.1]

theorem advanceSweep_slk (s : State) : (s.rds.cursor < 47 → (advanceSweep s).slk = s.slk) ∧
    (¬s.rds.cursor < 47 → s.masked .sweepDone = false → s.slk.notices.length < 16 →
      (advanceSweep s).slk.notices = s.slk.notices ++ [sweepDone s.rds.table]) := by
  refine ⟨fun h => by rw [advanceSweep, if_pos h], fun h hm hl => ?_⟩
  rw [advanceSweep, if_neg h]
  exact pushNotice_notices hm hl

/-- R61, R64: the read of the cursor pocket ends; state y is the one in which its status stands recorded. -/
theorem exec_swept {x : SweepStatus} {y : State} (h : s.SweepRead r) (he : r.Ends a o)
    (hout : sweepOutcome r.pocket false o (s.seenBy r.pocket o) = advanceSweep y)
    (hrds : y.rds = { s.rds with inFlight := none, awaiting := false, table := s.rds.table.set r.pocket x }) (hc : y.trg.checks = [])
    (hk : ∀ u kind, o = .tag u kind → (s.pocket r.pocket).contents = some u → retag u kind (advanceSweep y) = advanceSweep y) :
    exec (.readAttemptEnd a) s = .next (advanceSweep y) ∧ (advanceSweep y).rds = s.rds.swept r.pocket x := by
  have hcur : y.rds.cursor = r.pocket := by rw [hrds]; exact h.cursor
  have hswept : (advanceSweep y).rds = s.rds.swept r.pocket x := by
    rw [advanceSweep_rds (by rw [hrds]; exact h.sweep), hcur, hrds]
    rfl
  refine ⟨?_, hswept⟩
  rw [exec_readEnds h.running h.inFlight he, deliver_swept h hout (by simpa using hc) hk]
  refine congrArg _ (settleReader_stays (.inr ?_) ?_)
  · rw [hswept]; exact h.queue
  · rw [hswept]
    simp only [Rds.swept]
    split <;> simp

theorem recordStatus_rds {x : SweepStatus} (h : t.rds = { s.rds with inFlight := none }) (hc : s.rds.cursor = p) :
    (recordStatus x t).rds = { s.rds with inFlight := none, awaiting := false, table := s.rds.table.set p x } := by
  subst hc
  rw [recordStatus, h]

theorem seenBy_length (s : State) (p : PocketNo) (o : Outcome) : (s.seenBy p o).pkc.pockets.length = s.pkc.pockets.length := by
  unfold State.seenBy
  split <;> simp [State.freed]

/-- The pocket and the blocks that a status leaves as the read found them. -/
structure State.StatusAt (s t : State) (p : PocketNo) (o : Outcome) (x : SweepStatus) : Prop where
  pocket : ({ s.pocket p with verified := (s.pocket p).verified || !((s.pocket p).passedOver || decide (o = .readFail)) } : Pocket).Alike
    (t.pocket p)
  pockets : ∀ q, q ≠ p → t.pocket q = s.pocket q
  rds : t.rds = { s.rds with inFlight := none, awaiting := false, table := s.rds.table.set p x }
  trg : t.trg = s.trg
  modules : t.pkc.modules = s.pkc.modules
  pru : t.pru = s.pru
  cue : t.cue = s.cue
  hli : t.hli = s.hli
  slk : t.slk = s.slk
  cck : t.cck = s.cck
  stc : t.stc = s.stc
  room : t.departureRoom = s.departureRoom

theorem statusAt (hl : s.pkc.pockets.length = 48) (hp : p < 48) (hc : s.rds.cursor = p) (o : Outcome) (x : SweepStatus) :
    s.StatusAt (recordStatus x (s.seenBy p o)) p o x := by
  obtain ⟨htrg, hmod, hrds, hpru, hcue, hhli, hslk, hcck, hstc, -⟩ := (afterRead_seenBy s p o).blocks
  have hlen : p < s.pkc.pockets.length := hl ▸ hp
  exact
    { pocket := seenBy_pocket_self hlen o
      pockets := fun q hq => seenBy_pocket_ne hq o
      rds := recordStatus_rds hrds hc
      trg := htrg
      modules := hmod
      pru := hpru
      cue := hcue
      hli := hhli
      slk := hslk
      cck := hcck
      stc := hstc
      room := departureRoom_of_openRelease htrg hcue (seenBy_length s p o) fun q => by
        by_cases hq : q = p
        · subst hq
          exact (seenBy_pocket_self hlen o).congr Pocket.openRelease
        · exact congrArg Pocket.openRelease (seenBy_pocket_ne hq o) }

/-- R61: a status that nothing but the verified flag of the pocket goes with. -/
theorem exec_swept_record {x : SweepStatus} (h : s.SweepRead r) (hl : s.pkc.pockets.length = 48) (he : r.Ends a o)
    (hout : sweepOutcome r.pocket false o (s.seenBy r.pocket o) = advanceSweep (recordStatus x (s.seenBy r.pocket o)))
    (hk : ∀ u kind, o = .tag u kind → ∃ e, s.entry? u = some e ∧ e.kind = kind) :
    ∃ y : State, s.StatusAt y r.pocket o x ∧ exec (.readAttemptEnd a) s = .next (advanceSweep y) ∧
      (advanceSweep y).rds = s.rds.swept r.pocket x := by
  have hst := statusAt hl h.range h.cursor o x
  refine ⟨_, hst, exec_swept h he hout hst.rds (by rw [hst.trg, h.checks]) fun u kind ho _ => ?_⟩
  obtain ⟨e, hen, rfl⟩ := hk u kind ho
  exact retag_kept ((entry?_of_trg ((advanceSweep_frame _).1.trans hst.trg) u).trans hen)

theorem startSweep_vacant (hpk : s.pkc.pockets = List.replicate 48 Pocket.vacant) : (∀ p, s.present p = false) ∧ startSweep s = s.sweepAt 0 := by
  have hpocket : ∀ p, s.pocket p = Pocket.vacant := fun p => by
    rw [State.pocket, hpk, List.getD_eq_getElem?_getD, List.getElem?_replicate]
    split <;> rfl
  have habs : ∀ p, s.present p = false := fun p => by simp [State.present, hpocket, Pocket.vacant]
  refine ⟨habs, ?_⟩
  have hq : s.quiet = true := quiet_iff.2 fun p _ hp => absurd hp (by simp [habs])
  have htab : (List.range 48).map (fun j => if j < 0 then SweepStatus.absent else .none) = List.replicate 48 .none := by decide
  rw [startSweep, hq, if_pos rfl, State.sweepAt, htab]

/-- The pocket that asked for no read, and is no CHECKING one, as the sweep meets it. -/
theorem seenBy_pocket_seen (hl : s.pkc.pockets.length = 48) (hp : p < 48) (o : Outcome) :
    ((s.seenBy p o).pocket p).state = (s.pocket p).state ∧ ((s.seenBy p o).pocket p).contents = (s.pocket p).contents ∧
      ((s.seenBy p o).pocket p).openRelease = (s.pocket p).openRelease :=
  have h := seenBy_pocket_self (s := s) (hl ▸ hp) o
  ⟨h.congr Pocket.state, h.congr Pocket.contents, h.congr Pocket.openRelease⟩

/-- R61: a status goes with nothing but the verified flag of the pocket. -/
theorem State.StatusAt.recorded {x : SweepStatus} {y : State} {k : Pocket} (h : s.StatusAt y p o x) (hk : s.pocket p = k) (hc : s.rds.cursor = p) :
    { (advanceSweep y).pocket p with verified := k.verified, indicator := k.indicator } = k ∧
      ((advanceSweep y).pocket p).verified = (k.verified || !(k.passedOver || decide (o = .readFail))) ∧
      (∀ q, q ≠ p → (advanceSweep y).pocket q = s.pocket q) ∧ (p < 47 → (advanceSweep y).slk = s.slk) ∧
      (p = 47 → s.masked .sweepDone = false → s.slk.notices.length < 16 →
        (advanceSweep y).slk.notices = s.slk.notices ++ [⟨.sweepDone, none, none, none, none, sweepCounts (s.rds.table.set 47 x)⟩]) ∧
      (advanceSweep y).trg = s.trg ∧ (advanceSweep y).pru = s.pru ∧ (advanceSweep y).cue = s.cue ∧ (advanceSweep y).hli = s.hli ∧
      (advanceSweep y).cck = s.cck ∧ (advanceSweep y).stc = s.stc := by
  have hpk : ∀ q, (advanceSweep y).pocket q = y.pocket q := fun q => State.pocket_of_pkc (by simp) q
  have hcur : y.rds.cursor = p := by rw [h.rds]; exact hc
  obtain ⟨i, hi⟩ := h.pocket
  refine ⟨?_, ?_, fun q hq => (hpk q).trans (h.pockets q hq), fun hlt => ?_, fun he hm hn => ?_, by simp [h.trg], by simp [h.pru],
    by simp [h.cue], by simp [h.hli], by simp [h.cck], by simp [h.stc]⟩
  · rw [hpk, hi, hk]
  · rw [hpk, hi, hk]
  · rw [(advanceSweep_slk y).1 (hcur ▸ hlt), h.slk]
  · rw [(advanceSweep_slk y).2 (by rw [hcur, he]; exact Nat.lt_irrefl 47) ((masked_of_stc h.stc _).trans hm) (by rw [h.slk]; exact hn), h.slk, h.rds, ← he]
    rfl

/-- R61, R54: a tool stocked at the cursor pocket, as the sweep goes on; the rest is what the state x before its arrival had. -/
theorem advanceSweep_inserted {x y : State} {f : Entry} (h : x.Inserted y p u f) (hpk : ∀ q, q ≠ p → x.pocket q = s.pocket q) (hpru : x.pru = s.pru)
    (hcue : x.cue = s.cue) (hcck : x.cck = s.cck) (hstc : x.stc = s.stc) :
    (advanceSweep y).entry? u = some (f.returned p) ∧ (∀ w, w ≠ u → (advanceSweep y).entry? w = x.entry? w) ∧
      ((advanceSweep y).pocket p).state = .stocked ∧ ((advanceSweep y).pocket p).contents = some u ∧
      ((advanceSweep y).pocket p).latch = .locked ∧ ((advanceSweep y).pocket p).verified = true ∧
      (advanceSweep y).pru = { s.pru with queue := f.condition.reported u s.pru.queue } ∧
      (∀ q, q ≠ p → { (advanceSweep y).pocket q with indicator := (s.pocket q).indicator } = s.pocket q) ∧
      (advanceSweep y).cue = s.cue ∧ (advanceSweep y).cck = s.cck ∧ (advanceSweep y).stc = s.stc := by
  have hk : ∀ q, (advanceSweep y).pocket q = y.pocket q := fun q => State.pocket_of_pkc (by simp) q
  have hent : ∀ w, (advanceSweep y).entry? w = y.entry? w := entry?_of_trg (advanceSweep_frame y).1
  refine ⟨(hent u).trans h.entry, fun w hw => (hent w).trans (h.others w hw), by rw [hk, h.state], by rw [hk, h.contents],
    by rw [hk, h.latch], by rw [hk, h.verified], ?_, fun q hq => ?_, ?_, ?_, ?_⟩
  · rw [(advanceSweep_frame y).2.2.1, h.pru, hpru]
  · rw [hk, ← hpk q hq]
    exact (h.pockets q hq).with_indicator
  · simp [h.cue, hcue]
  · simp [h.cck, hcck]
  · simp [h.stc, hstc]

/-- Settles O30: SWEEP by the sweep state and the pockets, and the end of the read of the cursor pocket by its status. -/
theorem sweepRuns : Obligations.SweepRuns := by
  refine ⟨fun s hs => ⟨fun hw => ?busy, fun hw hq hf => ?suspended, fun hw hf hq hpk => ?absent, fun hq he hnq hrq hst => ?visits, ?stat⟩,
    fun r k s hrun hin hq hw haw hcur hr hchk hl hk hrq => ⟨fun a x flag hcase => ?status, fun v f hb hv he hc hpk htk hwin => ?tagged,
      fun u e hb hst ho hcon he hc hpk hg hd hwin => ?missing⟩⟩
  case busy =>
    rw [exec_sweep hs, sweepCommand, if_neg hw, respond_plain]
  case suspended =>
    rw [exec_sweep_starts hs hw, settleReader_stays (s := startSweep s) (.inl hf) (fun h => absurd h (by simp [startSweep, hq])), startSweep, hq]
    rfl
  case absent =>
    obtain ⟨habs, hstart⟩ := startSweep_vacant hpk
    rw [exec_sweep_starts hs hw, hstart, settleReader_absent hs.1 hq habs]
    rfl
  case visits => rw [exec_sweep_starts hs he.2, startSweep_visits hs.1 hq he hnq hrq hst]
  case stat => exact congrArg Host.Outcome.next (command_of_takesCommands hs _ _)
  all_goals
    have hsw : s.SweepRead r := ⟨hrun, hin, hq, hw, haw, hcur, hr, hchk, by rw [hk]; exact hrq⟩
    have hseen := fun o => seenBy_pocket_seen (s := s) hl hr o
    rw [hk] at hseen
  case status =>
    obtain ⟨o, hends, hflag, hout, htag⟩ : ∃ o, r.Ends a o ∧ flag = (k.verified || !(k.passedOver || decide (o = .readFail))) ∧
        sweepOutcome r.pocket false o (s.seenBy r.pocket o) = advanceSweep (recordStatus x (s.seenBy r.pocket o)) ∧
        ∀ u kind, o = .tag u kind → ∃ e, s.entry? u = some e ∧ e.kind = kind := by
      rcases hcase with ⟨rfl, hst, rfl, rfl⟩ | ⟨u, e, rfl, hu, hcon, hen, hst, rfl, rfl⟩ | ⟨rfl, hf, hst, rfl, rfl⟩ | ⟨rfl, hst, rfl, rfl⟩
      · refine ⟨.noTag, .noTag, by simp [Pocket.passedOver, hst], ?_, nofun⟩
        simp [sweepOutcome, hseen, Pocket.passedOver, hst]
      · refine ⟨.tag u e.kind, .tag _ hu, ?_, ?_, fun v kind h => by cases h; exact ⟨e, hen, rfl⟩⟩
        · rcases hst with ⟨hst, ho⟩ | hst <;> simp [Pocket.passedOver, *]
        · rcases hst with ⟨hst, ho⟩ | hst <;> simp [sweepOutcome, Pocket.passedOver, *]
      · refine ⟨.readFail, .fail hf, by simp, ?_, nofun⟩
        rcases hst with hst | ⟨hst, ho⟩ | hst <;> simp [sweepOutcome, Pocket.passedOver, *]
      · have hpass : k.passedOver = true := by rcases hst with h | h | h | h | ⟨h, ho⟩ <;> simp [Pocket.passedOver, *]
        have hpass' : ((s.seenBy r.pocket .noTag).pocket r.pocket).passedOver = true := by
          rw [← hpass]
          simp only [Pocket.passedOver, hseen]
        exact ⟨.noTag, .noTag, by simp [hpass], by simp [sweepOutcome, hpass'], nofun⟩
    obtain ⟨y, hy, hexec, hrds⟩ := exec_swept_record hsw hl hends hout htag
    obtain ⟨hself, hver, hrest⟩ := State.StatusAt.recorded hy hk hcur
    exact ⟨_, hexec, hrds, hself, hver.trans hflag.symm, hrest⟩
  case tagged =>
    have hends : r.Ends (.tag v f.kind) (.tag v f.kind) := .tag _ hv
    have hswept : ∀ {x : SweepStatus} {y z : State}, s.StatusAt z r.pocket (.tag v f.kind) x → y.rds = z.rds → y.trg.checks = s.trg.checks →
        y.entry? v = some (f.returned r.pocket) →
        sweepOutcome r.pocket false (.tag v f.kind) (s.seenBy r.pocket (.tag v f.kind)) = advanceSweep y →
        exec (.readAttemptEnd (.tag v f.kind)) s = .next (advanceSweep y) ∧ (advanceSweep y).rds = s.rds.swept r.pocket x :=
      fun {x y z} hz hrds hcks hy hout => exec_swept hsw hends hout (hrds.trans hz.rds) (hcks.trans hchk) fun u kind ho _ => by
        cases ho
        exact retag_kept (e := f.returned r.pocket) ((entry?_of_trg (advanceSweep_frame y).1 v).trans hy)
    refine ⟨fun hst => ?_, fun u e hst ho hcon hne hen hcu hpu hg hd => ?_⟩
    · set x := recordStatus .unexpected (s.seenBy r.pocket (.tag v f.kind)) with hx
      have hsx := statusAt hl hr hcur (.tag v f.kind) .unexpected
      rw [← hx] at hsx
      have hin := insertTag_inserts .locked (recordStatus_bounded _ (seenBy_bounded hb)) hr ((entry?_of_trg hsx.trg v).trans he) hc hpk
        ((takerFor?_of_takers hsx.modules (congrArg _ hsx.cue) _ _).trans htk) (adoptionOpen_of_windows_nil (by rw [hsx.cue, hwin]) v)
      have hout : sweepOutcome r.pocket false (.tag v f.kind) (s.seenBy r.pocket (.tag v f.kind)) =
          advanceSweep (insertTag r.pocket .locked v f.kind x) := by
        simp [sweepOutcome, hseen, Pocket.passedOver, hst, hx]
      obtain ⟨hexec, hrds⟩ := hswept hsx hin.rds (hin.checks.trans (by rw [hsx.trg])) hin.entry hout
      obtain ⟨hself, hothers, hstate, hcont, hlatch, hver, hpru, hrest⟩ :=
        advanceSweep_inserted hin hsx.pockets hsx.pru hsx.cue hsx.cck hsx.stc
      refine ⟨_, hexec, hrds, hself, fun w hw => (hothers w hw).trans (entry?_of_trg hsx.trg w), hstate, hcont, hlatch, hver, ?_, hrest⟩
      rw [hpru]
      simp only [Condition.reported, Condition.queued_iff]
    · set x := recordStatus .mismatch (s.seenBy r.pocket (.tag v f.kind)) with hx
      have hsx := statusAt hl hr hcur (.tag v f.kind) .mismatch
      rw [← hx] at hsx
      have hex : ∀ w, x.entry? w = s.entry? w := entry?_of_trg hsx.trg
      have hwx : x.cue.windows = [] := by rw [hsx.cue, hwin]
      have hdep := departed (recordStatus_bounded .mismatch (seenBy_bounded hb)) hr ((hex u).trans hen) hpu (adoptionOpen_of_windows_nil hwx u)
      have hmiss : toolMissing r.pocket u x = emptyVerified r.pocket (versioned u Entry.goAway x) :=
        toolMissing_room ((giverOf?_of_cue hsx.cue u).trans hg) (hsx.room.trans hd)
      rw [← hx, ← hmiss] at hdep
      set z := toolMissing r.pocket u x with hz
      have hin := insertTag_inserts .locked hdep.bounded hr (((hdep.others v hne.symm).trans (hex v)).trans he) hc hpk
        ((takerFor?_of_takers (hdep.modules.trans hsx.modules) (congrArg _ (hdep.cue.trans hsx.cue)) _ _).trans htk)
        (adoptionOpen_of_windows_nil (by rw [hdep.cue, hwx]) v)
      have hout : sweepOutcome r.pocket false (.tag v f.kind) (s.seenBy r.pocket (.tag v f.kind)) =
          advanceSweep (insertTag r.pocket .locked v f.kind z) := by
        simp [sweepOutcome, hseen, Pocket.passedOver, hst, ho, hcon, hne.symm, hz, hx]
      obtain ⟨hexec, hrds⟩ := hswept hsx (hin.rds.trans hdep.rds) (hin.checks.trans (hdep.checks.trans (by rw [hsx.trg]))) hin.entry hout
      obtain ⟨hself, hothers, hstate, hcont, -, hver, hpru, hrest⟩ :=
        advanceSweep_inserted hin (fun q hq => (hdep.pockets q hq).trans (hsx.pockets q hq)) (hdep.pru.trans hsx.pru) (hdep.cue.trans hsx.cue)
          (hdep.cck.trans hsx.cck) (hdep.stc.trans hsx.stc)
      refine ⟨_, hexec, hrds, ((hothers u hne).trans hdep.entry), hself,
        fun w hwu hwv => (hothers w hwv).trans ((hdep.others w hwu).trans (hex w)), hstate, hcont, hver, ?_, hrest⟩
      rw [hpru]
      simp only [Condition.reported, Condition.queued_iff]
  case missing =>
    set x := recordStatus .missing (s.seenBy r.pocket .noTag) with hx
    have hsx := statusAt hl hr hcur .noTag .missing
    rw [← hx] at hsx
    have hex : ∀ w, x.entry? w = s.entry? w := entry?_of_trg hsx.trg
    have hdep := departed (recordStatus_bounded .missing (seenBy_bounded hb)) hr ((hex u).trans he) hpk
      (adoptionOpen_of_windows_nil (by rw [hsx.cue, hwin]) u)
    have hmiss : toolMissing r.pocket u x = emptyVerified r.pocket (versioned u Entry.goAway x) :=
      toolMissing_room ((giverOf?_of_cue hsx.cue u).trans hg) (hsx.room.trans hd)
    rw [← hx, ← hmiss] at hdep
    set y := toolMissing r.pocket u x with hy
    have hout : sweepOutcome r.pocket false .noTag (s.seenBy r.pocket .noTag) = advanceSweep y := by
      simp [sweepOutcome, hseen, Pocket.passedOver, hst, ho, hcon, hy, hx]
    obtain ⟨hexec, hrds⟩ := exec_swept hsw .noTag hout (hdep.rds.trans hsx.rds) (hdep.checks.trans (by rw [hsx.trg, hchk])) nofun
    have hpky : ∀ q, (advanceSweep y).pocket q = y.pocket q := fun q => State.pocket_of_pkc (by simp) q
    have henty : ∀ w, (advanceSweep y).entry? w = y.entry? w := entry?_of_trg (advanceSweep_frame y).1
    refine ⟨_, hexec, hrds, (henty u).trans hdep.entry, fun w hw => (henty w).trans ((hdep.others w hw).trans (hex w)), ?_, ?_, ?_, ?_, ?_,
      fun q hq => (hpky q).trans ((hdep.pockets q hq).trans (hsx.pockets q hq)), by simp [hdep.cue, hsx.cue], by simp [hdep.cck, hsx.cck],
      by simp [hdep.stc, hsx.stc]⟩ <;> rw [hpky]
    · exact hdep.pocket.congr Pocket.state
    · exact hdep.pocket.congr Pocket.contents
    · exact hdep.pocket.congr Pocket.latch
    · exact hdep.pocket.congr Pocket.verified
    · exact hdep.pocket.congr Pocket.mark

end Sys2Proof.Machine

/-! PROOFS. RECORD frames and the presence check: the merge by the entry, the holding and the conflict flag (O40). -/

namespace Sys2Proof.Machine

open Sys2Proof

variable {s t : State} {p q : PocketNo} {u : ToolId} {r : Record} {e : Entry} {d : Read}

/-! ### The merge by the entry of the tool (R17 to R20) -/

theorem exec_recordReceived {src : StationId} {tdr : Tdr} (hs : s.hallTaken src = true) (h : s.takeTdr src tdr = some r) :
    exec (.recordReceived src tdr) s = .next (settleReader (mergeRecord r s)) := by
  show Host.Outcome.next _ = _
  rw [if_pos hs, h]

theorem supersedes_iff : supersedes r.version r.custodian e.version e.custodian = true ↔ r.Supersedes e := by
  simp [supersedes, Record.Supersedes, or_assoc]

/-- R21: the state in which a record is merged: a flagged one has dropped the presence checks of its tool. -/
def State.unchecked (s : State) (r : Record) : State :=
  { s with trg := { s.trg with checks := s.trg.checks.filter (fun c => !r.conflict || c.tool != r.tool) } }

theorem unchecked_of_plain (h : r.conflict = false) : s.unchecked r = s := by
  have hall : s.trg.checks.filter (fun c => !r.conflict || c.tool != r.tool) = s.trg.checks :=
    List.filter_eq_self.2 fun _ _ => by simp [h]
  rw [State.unchecked, hall]

theorem unchecked_bounded (r : Record) (h : s.Bounded) : (s.unchecked r).Bounded := by
  rw [State.unchecked, ← dropCheck_flagged]
  split
  · exact dropCheck_bounded _ h
  · exact h

theorem mergeRecord_entry (he : s.entry? r.tool = some e) (ha : s.adoptionOpen r.tool = false) :
    mergeRecord r s = if !e.here then mergeCached e r (s.unchecked r)
      else if s.transitChecking r.tool then yieldTo r (s.unchecked r)
      else mergeCustody e r (s.unchecked r) := by
  have hex : (s.unchecked r).entry? r.tool = some e := he
  have hax : (s.unchecked r).adoptionOpen r.tool = false := ha
  rw [mergeRecord, dropCheck_flagged, ← State.unchecked]
  simp only [hax, hex, Bool.false_eq_true, if_false]
  rfl

/-- R18: a record that supersedes a cached entry replaces it whole. -/
theorem mergeRecord_cached (he : s.entry? r.tool = some e) (hc : e.custody = .foreign) (ha : s.adoptionOpen r.tool = false)
    (hs : r.Supersedes e) : mergeRecord r s = touchHeard r.tool (putEntry r.cached (s.unchecked r)) := by
  rw [mergeRecord_entry he ha, if_pos (by simp [Entry.here, hc]), mergeCached, if_pos (supersedes_iff.2 hs)]

theorem mergeRecord_custody (he : s.entry? r.tool = some e) (hc : e.custody ≠ .foreign) (ha : s.adoptionOpen r.tool = false)
    (ht : s.transitChecking r.tool = false) : mergeRecord r s = mergeCustody e r (s.unchecked r) := by
  rw [mergeRecord_entry he ha, if_neg (by simp [Entry.here, hc]), if_neg (by simp [ht])]

/-- R19, R20: an unflagged record during no presence check of its tool is merged by its version. -/
theorem mergeRecord_plain (he : s.entry? r.tool = some e) (hc : e.custody ≠ .foreign) (ha : s.adoptionOpen r.tool = false)
    (ht : s.transitChecking r.tool = false) (hr : r.conflict = false) (hp : s.checkPending r.tool = false) :
    mergeRecord r s = mergeByVersion e r s := by
  rw [mergeRecord_custody he hc ha ht, unchecked_of_plain hr, mergeCustody, if_neg (by simp [hr]), if_neg (by simp [hp])]

/-! ### What R20 finds about the tool -/

theorem holding_held (h : s.HeldHere e) : s.holding e = .held := by
  rcases h with ⟨hc, -⟩ | ⟨hc, p, hp, hd, hv, hf, ha⟩
  · simp [State.holding, hc]
  · rcases hc with hc | hc <;> cases hst : (s.pocket p).state <;> simp_all [State.holding]

theorem holding_outside (h : e.custody = .away ∨ e.custody = .lost) : s.holding e = .notHeld := by
  rcases h with h | h <;> simp [State.holding, h]

theorem holding_unverified (hc : e.custody = .stocked ∨ e.custody = .reserved) (hp : e.pocket = some p) (hd : s.hasDoor p = true)
    (hv : (s.pocket p).verified = false) (hst : (s.pocket p).state = .stocked ∨ (s.pocket p).state = .reserved) :
    s.holding e = .notHeld := by
  rcases hc with hc | hc <;> rcases hst with hst | hst <;> simp [State.holding, hc, hp, hst, hd, hv]

theorem holding_undecided (hc : e.custody = .stocked ∨ e.custody = .reserved) (hp : e.pocket = some p) (hd : s.hasDoor p = false)
    (hf : (s.pocket p).state ≠ .fault) (ha : (s.pocket p).state ≠ .absent) : s.holding e = .undecided := by
  rcases hc with hc | hc <;> cases hst : (s.pocket p).state <;> simp_all [State.holding]

theorem mergeByVersion_held (hs : r.Supersedes e) (h : s.HeldHere e) : mergeByVersion e r s = settleHolding true r s := by
  rw [mergeByVersion, if_pos (supersedes_iff.2 hs), mergeSuperseding, holding_held h]

theorem mergeByVersion_notHeld (hs : r.Supersedes e) (h : s.holding e = .notHeld) : mergeByVersion e r s = yieldTo r s := by
  rw [mergeByVersion, if_pos (supersedes_iff.2 hs), mergeSuperseding, h]
  exact if_neg (by decide)

theorem mergeByVersion_older (hs : ¬r.Supersedes e) : mergeByVersion e r s = handRecord r.tool s :=
  if_neg fun h => hs (supersedes_iff.1 h)

/-! ### A conflict found, and a reassertion (R20, R23) -/

/-- What a change of the entry of one tool leaves, its RECORD handed over, up to the Preset Queue. -/
structure State.Reissued (s t : State) (u : ToolId) (e' : Entry) : Prop where
  entry : t.entry? u = some e'
  others : ∀ v, v ≠ u → t.entry? v = s.entry? v
  checks : t.trg.checks = s.trg.checks
  rds : t.rds = s.rds
  hli : s.stc.node ≠ .idConflict → t.hli = { s.hli with routine := placeRecord e'.record s.hli.routine }

/-- R23: the entry of a tool found in conflict. -/
def Entry.disputed (e : Entry) : Entry := { e with condition := .quarantine .duplicate, conflict := true }

theorem conflictFound_reissues (hb : s.Bounded) (he : s.entry? u = some e) (hc : e.custody ≠ .foreign)
    (ha : s.adoptionOpen u = false) (hd : e.condition ≠ .quarantine .duplicate) (hg : s.giverOf? u = none) :
    s.Reissued (conflictFound u s) u { e.disputed with version := e.version + 1 } ∧ u ∉ (conflictFound u s).pru.queue := by
  rw [conflictFound_eq he hd hg]
  refine ⟨⟨versioned_entry_self hb he ha rfl, fun v hv => versioned_entry_ne hb he ha rfl hv, ?_, by simp, fun hn => versioned_hli hb he ha rfl hc hn⟩,
    not_mem_queue_versioned hb he ha rfl (Ne.symm hd) rfl⟩
  rw [versioned_trg he ha]
  rfl

theorem reassert_reissues (hb : s.Bounded) (he : s.entry? r.tool = some e) (hc : e.custody ≠ .foreign) (ha : s.adoptionOpen r.tool = false) :
    s.Reissued (reassert r s) r.tool { e with version := r.version + 1 } ∧ (reassert r s).pru = s.pru := by
  have heq : reassert r s = handRecord r.tool (putEntry { e with version := r.version + 1 } (clearEntryMark e s)) := by
    rw [reassert, he]
  set x := putEntry { e with version := r.version + 1 } (clearEntryMark e s) with hx
  have hreg : (clearEntryMark e s).trg.entries.Pairwise (fun a b => a.tool < b.tool) := by simpa using hb.register
  have hself : x.entry? r.tool = some { e with version := r.version + 1 } := entry?_putEntry_of_tool hreg (tool_of_entry? (e := e) he)
  have hent : ∀ v, (reassert r s).entry? v = x.entry? v := fun v => by rw [heq, entry?_of_trg (handRecord_frame _ _).1]
  refine ⟨⟨(hent _).trans hself, fun v hv => (hent v).trans ?_, ?_, ?_, fun hn => ?_⟩, ?_⟩
  · exact (entry?_putEntry_ne hreg (by rw [show ({ e with version := r.version + 1 } : Entry).tool = r.tool from tool_of_entry? (e := e) he]; exact hv)).trans
      (entry?_of_trg (clearEntryMark_frame e s).1 v)
  · rw [heq, (handRecord_frame _ _).1, hx]
    show (clearEntryMark e s).trg.checks = _
    rw [(clearEntryMark_frame e s).1]
  · simp [heq, hx]
  · rw [heq, handRecord_eq hself hc ((State.adoptionOpen_of_cue (by simp [hx]) _).trans ha) (by simpa [hx] using hn)]
    simp [hx]
  · simp [heq, hx]

/-- R23: the entry of a tool already in conflict keeps its version. -/
theorem conflictFound_known (hb : s.Bounded) (he : s.entry? u = some e) (hd : e.condition = .quarantine .duplicate) :
    ∃ e', (conflictFound u s).entry? u = some e' ∧ e'.kind = e.kind ∧ (conflictFound u s).rds = s.rds ∧
      (conflictFound u s).trg.checks = s.trg.checks := by
  have heq : conflictFound u s = handRecord u (putEntry { e with conflict := true } s) := by simp [conflictFound, he, hd, modEntry_eq he]
  have htrg : (conflictFound u s).trg = (putEntry { e with conflict := true } s).trg := by simp [heq]
  refine ⟨{ e with conflict := true }, (entry?_of_trg htrg u).trans ?_, rfl, by simp [heq], by rw [htrg]; rfl⟩
  exact entry?_putEntry_of_tool hb.register (tool_of_entry? (e := e) he)

theorem physical_of {h : HeardCustody} (hp : h = .stocked ∨ h = .atGauge) : h.physical = true := by
  rcases hp with rfl | rfl <;> rfl

theorem not_physical_of {h : HeardCustody} (h1 : h ≠ .stocked) (h2 : h ≠ .atGauge) : h.physical = false := by
  cases h <;> simp_all [HeardCustody.physical]

/-- R20: a superseding record of a tool held here. -/
theorem settleHolding_held (hb : s.Bounded) (he : s.entry? r.tool = some e) (hc : e.custody ≠ .foreign) (ha : s.adoptionOpen r.tool = false)
    (hg : s.giverOf? r.tool = none) :
    ∃ e', (settleHolding true r s).entry? r.tool = some e' ∧ e'.kind = e.kind ∧ (settleHolding true r s).rds = s.rds ∧
      (settleHolding true r s).trg.checks = s.trg.checks ∧
      (r.heard.physical = true → e.condition ≠ .quarantine .duplicate → e' = { e.disputed with version := e.version + 1 }) ∧
      (r.heard.physical = false → e' = { e with version := r.version + 1 }) := by
  rw [settleHolding, if_pos rfl]
  by_cases hp : r.heard.physical = true
  · rw [if_pos hp]
    by_cases hd : e.condition = .quarantine .duplicate
    · obtain ⟨e', hent, hkind, hrds, hchk⟩ := conflictFound_known hb he hd
      exact ⟨e', hent, hkind, hrds, hchk, fun _ h => absurd hd h, fun h => absurd hp (by simp [h])⟩
    · obtain ⟨hre, -⟩ := conflictFound_reissues hb he hc ha hd hg
      exact ⟨_, hre.entry, rfl, hre.rds, hre.checks, fun _ _ => rfl, fun h => absurd hp (by simp [h])⟩
  · rw [if_neg hp]
    obtain ⟨hre, -⟩ := reassert_reissues hb he hc ha
    exact ⟨_, hre.entry, rfl, hre.rds, hre.checks, fun h => absurd h hp, fun _ => rfl⟩

/-! ### The entry yields (R22) -/

/-- R22: what a yield leaves. -/
structure State.Yielded (s t : State) (r : Record) (e : Entry) : Prop where
  entry : t.entry? r.tool = some r.cached
  others : ∀ v, v ≠ r.tool → t.entry? v = s.entry? v
  heard : t.trg.heard = r.tool :: s.trg.heard.filter (· != r.tool)
  checks : t.trg.checks = s.trg.checks.filter (fun c => c.tool != r.tool)
  queue : r.tool ∉ t.pru.queue
  hli : t.hli = { s.hli with routine := s.hli.routine.filter (fun f => !f.isRecordOf r.tool) }
  rds : t.rds = s.rds
  pocket : ∀ p, e.pocket = some p → (t.pocket p).state = .empty ∧ (t.pocket p).contents = none ∧ (t.pocket p).latch = .locked ∧
    (t.pocket p).verified = false

theorem losesTool_held {k : Pocket} (h : k.state = .stocked ∨ k.state = .reserved) : k.losesTool = { k.toEmpty with verified := false } := by
  rcases h with h | h <;> simp [Pocket.losesTool, h]

theorem yieldTo_yields (hb : s.Bounded) (he : s.entry? r.tool = some e) (hg : s.giverOf? r.tool = none) (hw : s.cue.windows = [])
    (hwait : s.cue.waiting = []) (hc : e.custody ≠ .atGauge)
    (hpk : ∀ p, e.pocket = some p → p < 48 ∧ ((s.pocket p).state = .stocked ∨ (s.pocket p).state = .reserved)) :
    s.Yielded (yieldTo r s) r e := by
  set x := dropCheck r.tool (touchHeard r.tool (putEntry r.cached (clearEntryMark e s))) with hx
  set y := withdrawRecord r.tool (presetRemove r.tool x) with hy
  have hcue : y.cue = s.cue := by simp [hy, hx]
  have hgy : y.giverOf? r.tool = none := (giverOf?_of_cue hcue _).trans hg
  have heq : yieldTo r s = vacateEntry e y := by
    have hclose : closeTransitCheck r.tool (vacateEntry e y) = vacateEntry e y :=
      closeTransitCheck_eq (by simp [hcue, hwait]) (window?_of_windows_nil (by simp [hcue, hw]) _)
    rw [yieldTo, he]
    simp only [← hx, ← hy, withdrawGiver_none hgy, if_neg hc, hclose]
  have htrg : (yieldTo r s).trg = x.trg := by simp [heq, hy]
  have hreg : (clearEntryMark e s).trg.entries.Pairwise (fun a b => a.tool < b.tool) := by simpa using hb.register
  have hmark := (clearEntryMark_frame e s).1
  exact
    { entry := (entry?_of_trg htrg _).trans (entry?_putEntry_self (e := r.cached) hreg)
      others := fun v hv => (entry?_of_trg htrg v).trans ((entry?_putEntry_ne (e := r.cached) hreg hv).trans (entry?_of_trg hmark v))
      heard := by
        rw [htrg]
        show _ :: (clearEntryMark e s).trg.heard.filter _ = _
        rw [hmark]
      checks := by
        rw [htrg]
        show (clearEntryMark e s).trg.checks.filter _ = _
        rw [hmark]
      queue := by
        rw [heq, (vacateEntry_frame e y).2.2.1, (withdrawRecord_frame _ _).2.2.2.1]
        exact not_mem_presetRemove _ _
      hli := by
        rw [heq, (vacateEntry_frame e y).2.2.2.2.1, hy]
        simp [withdrawRecord, hx]
      rds := by simp [heq, hy, hx]
      pocket := fun p hp => by
        obtain ⟨hlt, hst⟩ := hpk p hp
        have hlen := hb.pocket_lt hlt
        have hxp : x.pocket p = (clearMark p (some e.tool) s).pocket p := by
          rw [← clearEntryMark_some hp]
          exact State.pocket_of_pkc (by simp [hx]) p
        have hyp : ({ s.pocket p with mark := none } : Pocket).Alike (y.pocket p) :=
          (((Pocket.Alike.refl (s.pocket p)).clearMark hlen (some e.tool)).trans (hxp ▸ presetRemove_alike r.tool p x)).trans
            (.of_eq (State.pocket_of_pkc (by simp [hy]) p))
        have hv : yieldTo r s = modPocket p Pocket.losesTool y := by rw [heq, vacateEntry, hp]
        have hylen : p < y.pkc.pockets.length := by simpa [hv] using (yieldTo_bounded r hb).pocket_lt hlt
        have hend := hyp.modPocket (f := Pocket.losesTool) hylen losesTool_indicator
        rw [hv]
        have hl : ({ s.pocket p with mark := none } : Pocket).losesTool = { ({ s.pocket p with mark := none } : Pocket).toEmpty with verified := false } :=
          losesTool_held hst
        rw [hl] at hend
        exact ⟨hend.congr Pocket.state, hend.congr Pocket.contents, hend.congr Pocket.latch, hend.congr Pocket.verified⟩ }

/-! ### A flagged record of a tool physically here (R23) -/

theorem conflictReceived_disputes (hb : s.Bounded) (he : s.entry? u = some e) (hg : s.giverOf? u = none) :
    (conflictReceived u s).hli = s.hli ∧ (conflictReceived u s).rds = s.rds ∧
      (conflictReceived u s).trg.checks = s.trg.checks.filter (fun c => c.tool != u) ∧
      (∀ v, v ≠ u → (conflictReceived u s).entry? v = s.entry? v) ∧
      (e.condition ≠ .quarantine .duplicate → u ∉ (conflictReceived u s).pru.queue ∧ (conflictReceived u s).entry? u = some e.disputed) ∧
      (e.condition = .quarantine .duplicate → (conflictReceived u s).entry? u = some e) := by
  by_cases hd : e.condition = .quarantine .duplicate
  · have heq : conflictReceived u s = dropCheck u s := by simp [conflictReceived, he, hd]
    rw [heq]
    exact ⟨rfl, rfl, rfl, fun v _ => rfl, fun h => absurd hd h, fun _ => he⟩
  · set x := putEntry e.disputed (clearEntryMark e (dropCheck u s)) with hx
    have hgx : (presetRemove u x).giverOf? u = none := (giverOf?_of_cue (by simp [hx]) u).trans hg
    have heq : conflictReceived u s = presetRemove u x := by
      simp only [conflictReceived, he, if_neg hd]
      exact withdrawGiver_none hgx _
    have htrg : (conflictReceived u s).trg = x.trg := by simp [heq]
    have hmark := (clearEntryMark_frame e (dropCheck u s)).1
    have hreg : (clearEntryMark e (dropCheck u s)).trg.entries.Pairwise (fun a b => a.tool < b.tool) := by simpa using hb.register
    have hut : e.disputed.tool = u := tool_of_entry? (e := e) he
    refine ⟨by simp [heq, hx], by simp [heq, hx], ?_, fun v hv => (entry?_of_trg htrg v).trans ?_, fun _ => ⟨?_, ?_⟩, fun h => absurd h hd⟩
    · rw [htrg]
      show (clearEntryMark e (dropCheck u s)).trg.checks = _
      rw [hmark]
      rfl
    · exact (entry?_putEntry_ne hreg (by rw [hut]; exact hv)).trans (entry?_of_trg (s := dropCheck u s) hmark v)
    · rw [heq]
      exact not_mem_presetRemove u x
    · exact (entry?_of_trg htrg u).trans (entry?_putEntry_of_tool hreg hut)

/-! ### The read that settles a presence check (R21) -/

/-- The state in which a settled check is gone. -/
def State.checkGone (s : State) (c : PresenceCheck) : State :=
  { s with trg := { s.trg with checks := s.trg.checks.filter (fun x => !decide (x = c)) } }

theorem checkGone_bounded (c : PresenceCheck) (h : s.Bounded) : (s.checkGone c).Bounded := { h with }

theorem settleCheck_read {c : PresenceCheck} {kind : Nat} (he : s.entry? c.tool = some e) (hc : e.custody = .stocked)
    (hp : e.pocket = some c.pocket) (ha : s.adoptionOpen c.tool = false) :
    settleCheck c (.tag c.tool kind) s = settleHolding true c.record (s.checkGone c) := by
  have hex : (s.checkGone c).entry? c.tool = some e := he
  have hax : (s.checkGone c).adoptionOpen c.tool = false := ha
  rw [settleCheck, ← State.checkGone]
  simp [hax, hex, Entry.here, hc, hp]

theorem settleCheck_noTag {c : PresenceCheck} (he : s.entry? c.tool = some e) (hc : e.custody ≠ .foreign)
    (ha : s.adoptionOpen c.tool = false) : settleCheck c .noTag s = settleHolding false c.record (s.checkGone c) := by
  have hex : (s.checkGone c).entry? c.tool = some e := he
  have hax : (s.checkGone c).adoptionOpen c.tool = false := ha
  rw [settleCheck, ← State.checkGone]
  simp [hax, hex, Entry.here, hc]

/-- R21, R52: a read that nothing but one presence check waits for. -/
theorem deliver_checked {c : PresenceCheck} {o : Outcome} {y : State} (hreq : (s.pocket p).readRequested = false)
    (haw : s.rds.awaiting = false) (hc : s.trg.checks = [c]) (hp : c.pocket = p) (hy : settleCheck c o (s.seenBy p o) = y)
    (hk : ∀ u kind, o = .tag u kind → (s.pocket p).contents = some u → retag u kind y = y) : deliver p o s.freed = y := by
  have hpk : s.freed.pocket p = s.pocket p := rfl
  have hkeep : (s.pocket p).keepsFlag = (s.pocket p).passedOver := by simp [Pocket.keepsFlag, hreq]
  obtain ⟨htrg, -, hrds, -⟩ := (afterRead_seenBy s p o).blocks
  have hawy : (s.seenBy p o).rds.awaiting = false := by rw [hrds]; exact haw
  have hdue : (s.seenBy p o).trg.checks = [c] := by rw [htrg, hc]
  unfold deliver
  simp only [hpk, hkeep, hreq, Bool.false_eq_true, if_false, Bool.false_and]
  rw [show (if (s.pocket p).passedOver || decide (o = .readFail) then s.freed
    else modPocket p (fun k => { k with verified := true }) s.freed) = s.seenBy p o from rfl]
  simp only [hawy, Bool.false_and, Bool.false_eq_true, if_false, hdue, List.filter_cons, hp, BEq.rfl, if_true, List.filter_nil,
    List.foldl_cons, List.foldl_nil, List.contains_cons, Bool.true_or, hy]
  cases o with
  | tag u kind =>
    by_cases hu : (s.pocket p).contents = some u
    · simp [hu, hk u kind rfl hu]
    · simp [hu]
  | noTag => rfl
  | readFail => rfl

/-- The conditions under which the read of a STOCKED pocket settles presence check c. -/
structure State.CheckRead (s : State) (d : Read) (c : PresenceCheck) (e : Entry) : Prop where
  running : s.running = true
  bounded : s.Bounded
  inFlight : s.rds.inFlight = some d
  queue : s.rds.queue = []
  sweep : s.rds.sweep = .idle
  awaiting : s.rds.awaiting = false
  checks : s.trg.checks = [c]
  pocket : c.pocket = d.pocket
  tool : c.record.tool = c.tool
  range : d.pocket < 48
  state : (s.pocket d.pocket).state = .stocked
  unasked : (s.pocket d.pocket).readRequested = false
  entry : s.entry? c.tool = some e
  custody : e.custody = .stocked
  place : e.pocket = some d.pocket
  giver : s.giverOf? c.tool = none
  windows : s.cue.windows = []
  waiting : s.cue.waiting = []

theorem exec_checkRead {c : PresenceCheck} {a : AttemptResult} {o : Outcome} {y : State} (h : s.CheckRead d c e) (he : d.Ends a o)
    (hy : settleCheck c o (s.seenBy d.pocket o) = y) (hrds : y.rds = { s.rds with inFlight := none })
    (hk : ∀ u kind, o = .tag u kind → (s.pocket d.pocket).contents = some u → retag u kind y = y) :
    exec (.readAttemptEnd a) s = .next y := by
  rw [exec_readEnds h.running h.inFlight he, deliver_checked h.unasked h.awaiting h.checks h.pocket hy hk]
  refine congrArg _ (settleReader_stays (.inr ?_) ?_)
  · rw [hrds]; exact h.queue
  · rw [hrds]; exact fun ha => absurd (h.sweep.symm.trans ha) (by decide)

/-- Settles O40: the merge of a record by the entry, the holding and the conflict flag, and the read that settles a presence check. -/
theorem recordsMerge : Obligations.RecordsMerge := by
  refine ⟨fun src tdr s => ⟨fun h => ?malformed, fun r hs htdr ha hn hl hbusy => ?creates⟩,
    fun src tdr r e s hs htdr he ha hbusy => ⟨fun hc hsup => ?replaces, fun hc ht hr hp hn1 hn2 hn3 hnode => ?answered⟩,
    fun src tdr r e s hs htdr he hc ha ht hb => ⟨fun hbusy hr hp hsup hheld => ⟨fun hphys hd hg => ?conflict, fun hn1 hn2 => ?reasserts⟩,
      fun hbusy hsup hg hw hwait hcase hplace => ?yields, fun p hr hpend hsup hcu hp hpres hdoor hf hrd hq => ?begins,
      fun hbusy hr hp => ?rechecks, fun hbusy hr hcu hg => ?flagged⟩,
    fun d c e s hrun hb hin hq hsw haw hchk hcp hct hr hst ho hrq hcon hu he hcu hpk hg hw hwait => ?settles⟩
  case malformed =>
    show Host.Outcome.next _ = _
    rw [takeTdr_none h]
    exact congrArg _ (ite_self s)
  case creates =>
    rw [exec_recordReceived hs htdr, mergeRecord_new hn ha hl]
    exact congrArg _ (settleReader_of_busy hbusy)
  case replaces =>
    rw [exec_recordReceived hs htdr, mergeRecord_cached he hc ha hsup]
    exact congrArg _ (settleReader_of_busy hbusy)
  case answered =>
    have hmerge : mergeRecord r s = { s with hli := { s.hli with routine := placeRecord e.record s.hli.routine } } := by
      rw [mergeRecord_plain he hc ha ht hr hp, mergeByVersion_older (by rintro (h | h | h); exacts [absurd h (by simp [hn1]), hn2 h, hn3 h]),
        handRecord_eq he hc ha hnode]
    have htool : e.record.tool = r.tool := tool_of_entry? he
    refine ⟨_, (exec_recordReceived hs htdr).trans (congrArg _ ((congrArg settleReader hmerge).trans (settleReader_of_busy hbusy))), rfl,
      fun hany => ?_, fun hany hl => ?_⟩
    · rw [← htool] at hany ⊢
      exact placeRecord_present hany
    · exact placeRecord_room (htool ▸ hany) hl
  case conflict =>
    have hmerge : mergeRecord r s = conflictFound r.tool s := by
      rw [mergeRecord_plain he hc ha ht hr hp, mergeByVersion_held hsup hheld, settleHolding, if_pos rfl,
        if_pos (physical_of hphys)]
    obtain ⟨hre, hqueue⟩ := conflictFound_reissues hb he hc ha hd hg
    refine ⟨_, _, (exec_recordReceived hs htdr).trans (congrArg _ ((congrArg settleReader hmerge).trans (settleReader_of_busy ?_))),
      hre.entry, rfl, hre.others, hqueue, hre.hli⟩
    exact hbusy.of_rds (by rw [hre.rds]) (by rw [hre.rds])
  case reasserts =>
    have hmerge : mergeRecord r s = reassert r s := by
      rw [mergeRecord_plain he hc ha ht hr hp, mergeByVersion_held hsup hheld, settleHolding, if_pos rfl,
        if_neg (by simp [not_physical_of hn1 hn2])]
    obtain ⟨hre, hpru⟩ := reassert_reissues hb he hc ha
    refine ⟨_, _, (exec_recordReceived hs htdr).trans (congrArg _ ((congrArg settleReader hmerge).trans (settleReader_of_busy ?_))),
      hre.entry, rfl, hre.others, hpru, hre.hli⟩
    exact hbusy.of_rds (by rw [hre.rds]) (by rw [hre.rds])
  case yields =>
    have hheld : (s.unchecked r).holding e = .notHeld := by
      rcases hplace with ⟨hcu, -⟩ | ⟨hcu, p, hp, -, hd, hv, hst⟩
      · exact holding_outside hcu
      · exact holding_unverified (s := s.unchecked r) hcu hp hd hv hst
    have hmerge : mergeRecord r s = yieldTo r (s.unchecked r) := by
      rw [mergeRecord_custody he hc ha ht, ← mergeByVersion_notHeld hsup hheld, mergeCustody]
      rcases hcase with ⟨hr, hp⟩ | ⟨hr, hcu⟩
      · rw [if_neg (by simp [hr]), unchecked_of_plain hr, if_neg (by simp [hp])]
      · rw [if_pos hr, if_neg (by rcases hcu with h | h <;> simp [Custody.flagged, h])]
    have hy : (s.unchecked r).Yielded _ r e := yieldTo_yields (unchecked_bounded r hb) he hg hw hwait
      (by rcases hplace with ⟨h | h, -⟩ | ⟨h | h, -⟩ <;> simp [h]) fun p hp => by
        rcases hplace with ⟨-, h⟩ | ⟨-, q, hq, hlt, -, -, hst⟩
        · exact absurd (h.symm.trans hp) (by simp)
        · cases hq.symm.trans hp
          exact ⟨hlt, hst⟩
    refine ⟨_, (exec_recordReceived hs htdr).trans (congrArg _ ((congrArg settleReader hmerge).trans (settleReader_of_busy ?_))), hy.entry,
      hy.others, hy.heard, ?_, hy.queue, hy.hli, hy.pocket⟩
    · exact hbusy.of_rds (by rw [hy.rds]; rfl) (by rw [hy.rds]; rfl)
    · rw [hy.checks]
      simp only [State.unchecked, List.filter_filter]
      congr 1
      funext c
      cases c.tool != r.tool <;> simp
  case begins =>
    have hab : (s.pocket p).state ≠ .absent := (State.present_iff.1 hpres).2
    have hmerge : mergeRecord r s = beginCheck p r s := by
      rw [mergeRecord_plain he hc ha ht hr hpend, mergeByVersion, if_pos (supersedes_iff.2 hsup), mergeSuperseding,
        holding_undecided hcu hp hdoor hf hab]
      simp [hp]
    have hbegin : beginCheck p r s = { s with trg := { s.trg with checks := s.trg.checks ++ [⟨r.tool, p, r⟩] },
                                              rds := { s.rds with queue := s.rds.queue ++ [p] } } :=
      enqueueRead_eq (s := { s with trg := { s.trg with checks := s.trg.checks ++ [⟨r.tool, p, r⟩] } }) hpres hq hrd.notInFlight
    rw [exec_recordReceived hs htdr, hmerge, hbegin]
    exact congrArg _ (settleReader_of_busy (hrd.busy.of_rds rfl rfl))
  case rechecks =>
    have hmerge : mergeRecord r s = recheckWith r s := by
      rw [mergeRecord_custody he hc ha ht, unchecked_of_plain hr, mergeCustody, if_neg (by simp [hr]), if_pos hp]
    refine ((exec_recordReceived hs htdr).trans (congrArg _ ((congrArg settleReader hmerge).trans (settleReader_of_busy (hbusy.of_rds rfl rfl))))).trans ?_
    simp [recheckWith, supersedes, or_assoc]
  case flagged =>
    have hbu : (s.unchecked r).Bounded := unchecked_bounded r hb
    have hmerge : mergeRecord r s = conflictReceived r.tool (s.unchecked r) := by
      rw [mergeRecord_custody he hc ha ht, mergeCustody, if_pos hr, if_pos (by rcases hcu with h | h | h | h <;> simp [Custody.flagged, h])]
    obtain ⟨hhli, hrds, hchk, hothers, hnew, hold⟩ := conflictReceived_disputes (s := s.unchecked r) hbu he hg
    refine ⟨_, (exec_recordReceived hs htdr).trans (congrArg _ ((congrArg settleReader hmerge).trans (settleReader_of_busy ?_))), hhli, ?_,
      hothers, hnew, hold⟩
    · exact hbusy.of_rds (by rw [hrds]; rfl) (by rw [hrds]; rfl)
    · rw [hchk]
      simp [State.unchecked, hr]
  case settles =>
    have hread : s.CheckRead d c e := ⟨hrun, hb, hin, hq, hsw, haw, hchk, hcp, hct, hr, hst, hrq, he, hcu, hpk, hg, hw, hwait⟩
    have hfor : e.custody ≠ .foreign := by simp [hcu]
    have hgone : ∀ o, ∃ z, (s.seenBy d.pocket o).checkGone c = z ∧ z.Bounded ∧ z.trg.checks = [] ∧ z.entry? c.record.tool = some e ∧
        z.rds = { s.rds with inFlight := none } ∧ z.cue = s.cue ∧ (z.pocket d.pocket).state = .stocked := fun o => by
      obtain ⟨htrg, -, hrds, -, hcue, -⟩ := (afterRead_seenBy s d.pocket o).blocks
      refine ⟨_, rfl, checkGone_bounded c (seenBy_bounded hb), by simp [State.checkGone, htrg, hchk], ?_, hrds, hcue, ?_⟩
      · rw [hct]
        exact (entry?_of_trg htrg c.tool).trans he
      · exact (seenBy_pocket_seen hb.pockets hr o).1.trans hst
    have hseen : ∀ o, (s.seenBy d.pocket o).entry? c.tool = some e ∧ (s.seenBy d.pocket o).adoptionOpen c.tool = false := fun o => by
      obtain ⟨htrg, -, hrds, -, hcue, -⟩ := (afterRead_seenBy s d.pocket o).blocks
      exact ⟨(entry?_of_trg htrg c.tool).trans he, adoptionOpen_of_windows_nil (by rw [hcue, hw]) _⟩
    refine ⟨?_, ?_⟩
    · obtain ⟨z, hz, hbz, hchkz, hez, hrdsz, hcuez, -⟩ := hgone (.tag c.tool e.kind)
      obtain ⟨hent, hadopt⟩ := hseen (.tag c.tool e.kind)
      obtain ⟨e', hent', hkind, hrds, hchk', hphys, hplain⟩ := settleHolding_held hbz hez hfor
        (adoptionOpen_of_windows_nil (by rw [hcuez, hw]) _) ((giverOf?_of_cue hcuez _).trans (hct.symm ▸ hg))
      rw [hct] at hent'
      refine ⟨_, e', exec_checkRead hread (.tag _ hu) ((settleCheck_read hent hcu (hcp.symm ▸ hpk) hadopt).trans (congrArg _ hz))
        (hrds.trans hrdsz) (fun v kind ho _ => ?_), hent', hchk'.trans hchkz, fun h => hphys (physical_of h), fun h1 h2 => hplain (not_physical_of h1 h2)⟩
      cases ho
      rw [← hkind]
      exact retag_kept hent'
    · obtain ⟨z, hz, hbz, hchkz, hez, hrdsz, hcuez, hstz⟩ := hgone .noTag
      obtain ⟨hent, hadopt⟩ := hseen .noTag
      have hy : z.Yielded (yieldTo c.record z) c.record e := yieldTo_yields hbz hez ((giverOf?_of_cue hcuez _).trans (hct.symm ▸ hg))
        (by rw [hcuez, hw]) (by rw [hcuez, hwait]) (by simp [hcu]) fun p hp => by
          cases hpk.symm.trans hp
          exact ⟨hr, .inl hstz⟩
      refine ⟨_, exec_checkRead hread .noTag ((settleCheck_noTag hent hfor hadopt).trans (congrArg _ hz)) (hy.rds.trans hrdsz) nofun,
        hct ▸ hy.entry, ?_, hy.pocket _ hpk⟩
      exact hy.checks.trans (by simp [hchkz])

end Sys2Proof.Machine

/-! PROOFS. Closings, pocket timers, and lock faults (O25, O22). -/

namespace Sys2Proof.Machine

open Sys2Proof

variable {s t : State} {p q : PocketNo} {u : ToolId} {e : Entry}

/-! ### A closing (R33) -/

/-- R33: the pocket after its closing, by the table. -/
def Pocket.closes (k : Pocket) : Pocket :=
  match k.state with
  | .empty => k.toChecking .insert
  | .openForStock => { k.toChecking .insert with timer := none, timerRunning := false }
  | .stocked => if k.openRelease then { k.toChecking .remove with timerRunning := false } else k.toChecking .recheck
  | .checking | .reserved | .releasing | .awaiting | .wrongTool | .fault | .absent => k

theorem modPocket_congr {f g : Pocket → Pocket} (h : f (s.pocket p) = g (s.pocket p)) : modPocket p f s = modPocket p g s := by
  rw [modPocket, modPocket, h]

/-- Two changes of a pocket are one, the indicator being formed from the rest of its record. -/
theorem modPocket_modPocket {f g : Pocket → Pocket} (hp : p < s.pkc.pockets.length)
    (hg : ∀ k i, g { k with indicator := i } = { g k with indicator := i } := by intros; rfl) :
    modPocket p g (modPocket p f s) = modPocket p (fun k => g (f k)) s := by
  have hself := pocket_modPocket_self f hp
  rw [modPocket, hself, hg]
  simp only [modPocket, putPocket, List.set_set]
  rfl

/-- R33: the pocket that closed, a read of it asked for. -/
def Pocket.closed (k : Pocket) : Pocket := { k.closes with readRequested := true }

/-- R33: a closing by the state of the pocket, unless its read is under way already. -/
theorem closing_eq (hp : p < s.pkc.pockets.length) (hf : (s.pocket p).state ≠ .fault) (ha : (s.pocket p).state ≠ .absent)
    (hr : (s.pocket p).state = .checking → (s.pocket p).readRequested = false) :
    closing p s = enqueueRead p (modPocket p Pocket.closed s) := by
  have key : ∀ f : Pocket → Pocket, { f (s.pocket p) with readRequested := true } = (s.pocket p).closed →
      requestRead p (modPocket p f s) = enqueueRead p (modPocket p Pocket.closed s) := fun f h => by
    rw [requestRead, modPocket_modPocket hp, modPocket_congr h]
  have keep : ({ s.pocket p with readRequested := true } : Pocket) = (s.pocket p).closed →
      requestRead p s = enqueueRead p (modPocket p Pocket.closed s) := fun h => by
    rw [requestRead, modPocket_congr h]
  cases h : (s.pocket p).state with
  | empty | openForStock =>
    simp only [closing, h]
    exact key _ (by simp [Pocket.closed, Pocket.closes, h])
  | stocked =>
    simp only [closing, h]
    split
    · next ho => exact key _ (by simp [Pocket.closed, Pocket.closes, h, ho])
    · next ho => exact key _ (by simp [Pocket.closed, Pocket.closes, h, ho])
  | checking =>
    simp only [closing, h, hr h, Bool.false_eq_true, if_false]
    exact keep (by simp [Pocket.closed, Pocket.closes, h])
  | reserved | releasing | awaiting | wrongTool =>
    simp only [closing, h]
    exact keep (by simp [Pocket.closed, Pocket.closes, h])
  | fault => exact absurd h hf
  | absent => exact absurd h ha

/-- R33: a closing that finds the read of a CHECKING pocket asked for. -/
theorem closing_checking (h : (s.pocket p).state = .checking) (hr : (s.pocket p).readRequested = true) : closing p s = s := by
  simp [closing, h, hr]

theorem closed_indicator (k : Pocket) (i : Indicator) : ({ k with indicator := i } : Pocket).closed = { k.closed with indicator := i } := by
  unfold Pocket.closed Pocket.closes
  cases h : k.state <;> simp only [Pocket.toChecking, h]
  split <;> rfl

/-- R33: what a closing keeps of its pocket. -/
theorem closed_kept (k : Pocket) : k.closed.latch = k.latch ∧ k.closed.contents = k.contents ∧ k.closed.verified = k.verified ∧
    k.closed.door = k.door ∧ k.closed.hold = k.hold ∧ k.closed.mark = k.mark := by
  unfold Pocket.closed Pocket.closes
  cases h : k.state <;> simp only [Pocket.toChecking, and_self]
  split <;> simp

theorem closed_insert {k : Pocket} (h : k.state = .empty ∨ k.state = .openForStock) :
    k.closed.state = .checking ∧ k.closed.check = some .insert := by
  rcases h with h | h <;> simp [Pocket.closed, Pocket.closes, h, Pocket.toChecking]

theorem closed_stocked {k : Pocket} (h : k.state = .stocked) :
    k.closed.state = .checking ∧ k.closed.check = some (if k.openRelease then .remove else .recheck) := by
  cases ho : k.openRelease <;> simp [Pocket.closed, Pocket.closes, h, ho, Pocket.toChecking]

theorem closed_other {k : Pocket} (h1 : k.state ≠ .empty) (h2 : k.state ≠ .openForStock) (h3 : k.state ≠ .stocked) :
    k.closed.state = k.state ∧ k.closed.check = k.check := by
  cases h : k.state <;> simp_all [Pocket.closed, Pocket.closes]

theorem enqueueRead_grows {q : PocketNo} (h : q ∈ s.rds.queue) (p : PocketNo) : q ∈ (enqueueRead p s).rds.queue := by
  unfold enqueueRead
  split
  · exact h
  · exact List.mem_append_left _ h

/-- R33: what a closing leaves. -/
structure State.Closed (s t : State) (p : PocketNo) : Prop where
  pocket : (s.pocket p).closed.Alike (t.pocket p)
  pockets : ∀ q, q ≠ p → t.pocket q = s.pocket q
  queue : s.rds.inFlight.map (·.pocket) ≠ some p → ((s.pocket p).state = .checking → (s.pocket p).readRequested = false) → p ∈ t.rds.queue
  subset : ∀ q, q ∈ t.rds.queue → q = p ∨ q ∈ s.rds.queue
  grows : ∀ q, q ∈ s.rds.queue → q ∈ t.rds.queue
  length : t.pkc.pockets.length = s.pkc.pockets.length
  rest : t = { s with pkc := { s.pkc with pockets := t.pkc.pockets }, rds := { s.rds with queue := t.rds.queue } }

theorem closes_state_absent (k : Pocket) : k.closes.state = .absent ↔ k.state = .absent := by
  unfold Pocket.closes
  cases h : k.state <;> simp only [Pocket.toChecking, h] <;> try simp
  split <;> simp

theorem closing_closes (hp : s.present p = true) (hlen : p < s.pkc.pockets.length) (hf : (s.pocket p).state ≠ .fault) :
    s.Closed (closing p s) p := by
  have hab : (s.pocket p).state ≠ .absent := (State.present_iff.1 hp).2
  by_cases hr : (s.pocket p).state = .checking → (s.pocket p).readRequested = false
  · have hpres : (modPocket p Pocket.closed s).present p = true := by
      rw [present_modPocket (f := Pocket.closed) (closes_state_absent _)]
      exact hp
    have hpk : (enqueueRead p (modPocket p Pocket.closed s)).pkc.pockets = (modPocket p Pocket.closed s).pkc.pockets := by simp
    rw [closing_eq hlen hf hab hr]
    refine ⟨?_, fun q hq => ?_, fun hfl _ => mem_enqueueRead hpres hfl, fun q hq => enqueueRead_subset (s := modPocket p Pocket.closed s) hq,
      fun q hq => enqueueRead_grows (s := modPocket p Pocket.closed s) hq p, by simp, ?_⟩
    · rw [enqueueRead_pocket]
      exact modPocket_alike hlen
    · rw [enqueueRead_pocket, pocket_modPocket_ne hq]
    · rw [hpk]
      exact enqueueRead_queue p (modPocket p Pocket.closed s)
  · simp only [Classical.not_imp, Bool.not_eq_false] at hr
    obtain ⟨hc, hr⟩ := hr
    rw [closing_checking hc hr]
    refine ⟨.of_eq ?_, fun _ _ => rfl, fun _ h => absurd (h hc) (by simp [hr]), fun _ hq => .inr hq, fun _ hq => hq, rfl, rfl⟩
    rw [Pocket.closed, show (s.pocket p).closes = s.pocket p by simp [Pocket.closes, hc], ← hr]

theorem closing_fault (h : (s.pocket p).state = .fault) : closing p s = s := by
  simp [closing, h]

/-! ### Pocket timers (R43) -/

theorem exec_pocketTimer (hs : s.running = true) (hd : (s.pocket p).timerDue = true) :
    exec (.pocketTimerExpiry p) s = .next (settleReader (pocketTimerEnds p s)) :=
  congrArg Host.Outcome.next (if_pos (by rw [hs, hd]; rfl))

theorem timerDue_iff {k : Pocket} : k.timerDue = true ↔
    k.timer = some 0 ∧ k.timerRunning = true ∧ (k.state = .openForStock ∨ (k.state = .stocked ∧ k.openRelease = true)) := by
  simp [Pocket.timerDue, and_assoc]

/-- Settles O25, by the door sensors of the module. -/
theorem pocketTimerExpires : Obligations.PocketTimerExpires := by
  refine fun p s hl => ⟨fun hd => congrArg Host.Outcome.next (if_neg (by simp [hd])), fun hs hd he => ?_⟩
  rw [exec_pocketTimer hs hd]
  obtain ⟨-, -, hst⟩ := timerDue_iff.1 hd
  have hab : (s.pocket p).state ≠ .absent := by rcases hst with h | ⟨h, -⟩ <;> simp [h]
  have hlen : p < s.pkc.pockets.length := lt_of_pocket_present hab
  have hpres : s.present p = true := State.present_iff.2 ⟨hl ▸ hlen, hab⟩
  cases hdoor : s.hasDoor p with
  | false =>
    set x := modPocket p (fun k => { k with timerRunning := false }) s with hx
    have hends : pocketTimerEnds p s = closing p x := by simp [pocketTimerEnds, hdoor, hx]
    have hxk : ({ s.pocket p with timerRunning := false } : Pocket).Alike (x.pocket p) := modPocket_alike hlen
    have hxst : (x.pocket p).state = (s.pocket p).state := hxk.congr Pocket.state
    have hxfl : x.rds.inFlight.map (·.pocket) ≠ some p := he.notInFlight
    have hcl : x.Closed (closing p x) p := closing_closes (by rw [hx, present_modPocket Iff.rfl]; exact hpres) (by simpa [hx] using hlen)
      (by rw [hxst]; rcases hst with h | ⟨h, -⟩ <;> simp [h])
    have hself : ({ s.pocket p with timerRunning := false } : Pocket).closed.Alike ((closing p x).pocket p) :=
      (hxk.map (f := Pocket.closed) closed_indicator).trans hcl.pocket
    obtain ⟨hlatch, -, hver, -⟩ := closed_kept { s.pocket p with timerRunning := false }
    have hbusy : (closing p x).readerBusy := he.busy.of_rds (by rw [hcl.rest]; rfl) (by rw [hcl.rest]; rfl)
    rw [hends, settleReader_of_busy hbusy]
    refine ⟨_, rfl, (hself.congr Pocket.verified).trans hver, nofun, fun _ => ⟨(hself.congr Pocket.state).trans ?_, hself.congr Pocket.readRequested,
      hcl.queue hxfl ?_, (hself.congr Pocket.latch).trans hlatch, fun h => (hself.congr Pocket.check).trans (closed_insert (k := { s.pocket p with timerRunning := false }) (.inr h)).2,
      fun h => (hself.congr Pocket.check).trans ?_⟩, fun q hq => (hcl.pockets q hq).trans (pocket_modPocket_ne hq _ _), hcl.rest⟩
    · rcases hst with h | ⟨h, -⟩
      · exact (closed_insert (k := { s.pocket p with timerRunning := false }) (.inr h)).1
      · exact (closed_stocked (k := { s.pocket p with timerRunning := false }) h).1
    · rw [hxst]
      rcases hst with h | ⟨h, -⟩ <;> simp [h]
    · obtain ⟨-, ho⟩ := hst.resolve_left (by simp [h])
      rw [(closed_stocked (k := { s.pocket p with timerRunning := false }) h).2]
      simp [ho]
  | true =>
    cases hd : (s.pocket p).door with
    | opened =>
      have hends : pocketTimerEnds p s = modPocket p (fun k => { k with timerRunning := false }) s := by simp [pocketTimerEnds, hdoor, hd]
      rw [hends, settleReader_of_busy (s := modPocket p _ s) (he.busy.of_rds rfl rfl)]
      exact ⟨_, rfl, (modPocket_alike hlen).congr Pocket.verified, fun _ => nofun, nofun, fun q hq => pocket_modPocket_ne hq _ _, rfl⟩
    | closed =>
      have hends : pocketTimerEnds p s = modPocket p (fun k => if k.state = .openForStock then k.toEmpty else k.toStocked) s := by
        simp only [pocketTimerEnds, hdoor, hd, Bool.not_true, Bool.false_eq_true, if_false]
        refine modPocket_congr ?_
        rcases hst with h | ⟨h, -⟩ <;> simp [h]
      rw [hends, settleReader_of_busy (s := modPocket p _ s) (he.busy.of_rds rfl rfl)]
      have hself := modPocket_alike (s := s) (p := p) (f := fun k => if k.state = .openForStock then k.toEmpty else k.toStocked) hlen
      refine ⟨_, rfl, (hself.congr Pocket.verified).trans ?_, fun _ _ => ⟨rfl, (hself.congr Pocket.latch).trans ?_,
        (hself.congr Pocket.timer).trans ?_, fun h => (hself.congr Pocket.state).trans ?_,
        fun h => ⟨(hself.congr Pocket.state).trans ?_, (hself.congr Pocket.openRelease).trans ?_, (hself.congr Pocket.contents).trans ?_⟩⟩, nofun,
        fun q hq => pocket_modPocket_ne hq _ _, rfl⟩
      · split <;> rfl
      · split <;> rfl
      · split <;> rfl
      · rw [if_pos h]; rfl
      all_goals rw [if_neg (by simp [h])]; rfl

/-! ### A pocket goes to FAULT (R27, R31) -/

/-- R27, R31: the pocket in FAULT, its state saved. -/
def Pocket.faulted (k : Pocket) : Pocket := { k with saved := some k.state, state := .fault }

theorem failRead_none (hq : p ∉ s.rds.queue) (hf : s.rds.inFlight.map (·.pocket) ≠ some p) : failRead p s = s :=
  if_neg (by simp [hq, hf])

theorem disturbStage_none (h : s.slk.stage = none) : disturbStage p s = s := by
  simp [disturbStage, h]

theorem failGiverAt_none (h : ∀ g ∈ s.cue.givers, g.pocket ≠ some p) : failGiverAt p s = s := by
  have hn : s.cue.givers.find? (fun g => decide (g.pocket = some p)) = none := List.find?_eq_none.2 fun g hg => by simpa using h g hg
  rw [failGiverAt, hn]

theorem failTakerAt_none (h : ∀ k ∈ s.cue.takers, k.targeting = true → k.pocket ≠ p) : failTakerAt p s = s := by
  have hn : s.cue.takers.find? (fun k => k.targeting && decide (k.pocket = p)) = none :=
    List.find?_eq_none.2 fun k hk => by
      cases ht : k.targeting
      · simp
      · simpa using h k hk ht
  rw [failTakerAt, hn]

/-- R27: a fault of a pocket that no read, waiting adoption or stage concerns, before its transfers end. -/
theorem pocketFault_eq (hst : (s.pocket p).state ≠ .fault) (hq : p ∉ s.rds.queue) (hf : s.rds.inFlight.map (·.pocket) ≠ some p)
    (hw : s.cue.waiting = []) (hg : s.slk.stage = none) :
    pocketFault p s = failTakerAt p (failGiverAt p (modPocket p Pocket.faulted s)) := by
  rw [pocketFault, if_neg hst]
  have hmod : modPocket p (fun k => { k with saved := some k.state, state := .fault, readRequested := k.readRequested && !(s.cue.waiting.any (fun w => w.isAt (.pocket p))) }) s =
      modPocket p Pocket.faulted s := modPocket_congr (by simp [hw, Pocket.faulted])
  dsimp only
  rw [hmod, dropWaitingAt_nil (s := modPocket p Pocket.faulted s) hw, disturbStage_none (s := modPocket p Pocket.faulted s) hg,
    failRead_none (s := modPocket p Pocket.faulted s) hq hf]

/-- R27, R132: the giver transfer of pocket p withdrawn by a fault of the pocket, the tool staying there. -/
def State.giverFailed (s : State) (p : PocketNo) (g : Giver) (e : Entry) : State :=
  modPocket p (fun k => { k with saved := some .stocked })
    (closeGiver g (putEntry { e with custody := .stocked } { s with hli := { s.hli with urgent := s.hli.urgent ++
      [⟨.lapse g.seeker g.seek .withdrawn, .giver g.seeker g.seek⟩] } }))

theorem failGiverAt_eq {g : Giver} (hfind : s.cue.givers.find? (fun x => decide (x.pocket = some p)) = some g)
    (hof : s.giverOf? g.tool = some g) (he : s.entry? g.tool = some e)
    (hst : (g.state = .offered ∧ e.custody = .reserved) ∨ (g.state = .releasing ∧ e.custody = .releasing))
    (hpk : (s.pocket p).state = .fault) (hu : s.hli.urgent.length < 8) (hn : s.stc.node ≠ .idConflict) :
    failGiverAt p s = s.giverFailed p g e := by
  have hpg : g.pocket = some p := by simpa using List.find?_some hfind
  have hlapse : lapseSeeker g s = { s with hli := { s.hli with urgent := s.hli.urgent ++
      [⟨.lapse g.seeker g.seek .withdrawn, .giver g.seeker g.seek⟩] } } := sendLapse_eq hu hn _ _ _ _
  have hrestock : restock g.tool (lapseSeeker g s) = putEntry { e with custody := .stocked } (lapseSeeker g s) :=
    restock_eq (by rw [hlapse]; exact he) (hst.imp And.right And.right)
  have hw : withdrawGiver .bus g.tool s = closeGiver g (putEntry { e with custody := .stocked } (lapseSeeker g s)) := by
    rcases hst with ⟨hst, -⟩ | ⟨hst, -⟩
    · have hun : unreserve p (lapseSeeker g s) = lapseSeeker g s := if_neg (by rw [hlapse]; show (s.pocket p).state ≠ _; simp [hpk])
      simp only [withdrawGiver, hof, hst, endOffered, hpg, hun, hrestock]
    · simp only [withdrawGiver, hof, hst, hrestock]
  rw [failGiverAt, hfind, State.giverFailed, ← hlapse]
  exact congrArg (modPocket p _) hw

/-- What a withdrawn giver transfer leaves, part by part. -/
structure State.GiverFailed (s t : State) (p : PocketNo) (g : Giver) (e : Entry) : Prop where
  pocket : ({ s.pocket p with saved := some .stocked } : Pocket).Alike (t.pocket p)
  pockets : ∀ q, q ≠ p → t.pocket q = s.pocket q
  entry : t.entry? g.tool = some { e with custody := .stocked }
  others : ∀ v, v ≠ g.tool → t.entry? v = s.entry? v
  cue : t.cue = { s.cue with givers := s.cue.givers.filter (fun x => !(x.seeker == g.seeker && x.seek == g.seek)),
                             lapsed := addLapsed (g.seeker, g.seek) s.cue.lapsed }
  giver : t.giver? g.seeker g.seek = none
  hli : t.hli = { s.hli with urgent := s.hli.urgent ++ [⟨.lapse g.seeker g.seek .withdrawn, .giver g.seeker g.seek⟩] }
  modules : t.pkc.modules = s.pkc.modules
  rds : t.rds = s.rds
  pru : t.pru = s.pru
  slk : t.slk = s.slk
  cck : t.cck = s.cck
  stc : t.stc = s.stc

theorem giverFailed_spec {g : Giver} (hlen : p < s.pkc.pockets.length) (hreg : s.trg.entries.Pairwise (fun a b => a.tool < b.tool))
    (he : s.entry? g.tool = some e) : s.GiverFailed (s.giverFailed p g e) p g e := by
  have hut : ({ e with custody := .stocked } : Entry).tool = g.tool := tool_of_entry? (e := e) he
  exact
    { pocket := modPocket_alike (f := fun k => { k with saved := some .stocked }) (s := closeGiver g (putEntry { e with custody := .stocked }
        { s with hli := { s.hli with urgent := s.hli.urgent ++ [⟨.lapse g.seeker g.seek .withdrawn, .giver g.seeker g.seek⟩] } })) hlen
      pockets := fun q hq => pocket_modPocket_ne hq _ _
      entry := entry?_putEntry_of_tool (s := s) hreg hut
      others := fun v hv => entry?_putEntry_ne (s := s) hreg (by rwa [hut])
      cue := rfl
      giver := giver?_closeGiver g s
      hli := rfl
      modules := rfl
      rds := rfl
      pru := rfl
      slk := rfl
      cck := rfl
      stc := rfl }

/-! ### Lock faults and their end (R30, R31) -/

theorem exec_lockFault (hs : s.running = true) (hp : s.present p = true) (ha : s.moduleActive p = true) (hl : s.hasLock p = true)
    (hf : (s.pocket p).state ≠ .fault) : exec (.lockFault p) s = .next (settleReader (modPocket p Pocket.relatched (pocketFault p s))) :=
  congrArg Host.Outcome.next (if_pos (by simp [hs, hp, ha, hl, hf]))

theorem exec_latchReached (hs : s.running = true) (hp : s.present p = true) (ha : s.moduleActive p = true)
    (hf : (s.pocket p).state = .fault) : exec (.latchPositionReached p) s = .next (settleReader (modPocket p Pocket.leaveFault s)) :=
  congrArg Host.Outcome.next (if_pos (by simp [hs, hp, ha, hf]))

theorem relatched_indicator (k : Pocket) (i : Indicator) : ({ k with indicator := i } : Pocket).relatched = { k.relatched with indicator := i } := by
  by_cases h : k.state = .fault
  · cases hs : k.saved with
    | none => simp [Pocket.relatched, h, hs]
    | some x =>
      simp only [Pocket.relatched, h, hs]
      rfl
  · simp [Pocket.relatched, h]

theorem leaveFault_eq {k : Pocket} {x : PocketState} (h : k.state = .fault) (hx : k.saved = some x) :
    k.leaveFault = { k with state := x, saved := none, verified := false, latch := { k with state := x }.calledLatch } := by
  simp only [Pocket.leaveFault, h, hx]
  rfl

/-- Settles O22, by the transfer of the pocket; the positions by its state. -/
theorem latchFaultsAndReturns : Obligations.LatchFaultsAndReturns := by
  refine ⟨fun p s hs hp ha hl he => ⟨fun hf hq hw hst hgiv htak => ?faults, fun g e hrel ho hq hw hst htak hb hfind hof hgs hent hcu hu hn => ?releasing,
    fun x hf hx => ?returns⟩, fun k => ⟨?_, ?_, ?_, ?_, ?_, ?_⟩⟩
  case faults =>
    have hlen : p < s.pkc.pockets.length := lt_of_pocket_present (State.present_iff.1 hp).2
    have hpf : pocketFault p s = modPocket p Pocket.faulted s := by
      rw [pocketFault_eq hf hq he.notInFlight hw hst, failGiverAt_none (s := modPocket p Pocket.faulted s) hgiv,
        failTakerAt_none (s := modPocket p Pocket.faulted s) htak]
    rw [exec_lockFault hs hp ha hl hf, hpf, modPocket_modPocket hlen relatched_indicator, settleReader_of_busy (s := modPocket p _ s) (he.busy.of_rds rfl rfl)]
    exact congrArg _ (modPocket_congr rfl)
  case releasing =>
    have hlen : p < s.pkc.pockets.length := lt_of_pocket_present (State.present_iff.1 hp).2
    have hf : (s.pocket p).state ≠ .fault := by simp [hrel]
    set x := modPocket p Pocket.faulted s with hx
    have hxk : (s.pocket p).faulted.Alike (x.pocket p) := modPocket_alike hlen
    have hpf : pocketFault p s = x.giverFailed p g e := by
      rw [pocketFault_eq hf hq he.notInFlight hw hst, ← hx, failGiverAt_eq (s := x) hfind hof hent (.inr ⟨hgs, hcu⟩) (hxk.congr Pocket.state) hu hn]
      exact failTakerAt_none (s := x.giverFailed p g e) htak
    have hy := giverFailed_spec (s := x) (p := p) (by simpa [hx] using hlen) hb.register hent
    set y := x.giverFailed p g e with hyd
    have hself : ({ (s.pocket p).faulted with saved := some .stocked } : Pocket).relatched.Alike ((modPocket p Pocket.relatched y).pocket p) :=
      ((hxk.map (f := fun k => { k with saved := some .stocked })).trans hy.pocket).modPocket (by simpa [hyd, State.giverFailed, closeGiver, putEntry, hx] using hlen)
        relatched_indicator
    have hbusy : (modPocket p Pocket.relatched y).readerBusy :=
      he.busy.of_rds (by rw [(modPocket_frame _ _ _).2.1, hy.rds]; rfl) (by rw [(modPocket_frame _ _ _).2.1, hy.rds]; rfl)
    rw [exec_lockFault hs hp ha hl hf, hpf, settleReader_of_busy hbusy]
    refine ⟨_, rfl, hself.congr Pocket.state, hself.congr Pocket.saved, (hself.congr Pocket.latch).trans (if_neg (by simp [Pocket.faulted, ho])),
      hself.congr Pocket.contents, fun q hq => ?_, hy.entry, hy.others, hy.giver, ?_, hy.hli, ?_, hy.rds, hy.pru, hy.slk, hy.cck, hy.stc⟩
    · rw [pocket_modPocket_ne hq, hy.pockets q hq, hx, pocket_modPocket_ne hq]
    · rw [(modPocket_frame _ _ _).2.2.2.1, hy.cue]
      exact addLapsed_getLast? _ _
    · rw [(modPocket_frame _ _ _).2.2.2.1, hy.cue]
      rfl
  case returns =>
    have hlen : p < s.pkc.pockets.length := lt_of_pocket_present (by simp [hf])
    rw [exec_latchReached hs hp ha hf, settleReader_of_busy (s := modPocket p _ s) (he.busy.of_rds rfl rfl)]
    have hself := modPocket_alike (s := s) (f := Pocket.leaveFault) hlen
    rw [leaveFault_eq hf hx] at hself
    exact ⟨_, rfl, hself.congr Pocket.state, hself.congr Pocket.saved, hself.congr Pocket.verified, fun q hq => pocket_modPocket_ne hq _ _, rfl⟩
  · rintro (h | h | h | h) <;> simp [Pocket.calledLatch, h]
  · rintro (h | h) <;> simp [Pocket.calledLatch, h]
  · intro h
    simp [Pocket.calledLatch, h]
  · intro h
    simp [Pocket.calledLatch, h]
  · intro x h hx
    simp [Pocket.relatched, h, hx]
  · intro h
    unfold Pocket.relatched
    cases hst : k.state <;> simp_all

end Sys2Proof.Machine

/-! PROOFS. The scanner and the presses (O24). -/

namespace Sys2Proof.Machine

open Sys2Proof

variable {s t : State} {p q : PocketNo} {u : ToolId} {e : Entry}

/-! ### The press the scanner serves next (R39) -/

theorem nextPress_some (h : s.nextPress = some p) : (s.pocket p).press = true ∧ p < 48 := by
  obtain ⟨i, -, hi⟩ := List.mem_map.1 (List.mem_of_find?_eq_some h)
  exact ⟨by simpa using List.find?_some h, hi ▸ Nat.mod_lt _ (by decide)⟩

/-- The place of p in the scanner's walk of the 48 pockets from a start. -/
theorem walk_place {start i p : Nat} (hi : i < 48) (h : (start % 48 + i) % 48 = p) : (p + 48 - start % 48) % 48 = i := by
  omega

theorem nextPress_first (hw : s.pkc.walk = none) (h : s.nextPress = some p) {i : Nat}
    (hi : i < (p + 48 - (s.pkc.lastServed + 1) % 48) % 48) : (s.pocket ((s.pkc.lastServed + 1 + i) % 48)).press = false := by
  simp only [State.nextPress, hw] at h
  obtain ⟨-, j, hj, hjp, hbefore⟩ := List.find?_eq_some_iff_getElem.1 h
  simp only [List.length_map, List.length_range] at hj
  simp only [List.getElem_map, List.getElem_range] at hjp hbefore
  have hij : i < j := walk_place hj hjp ▸ hi
  have := hbefore i hij
  simpa [Nat.add_mod] using this

theorem exec_pressServed (hs : s.running = true) (h : s.nextPress = some p) (key : Bool) :
    exec (.pressServed .notLatched key) s = .next (dropPress p s) ∧
      exec (.pressServed .latched key) s = .next (settleReader (pressEffect p key (consumePress p s))) ∧
      exec (.pressServed .noAnswer key) s = .next (settleReader (silence (p / 8) (dropPress p s))) := by
  have key' : ∀ a, exec (.pressServed a key) s = .next _ := fun a => congrArg Host.Outcome.next (if_pos hs)
  rw [key', key', key', h]
  exact ⟨rfl, rfl, rfl⟩

/-! ### What serving a press keeps (R39 to R41) -/

/-- What every effect of a press keeps: the other pockets, the press, the last pocket served, a read elsewhere and the sweep. -/
structure State.PressKeeps (s t : State) (p : PocketNo) : Prop where
  pockets : ∀ q, q ≠ p → t.pocket q = s.pocket q
  press : (t.pocket p).press = (s.pocket p).press
  length : t.pkc.pockets.length = s.pkc.pockets.length
  served : t.pkc.lastServed = s.pkc.lastServed
  inFlight : s.rds.inFlight.map (·.pocket) ≠ some p → t.rds.inFlight = s.rds.inFlight
  sweep : t.rds.sweep = s.rds.sweep

theorem State.PressKeeps.refl (s : State) (p : PocketNo) : s.PressKeeps s p := ⟨fun _ _ => rfl, rfl, rfl, rfl, fun _ => rfl, rfl⟩

theorem State.PressKeeps.trans {x : State} (h : s.PressKeeps t p) (h' : t.PressKeeps x p) : s.PressKeeps x p :=
  ⟨fun q hq => (h'.pockets q hq).trans (h.pockets q hq), h'.press.trans h.press, h'.length.trans h.length, h'.served.trans h.served,
    fun hf => (h'.inFlight (by rw [h.inFlight hf]; exact hf)).trans (h.inFlight hf), h'.sweep.trans h.sweep⟩

theorem State.PressKeeps.of_pkc (h : t.pkc = s.pkc) (hr : t.rds = s.rds) : s.PressKeeps t p :=
  ⟨fun q _ => State.pocket_of_pkc h q, by rw [State.pocket_of_pkc h], by rw [h], by rw [h], fun _ => by rw [hr], by rw [hr]⟩

theorem modPocket_keepsPress {f : Pocket → Pocket} (hp : p < s.pkc.pockets.length) (hf : ∀ k, (f k).press = k.press := by intros; rfl) :
    s.PressKeeps (modPocket p f s) p :=
  ⟨fun _ hq => pocket_modPocket_ne hq _ _, by rw [pocket_modPocket_self _ hp]; exact hf _, by simp, rfl, fun _ => rfl, rfl⟩

theorem requestRead_keepsPress (hp : p < s.pkc.pockets.length) : s.PressKeeps (requestRead p s) p :=
  ⟨fun _ hq => requestRead_pocket_ne hq, by rw [requestRead_pocket_self hp], by rw [requestRead_pkc]; simp, by rw [requestRead_pkc]; rfl,
    fun _ => by simp, by simp⟩

theorem closing_keepsPress (hp : p < s.pkc.pockets.length) : s.PressKeeps (closing p s) p := by
  have key : ∀ f : Pocket → Pocket, (∀ k, (f k).press = k.press) → s.PressKeeps (requestRead p (modPocket p f s)) p := fun f hf =>
    (modPocket_keepsPress hp hf).trans (requestRead_keepsPress (by simpa using hp))
  unfold closing
  dsimp only
  cases (s.pocket p).state with
  | empty | openForStock => exact key _ fun _ => rfl
  | stocked =>
    dsimp only
    split
    · exact key _ fun _ => rfl
    · exact key _ fun _ => rfl
  | checking =>
    dsimp only
    split
    · exact .refl s p
    · exact requestRead_keepsPress hp
  | reserved | releasing | awaiting | wrongTool => exact requestRead_keepsPress hp
  | fault | absent => exact .refl s p

theorem openLatch_served (p : PocketNo) (s : State) : (openLatch p s).pkc.lastServed = s.pkc.lastServed := by
  unfold openLatch
  split
  · rfl
  · dsimp only
    split
    · rfl
    · rw [unlatchOpens, (disturbStage_frame _ _).2.1, withdrawReads_pkc]
      show (clearMark p _ _).pkc.lastServed = _
      rw [clearMark_pkc]
      split <;> rfl

theorem openLatch_keepsPress (hp : p < s.pkc.pockets.length) : s.PressKeeps (openLatch p s) p := by
  obtain ⟨-, hl, -, hw, hf⟩ := openLatch_rest p s
  refine ⟨fun q hq => openLatch_pocket_ne hq, ?_, hl, openLatch_served p s, hf, hw⟩
  by_cases h : (s.pocket p).latch = .opened
  · rw [openLatch, if_pos h]
  · rw [openLatch_pocket_self hp h]

theorem startRelease_keepsPress (hp : p < s.pkc.pockets.length) : s.PressKeeps (startRelease p s) p :=
  (modPocket_keepsPress hp).trans (openLatch_keepsPress (by simpa using hp))

theorem pressEffect_keeps (hp : p < s.pkc.pockets.length) (key : Bool) : s.PressKeeps (pressEffect p key s) p := by
  have hclose : s.PressKeeps (pressCloses p s) p := by
    unfold pressCloses
    split
    · exact .refl s p
    · exact closing_keepsPress hp
  have hask : ∀ u, s.PressKeeps (askRelease p u s) p := fun u => by
    unfold askRelease
    split
    · exact startRelease_keepsPress hp
    · exact .of_pkc (by simp) (by simp)
  unfold pressEffect
  dsimp only
  split
  · exact .refl s p
  · cases (s.pocket p).state with
    | empty => exact (modPocket_keepsPress hp).trans (openLatch_keepsPress (by simpa using hp))
    | stocked =>
      dsimp only
      split
      · exact hclose
      · split
        · split
          · exact hask _
          · exact .refl s p
        · exact .refl s p
    | openForStock | awaiting | wrongTool | releasing => exact hclose
    | checking =>
      dsimp only
      split
      · exact .refl s p
      · exact requestRead_keepsPress hp
    | reserved | fault | absent => exact .refl s p

/-- The pocket whose press the scanner has consumed, and the rest of the state. -/
theorem consumePress_pocket_self (hp : p < s.pkc.pockets.length) :
    ({ s.pocket p with press := false } : Pocket).Alike ((consumePress p s).pocket p) :=
  modPocket_alike (f := fun k => { k with press := false }) (s := s) hp

theorem consumePress_pocket_ne (h : q ≠ p) : (consumePress p s).pocket q = s.pocket q := pocket_modPocket_ne h (fun k => { k with press := false }) s

theorem Pocket.press_restored {k k' : Pocket} (hk : k.press = true) (h : ({ k with press := false } : Pocket).Alike k') :
    { k' with press := true, indicator := k.indicator } = k := by
  obtain ⟨i, rfl⟩ := h
  rw [← hk]

/-- R40, R41: a held pocket without the key, a RESERVED one, and a READY tool without the key are left as they are. -/
theorem pressEffect_none {key : Bool} (h : ((s.pocket p).hold = true ∧ key = false) ∨ (s.pocket p).state = .reserved ∨
    ((s.pocket p).state = .stocked ∧ (s.pocket p).openRelease = false ∧ key = false ∧
      ∃ u e, (s.pocket p).contents = some u ∧ s.entry? u = some e ∧ e.condition = .ready)) : pressEffect p key s = s := by
  unfold pressEffect
  rcases h with ⟨hh, hk⟩ | hst | ⟨hst, ho, hk, u, e, hc, he, hcond⟩
  · simp [hh, hk]
  · simp [hst]
  · simp [hst, ho, hk, hc, he, hcond]

theorem pressEffect_acts {key : Bool} (h : (s.pocket p).hold = false ∨ key = true) : ((s.pocket p).hold && !key) = false := by
  rcases h with h | h <;> simp [h]

/-- R41: a press at an EMPTY pocket. -/
theorem pressEffect_empty {key : Bool} (h : (s.pocket p).hold = false ∨ key = true) (hst : (s.pocket p).state = .empty) :
    pressEffect p key s = openLatch p (modPocket p (fun k => { k with state := .openForStock, timer := some 120, timerRunning := true }) s) := by
  simp [pressEffect, pressEffect_acts h, hst]

/-- R40: a press at a CHECKING pocket without a read requested. -/
theorem pressEffect_checking {key : Bool} (h : (s.pocket p).hold = false ∨ key = true) (hst : (s.pocket p).state = .checking)
    (hr : (s.pocket p).readRequested = false) : pressEffect p key s = requestRead p s := by
  simp [pressEffect, pressEffect_acts h, hst, hr]

/-- R41, R42: a press, or the key with it, that asks for a release as AWAY. -/
theorem pressEffect_asks {key : Bool} (hst : (s.pocket p).state = .stocked) (ho : (s.pocket p).openRelease = false)
    (hc : (s.pocket p).contents = some u) (he : s.entry? u = some e)
    (h : key = true ∨ ((s.pocket p).hold = false ∧ s.isCrib p = true ∧ e.condition ≠ .ready)) :
    pressEffect p key s = askRelease p u s := by
  have htool := tool_of_entry? he
  rcases h with h | ⟨hh, hcr, hcond⟩
  · simp [pressEffect, hst, ho, hc, he, h, htool]
  · simp [pressEffect, hst, ho, hc, he, hh, hcr, hcond, htool]

/-- Settles O24, by the answer of the scanner's check and the pocket. -/
theorem pressesAreServed : Obligations.PressesAreServed := by
  refine ⟨fun p s => ⟨fun hs hp ha hf => congrArg Host.Outcome.next (if_pos (by simp [hs, hp, ha, hf])),
      fun h => congrArg Host.Outcome.next (if_neg (by rcases h with h | h <;> simp [h])),
      fun hw h => ⟨(nextPress_some h).1, (nextPress_some h).2, fun i hi => nextPress_first hw h hi⟩, fun h a key => ?idle⟩,
    fun p key s hs h hl he => ⟨⟨_, (exec_pressServed hs h key).1, ?dropped, ?_, fun q hq => consumePress_pocket_ne hq, rfl, rfl, ?silent⟩, ?latched⟩,
    fun p key u e s hs h hl he hst ho hlatch hc hent htool hask => ?asks⟩
  case idle =>
    show Host.Outcome.next _ = _
    rw [h]
    exact congrArg _ (ite_self s)
  case silent =>
    have hrun : (dropPress p s).running = true := hs
    exact (exec_pressServed hs h key).2.2.trans (congrArg Host.Outcome.next (if_pos hrun).symm)
  case latched =>
    obtain ⟨hpress, hlt⟩ := nextPress_some h
    have hlen : p < s.pkc.pockets.length := hl ▸ hlt
    rw [(exec_pressServed hs h key).2.1]
    set x := consumePress p s with hx
    have hxk := consumePress_pocket_self hlen
    rw [← hx] at hxk
    have hxlen : p < x.pkc.pockets.length := by simpa [hx, consumePress] using hlen
    have hkeep := pressEffect_keeps hxlen key
    have hst : (x.pocket p).state = (s.pocket p).state := hxk.congr Pocket.state
    have hhold : (x.pocket p).hold = (s.pocket p).hold := hxk.congr Pocket.hold
    rw [settleReader_of_busy (he.busy.of_rds (hkeep.inFlight he.notInFlight) hkeep.sweep)]
    refine ⟨_, rfl, hkeep.served, hkeep.press.trans (hxk.congr Pocket.press), fun q hq => (hkeep.pockets q hq).trans (consumePress_pocket_ne hq),
      by simp [hx], by simp [hx], by simp [hx], by simp [hx], by simp [hx], fun he' hact hlatch => ?_, fun hnone => ?_, fun hc hr hact => ?_⟩
    · set y := modPocket p (fun k => { k with state := .openForStock, timer := some 120, timerRunning := true }) x with hy
      have hyk := hxk.modPocket (f := fun k => { k with state := .openForStock, timer := some 120, timerRunning := true }) hxlen
      have hylatch : (y.pocket p).latch ≠ .opened := by rw [hyk.congr Pocket.latch]; simp [hlatch]
      rw [pressEffect_empty (by rwa [hhold]) (hst.trans he'), openLatch_pocket_self (by simpa [hy] using hxlen) hylatch]
      refine ⟨hyk.congr Pocket.state, rfl, hyk.congr Pocket.timer, hyk.congr Pocket.timerRunning, ?_⟩
      have hver : (y.pocket p).verified = (s.pocket p).verified := hyk.congr Pocket.verified
      rw [show y.hasDoor p = s.hasDoor p from rfl]
      simp only [hver]
    · have hsame : pressEffect p key x = x := pressEffect_none (by
        rw [hst, hhold, hxk.congr Pocket.openRelease, hxk.congr Pocket.contents]
        exact hnone)
      rw [hsame]
      exact ⟨Pocket.press_restored hpress hxk, rfl, rfl, rfl⟩
    · have hpres : x.present p = true := State.present_iff.2 ⟨hlt, by rw [hst, hc]; decide⟩
      rw [pressEffect_checking (by rwa [hhold]) (hst.trans hc) ((hxk.congr Pocket.readRequested).trans hr)]
      exact ⟨(hxk.requestRead hxlen).congr Pocket.state |>.trans hc, (hxk.requestRead hxlen).congr Pocket.readRequested,
        mem_requestRead hpres he.notInFlight⟩
  case asks =>
    obtain ⟨hpress, hlt⟩ := nextPress_some h
    have hlen : p < s.pkc.pockets.length := hl ▸ hlt
    rw [(exec_pressServed hs h key).2.1]
    set x := consumePress p s with hx
    have hxk := consumePress_pocket_self hlen
    rw [← hx] at hxk
    have hxlen : p < x.pkc.pockets.length := by simpa [hx, consumePress] using hlen
    have hkeep := pressEffect_keeps hxlen key
    have heff : pressEffect p key x = askRelease p u x :=
      pressEffect_asks ((hxk.congr Pocket.state).trans hst) ((hxk.congr Pocket.openRelease).trans ho) ((hxk.congr Pocket.contents).trans hc) hent
        (by rw [hxk.congr Pocket.hold]; exact hask)
    have hroom : x.departureRoom = s.departureRoom := departureRoom_of_openRelease rfl rfl (by simp [hx, consumePress]) fun q => by
      by_cases hq : q = p
      · subst hq
        exact hxk.congr Pocket.openRelease
      · rw [hx, consumePress_pocket_ne hq]
    rw [settleReader_of_busy (he.busy.of_rds (hkeep.inFlight he.notInFlight) hkeep.sweep)]
    refine ⟨_, rfl, fun hd => ?_, fun hd => ?_, fun q hq => (hkeep.pockets q hq).trans (consumePress_pocket_ne hq), by simp [hx], by simp [hx],
      by simp [hx], by simp [hx], by simp [hx]⟩
    · obtain ⟨v, r, hal⟩ := startRelease_alike hxk hxlen hlatch
      rw [heff, askRelease, if_pos (hroom.trans hd)]
      exact ⟨(hal.congr Pocket.state).trans hst, hal.congr Pocket.openRelease, hal.congr Pocket.latch, hal.congr Pocket.timer,
        hal.congr Pocket.timerRunning, (hal.congr Pocket.contents).trans hc⟩
    · rw [heff, askRelease, if_neg (by simp [hroom, hd])]
      have hpk : (noticeLimit p u x).pocket p = x.pocket p := State.pocket_of_pkc (by simp) p
      rw [hpk]
      exact ⟨Pocket.press_restored hpress hxk, fun hm hn => pushNotice_notices (s := x) hm hn⟩
  case dropped =>
    obtain ⟨hpress, hlt⟩ := nextPress_some h
    exact Pocket.press_restored hpress (consumePress_pocket_self (s := s) (hl ▸ hlt))
  exact (consumePress_pocket_self (s := s) (hl ▸ (nextPress_some h).2)).congr Pocket.press

end Sys2Proof.Machine

/-! PROOFS. Doors: openings and closings by the pocket, and the sweep that they suspend and resume (O23). -/

namespace Sys2Proof.Machine

open Sys2Proof

variable {s t : State} {p q : PocketNo} {c : Nat} {x : SweepStatus}

/-! ### An opening (R32, R51, R160) -/

theorem pushNotice_stage (n : Notice) (s : State) : (pushNotice n s).slk.stage = s.slk.stage := by
  have how : ∀ y : State, (owePulse y).slk.stage = y.slk.stage := fun y => by
    unfold owePulse
    split
    · split <;> rfl
    · rfl
  unfold pushNotice
  split
  · rfl
  · rw [how]
    split
    · rfl
    · split <;> rfl

theorem clearMark_stage (p : PocketNo) (u : Option ToolId) (s : State) : (clearMark p u s).slk.stage = s.slk.stage := by
  unfold clearMark
  split
  · exact pushNotice_stage _ _
  · rfl

/-- The state in which an opening looks at the stage. -/
theorem openDoor_eq (p : PocketNo) (s : State) : ∃ y : State, openDoor p s = disturbStage p y ∧
    y.slk = (clearMark p (s.pocket p).contents s).slk := by
  refine ⟨_, rfl, ?_⟩
  simp

theorem openDoor_notices (p : PocketNo) (s : State) : (openDoor p s).slk.notices = (clearMark p (s.pocket p).contents s).slk.notices := by
  obtain ⟨y, hy, hslk⟩ := openDoor_eq p s
  rw [hy, (disturbStage_slk p y).1, ← hslk]

theorem openDoor_stage {g : Stage} (h : s.slk.stage = some g) :
    (openDoor p s).slk.stage = some (if g.pocket = p then { g with disturbed := true } else g) := by
  obtain ⟨y, hy, hslk⟩ := openDoor_eq p s
  have hg : y.slk.stage = some g := by rw [hslk, clearMark_stage, h]
  rw [hy, disturbStage, hg]
  dsimp only
  split
  · rfl
  · exact hg

/-- R51: an opening leaves a read under way for another pocket. -/
theorem openDoor_rds (hf : s.rds.inFlight.map (·.pocket) ≠ some p) : (openDoor p s).rds =
    { s.rds with queue := s.rds.queue.filter (· != p), awaiting := s.rds.awaiting && !decide (s.rds.cursor = p) } := by
  have h : (openDoor p s).rds = (withdrawReads p s).rds := (opening_rest _ _).1
  rw [h, withdrawReads_rds, if_neg hf]

theorem openDoor_modules (p : PocketNo) (s : State) : (openDoor p s).pkc.modules = s.pkc.modules := (opening_rest _ _).2.2.1

theorem openDoor_cue (p : PocketNo) (s : State) :
    (openDoor p s).cue = { s.cue with waiting := s.cue.waiting.filter (fun w => !w.isAt (.pocket p)) } := (opening_rest _ _).2.1

theorem doorEvents_iff : s.doorEvents p = true ↔ s.running = true ∧ s.present p = true ∧ s.moduleActive p = true ∧ s.hasDoor p = true := by
  simp [State.doorEvents, and_assoc]

theorem exec_doorOpening (h : s.doorEvents p = true) : exec (.doorOpening p) s = .next (settleReader (reportQuiet (openDoor p s))) :=
  congrArg Host.Outcome.next (if_pos h)

theorem exec_doorClosing (h : s.doorEvents p = true) (hd : (s.pocket p).door = .opened) : exec (.doorClosing p) s =
    .next (settleReader (reportQuiet (closing p (modPocket p (fun k => { k with door := .closed }) s)))) := by
  have hc : closeDoor p s = closing p (modPocket p (fun k => { k with door := .closed }) s) := if_pos hd
  rw [← hc]
  exact congrArg Host.Outcome.next (if_pos h)

theorem reportQuiet_idle (h : s.rds.sweep = .idle) : reportQuiet s = s := by
  simp [reportQuiet, h]

/-! ### The sweep suspended (R63) -/

/-- R45: one door that stands open. -/
theorem quiet_of_opened (hp : s.present p = true) (ha : s.moduleActive p = true) (hd : (s.pocket p).door = .opened) : s.quiet = false := by
  rw [Bool.eq_false_iff]
  intro hq
  exact absurd ((quiet_iff.1 hq p (State.present_iff.1 hp).1 hp ha).symm.trans hd) (by decide)

theorem reportQuiet_suspends (hw : s.rds.sweep = .active) (hq : s.quiet = false) : reportQuiet s = suspendSweep s := by
  simp [reportQuiet, hw, hq]

theorem reportQuiet_resumes (hw : s.rds.sweep = .suspended) (hq : s.quiet = true) :
    reportQuiet s = { s with rds := { s.rds with sweep := .active } } := by
  simp [reportQuiet, hw, hq]

theorem suspendSweep_awaiting (ha : s.rds.awaiting = true) (hq : s.rds.cursor ∈ s.rds.queue) : (suspendSweep s).rds =
    { s.rds with
      sweep := .suspended
      awaiting := false
      queue := if (s.pocket s.rds.cursor).readRequested || s.trg.checks.any (fun c => c.pocket == s.rds.cursor) then s.rds.queue
        else s.rds.queue.filter (· != s.rds.cursor) } :=
  congrArg State.rds (if_pos (by simp [ha, hq]))

theorem suspendSweep_alone (ha : s.rds.awaiting = true) (hq : s.rds.cursor ∈ s.rds.queue)
    (hr : (s.pocket s.rds.cursor).readRequested = false) (hc : ∀ x ∈ s.trg.checks, x.pocket ≠ s.rds.cursor) :
    (suspendSweep s).rds = { s.rds with sweep := .suspended, awaiting := false, queue := s.rds.queue.filter (· != s.rds.cursor) } := by
  rw [suspendSweep_awaiting ha hq, if_neg (by simpa [hr] using hc)]

theorem suspendSweep_joined (ha : s.rds.awaiting = true) (hq : s.rds.cursor ∈ s.rds.queue)
    (h : (s.pocket s.rds.cursor).readRequested = true ∨ ∃ x ∈ s.trg.checks, x.pocket = s.rds.cursor) :
    (suspendSweep s).rds = { s.rds with sweep := .suspended, awaiting := false } := by
  rw [suspendSweep_awaiting ha hq, if_pos (by simpa using h)]

theorem suspendSweep_inFlight (hq : s.rds.cursor ∉ s.rds.queue) : (suspendSweep s).rds = { s.rds with sweep := .suspended } := by
  simp [suspendSweep, hq]

theorem suspendSweep_reader (s : State) : (suspendSweep s).rds.inFlight = s.rds.inFlight ∧ (suspendSweep s).rds.sweep = .suspended := by
  unfold suspendSweep
  dsimp only
  split <;> exact ⟨rfl, rfl⟩

/-! ### The sweep resumed (R60, R63) -/

theorem readerStep_inFlight (hf : s.rds.inFlight.isSome = true) (h : readerStep s = some t) :
    s.rds.sweep = .active ∧ s.rds.awaiting = false ∧ t = visit s := by
  obtain ⟨r, hr⟩ := Option.isSome_iff_exists.1 hf
  unfold readerStep at h
  rw [hr] at h
  split at h
  · exact absurd h (by simp)
  · dsimp only at h
    split at h
    · next hc =>
      simp only [Bool.and_eq_true, decide_eq_true_eq, Bool.not_eq_true'] at hc
      exact ⟨hc.1, hc.2, (Option.some.inj h).symm⟩
    · exact absurd h (by simp)

theorem readerRun_keeps {P : State → Prop} (h : ∀ s t, P s → readerStep s = some t → P t) (n : Nat) : ∀ s, P s → P (readerRun n s) := by
  induction n with
  | zero => exact fun s hs => hs
  | succ n ih =>
    intro s hs
    unfold readerRun
    split
    · next t ht => exact ih t (h s t hs ht)
    · exact hs

/-- R60: the sweep stands past pocket c, whose status x is recorded, a read being under way. -/
structure State.SweptPast (s : State) (c : Nat) (x : SweepStatus) : Prop where
  inFlight : s.rds.inFlight.isSome = true
  status : s.rds.table[c]? = some x
  cursor : s.rds.sweep = .active → c < s.rds.cursor

/-- A pocket whose read is asked for and queued. -/
def State.asksRead (s : State) (c : Nat) : Prop := (s.pocket c).readRequested = true ∧ c ∈ s.rds.queue

/-- R60: a status recorded and the cursor past its pocket. -/
theorem advanceSweep_past {y : SweepStatus} (hf : s.rds.inFlight.isSome = true) (hstat : (s.rds.table.set s.rds.cursor y)[c]? = some x)
    (hc : c ≤ s.rds.cursor) : (advanceSweep (recordStatus y s)).SweptPast c x := by
  unfold advanceSweep
  split
  · exact ⟨hf, hstat, fun _ => Nat.lt_succ_of_le hc⟩
  · have hrds : ∀ n y, (pushNotice n y).rds = y.rds := fun n y => (pushNotice_frame n y).2.2.1
    exact ⟨by rw [hrds]; exact hf, by rw [hrds]; exact hstat, fun h => absurd h (by rw [hrds]; simp)⟩

theorem enqueueRead_past (h : s.SweptPast c x) (p : PocketNo) : (enqueueRead p s).SweptPast c x := by
  rw [enqueueRead_queue]
  exact ⟨h.inFlight, h.status, h.cursor⟩

theorem requestRead_past (h : s.SweptPast c x) (p : PocketNo) : (requestRead p s).SweptPast c x := by
  rw [requestRead_eq]
  exact ⟨h.inFlight, h.status, h.cursor⟩

theorem SweptPast.advance {y : SweepStatus} (h : s.SweptPast c x) (hw : s.rds.sweep = .active) : (advanceSweep (recordStatus y s)).SweptPast c x := by
  have hlt := h.cursor hw
  refine advanceSweep_past h.inFlight ?_ (Nat.le_of_lt hlt)
  rw [List.getElem?_set_ne (by omega)]
  exact h.status

theorem visit_past (h : s.SweptPast c x) (hw : s.rds.sweep = .active) : (visit s).SweptPast c x := by
  unfold visit
  dsimp only
  split
  · exact SweptPast.advance h hw
  · split
    · exact SweptPast.advance h hw
    · split
      · exact SweptPast.advance (requestRead_past h _) (by simpa using hw)
      · exact enqueueRead_past (s := { s with rds := { s.rds with awaiting := true } }) ⟨h.inFlight, h.status, h.cursor⟩ _

theorem State.asksRead.of_pkc (h : s.asksRead c) (hp : t.pkc = s.pkc) (hq : t.rds.queue = s.rds.queue) : t.asksRead c :=
  ⟨by rw [State.pocket_of_pkc hp]; exact h.1, by rw [hq]; exact h.2⟩

theorem advanceSweep_queue (y : SweepStatus) (s : State) : (advanceSweep (recordStatus y s)).rds.queue = s.rds.queue := by
  unfold advanceSweep
  split
  · rfl
  · rw [(pushNotice_frame _ _).2.2.1]
    rfl

theorem advanceSweep_asksRead (h : s.asksRead c) (y : SweepStatus) : (advanceSweep (recordStatus y s)).asksRead c :=
  h.of_pkc (by simp) (advanceSweep_queue y s)

theorem enqueueRead_asksRead (h : s.asksRead c) (p : PocketNo) : (enqueueRead p s).asksRead c :=
  ⟨by rw [enqueueRead_pocket]; exact h.1, enqueueRead_grows h.2 p⟩

theorem requestRead_asksRead (h : s.asksRead c) (p : PocketNo) : (requestRead p s).asksRead c := by
  refine enqueueRead_asksRead (s := modPocket p (fun k => { k with readRequested := true }) s) ⟨?_, h.2⟩ p
  by_cases hcp : c = p
  · subst hcp
    by_cases hlen : c < s.pkc.pockets.length
    · rw [pocket_modPocket_self _ hlen]
    · rw [modPocket_of_le _ (Nat.le_of_not_lt hlen)]
      exact h.1
  · rw [pocket_modPocket_ne hcp]
    exact h.1

/-- A visit asks for reads and withdraws none. -/
theorem visit_asksRead (h : s.asksRead c) : (visit s).asksRead c := by
  unfold visit
  dsimp only
  split
  · exact advanceSweep_asksRead h _
  · split
    · exact advanceSweep_asksRead h _
    · split
      · exact advanceSweep_asksRead (requestRead_asksRead h _) _
      · exact enqueueRead_asksRead (s := { s with rds := { s.rds with awaiting := true } }) h _

/-- R60: the sweep visits its cursor pocket and stands past it. -/
theorem settleReader_visited {A : Prop} (hs : s.running = true) (hf : s.rds.inFlight.isSome = true) (hw : s.rds.sweep = .active)
    (ha : s.rds.awaiting = false) (h : (visit s).SweptPast c x) (hA : A → (visit s).asksRead c) :
    (settleReader s).SweptPast c x ∧ (A → (settleReader s).asksRead c) := by
  have hstep := readerStep_visits hs hf hw ha
  have hrun : settleReader s = readerRun 255 (visit s) := by
    rw [settleReader, show (256 : Nat) = 255 + 1 from rfl, readerRun, hstep]
  rw [hrun]
  refine readerRun_keeps (P := fun t => t.SweptPast c x ∧ (A → t.asksRead c)) (fun y z hy hz => ?_) 255 _ ⟨h, hA⟩
  obtain ⟨hw, -, rfl⟩ := readerStep_inFlight hy.1.inFlight hz
  exact ⟨visit_past hy.1 hw, fun hA => visit_asksRead (hy.2 hA)⟩

/-- R60, R61: a visit that records a status and passes. -/
theorem visit_passes (hf : s.rds.inFlight.isSome = true) (hc : s.rds.cursor = c) (hl : c < s.rds.table.length) (y : SweepStatus) :
    (advanceSweep (recordStatus y s)).SweptPast c y := by
  refine advanceSweep_past hf ?_ (Nat.le_of_eq hc.symm)
  rw [hc]
  simp [hl]

/-- What the closing of a door leaves of the rest of the node. -/
structure State.DoorClosed (s t : State) (p : PocketNo) : Prop where
  door : (t.pocket p).door = .closed
  pockets : ∀ q, q ≠ p → t.pocket q = s.pocket q
  subset : ∀ q, q ∈ t.rds.queue → q = p ∨ q ∈ s.rds.queue
  rds : t.rds = { s.rds with queue := t.rds.queue }
  modules : t.pkc.modules = s.pkc.modules
  stc : t.stc = s.stc

theorem closing_doorClosed (hp : s.present p = true) :
    s.DoorClosed (closing p (modPocket p (fun k => { k with door := .closed }) s)) p := by
  have hlen : p < s.pkc.pockets.length := lt_of_pocket_present (State.present_iff.1 hp).2
  set x := modPocket p (fun k => { k with door := .closed }) s with hx
  have hxk : ({ s.pocket p with door := .closed } : Pocket).Alike (x.pocket p) := modPocket_alike hlen
  have hother : ∀ q, q ≠ p → x.pocket q = s.pocket q := fun q hq => pocket_modPocket_ne hq _ _
  by_cases hf : (x.pocket p).state = .fault
  · rw [closing_fault hf]
    exact ⟨hxk.congr Pocket.door, hother, fun q hq => .inr hq, rfl, rfl, rfl⟩
  · have hcl : x.Closed (closing p x) p := closing_closes (by rw [hx, present_modPocket Iff.rfl]; exact hp) (by simpa [hx] using hlen) hf
    refine ⟨(hcl.pocket.congr Pocket.door).trans ((closed_kept _).2.2.2.1.trans (hxk.congr Pocket.door)),
      fun q hq => (hcl.pockets q hq).trans (hother q hq), hcl.subset, ?_, ?_, by simp [hx]⟩
    · rw [hcl.rest]
      rfl
    · rw [hcl.rest]
      rfl

/-- Settles O23, by the state of the pocket and of the sweep. -/
theorem doorsAct : Obligations.DoorsAct := by
  refine ⟨fun p s hd he hl => ?opens, fun p s hd hdoor he hl => ?closes,
    fun p c s hd hb hcur hc hcp => ⟨fun hf hw ha => ?suspends, fun hf hw ha hdoor hcq hothers => ?resumes⟩⟩
  all_goals obtain ⟨hs, hp, hact, hsens⟩ := doorEvents_iff.1 hd
  all_goals have hlen : p < s.pkc.pockets.length := lt_of_pocket_present (State.present_iff.1 hp).2
  case opens =>
    have hrds := openDoor_rds (s := s) he.notInFlight
    have hidle : (openDoor p s).rds.sweep = .idle := by rw [hrds]; exact he.2
    have hself := openDoor_pocket_self (s := s) hlen
    rw [exec_doorOpening hd, reportQuiet_idle hidle, settleReader_of_busy (he.busy.of_rds (by rw [hrds]) (by rw [hrds]))]
    refine ⟨_, rfl, by rw [hself], by rw [hself], by rw [hself], by rw [hself], by rw [hself], by rw [hself], by rw [hself], by rw [hself],
      by rw [hself], fun q hq => openDoor_pocket_ne hq, hrds, fun g hg hgp => ?_, fun g hg hgp => ?_, fun hm hn hmk => ?_, fun hmk => ?_,
      openDoor_cue p s, by simp, by simp, by simp, by simp, by simp⟩
    · rw [openDoor_stage hg, if_pos hgp]
    · rw [openDoor_stage hg, if_neg hgp]
    · obtain ⟨m, hmark⟩ := Option.isSome_iff_exists.1 hmk
      rw [openDoor_notices, clearMark_notices hmark hm hn]
      rfl
    · rw [openDoor_notices, clearMark_none hmk]
  case closes =>
    set x := modPocket p (fun k => { k with door := .closed }) s with hx
    have hxk : ({ s.pocket p with door := .closed } : Pocket).Alike (x.pocket p) := modPocket_alike hlen
    have hxst : (x.pocket p).state = (s.pocket p).state := hxk.congr Pocket.state
    rw [exec_doorClosing hd hdoor, ← hx]
    by_cases hf : (s.pocket p).state = .fault
    · have hcl : closing p x = x := closing_fault (hxst.trans hf)
      rw [hcl, reportQuiet_idle (s := x) he.2, settleReader_of_busy (s := x) (he.busy.of_rds rfl rfl)]
      exact ⟨_, rfl, hxk.congr Pocket.door, hxk.congr Pocket.latch, hxk.congr Pocket.contents, hxk.congr Pocket.verified,
        fun h => absurd hf (by rcases h with h | h <;> simp [h]), fun h => absurd hf (by simp [h]),
        fun _ _ _ => ⟨hxst, hxk.congr Pocket.check⟩, fun h => absurd hf h, fun h => absurd hf h, fun _ => rfl,
        fun q hq => pocket_modPocket_ne hq _ _, rfl⟩
    · have hcl : x.Closed (closing p x) p := closing_closes (by rw [hx, present_modPocket Iff.rfl]; exact hp) (by simpa [hx] using hlen)
        (by rwa [hxst])
      have hself : ({ s.pocket p with door := .closed } : Pocket).closed.Alike ((closing p x).pocket p) :=
        (hxk.map (f := Pocket.closed) closed_indicator).trans hcl.pocket
      obtain ⟨hlatch, hcont, hver, hdr, -⟩ := closed_kept { s.pocket p with door := .closed }
      have hidle : (closing p x).rds.sweep = .idle := by rw [hcl.rest]; exact he.2
      rw [reportQuiet_idle hidle, settleReader_of_busy (he.busy.of_rds (by rw [hcl.rest]; rfl) (by rw [hcl.rest]; rfl))]
      refine ⟨_, rfl, (hself.congr Pocket.door).trans hdr, (hself.congr Pocket.latch).trans hlatch, (hself.congr Pocket.contents).trans hcont,
        (hself.congr Pocket.verified).trans hver, fun h => ?_, fun h => ?_, fun h1 h2 h3 => ?_, fun _ => hself.congr Pocket.readRequested,
        fun _ hr => hcl.queue he.notInFlight fun _ => (hxk.congr Pocket.readRequested).trans hr, fun h => absurd h hf,
        fun q hq => (hcl.pockets q hq).trans (pocket_modPocket_ne hq _ _), hcl.rest⟩
      · obtain ⟨h1, h2⟩ := closed_insert (k := { s.pocket p with door := .closed }) h
        exact ⟨(hself.congr Pocket.state).trans h1, (hself.congr Pocket.check).trans h2⟩
      · obtain ⟨h1, h2⟩ := closed_stocked (k := { s.pocket p with door := .closed }) h
        exact ⟨(hself.congr Pocket.state).trans h1, (hself.congr Pocket.check).trans h2⟩
      · obtain ⟨h1, h2⟩ := closed_other (k := { s.pocket p with door := .closed }) h1 h2 h3
        exact ⟨(hself.congr Pocket.state).trans h1, (hself.congr Pocket.check).trans h2⟩
  case suspends =>
    obtain ⟨r, hr, hrp⟩ := hf
    have hrds := openDoor_rds (s := s) (p := p) (by simp [hr, hrp])
    set y := openDoor p s with hy
    have hself := openDoor_pocket_self (s := s) hlen
    have hquiet : y.quiet = false := by
      refine quiet_of_opened (p := p) (State.present_iff.2 ⟨(State.present_iff.1 hp).1, ?_⟩) ?_ ?_
      · rw [hy, hself]
        exact (State.present_iff.1 hp).2
      · rw [moduleActive_of_modules (openDoor_modules p s)]
        exact hact
      · rw [hy, hself]
    have hne : ¬c = p := hcp
    have hyr : y.rds = { s.rds with queue := s.rds.queue.filter (· != p) } := by 
      rw [hrds, hcur, decide_eq_false hne, Bool.not_false, Bool.and_true]
    have hyc : y.rds.cursor = c := by rw [hyr]; exact hcur
    have hypc : y.pocket c = s.pocket c := openDoor_pocket_ne hcp
    have hytrg : y.trg = s.trg := by simp [hy]
    have hmem : c ∈ y.rds.queue ↔ c ∈ s.rds.queue := by rw [hyr]; simp [hne]
    obtain ⟨hinf, hsus⟩ := suspendSweep_reader y
    have hstay : settleReader (suspendSweep y) = suspendSweep y := settleReader_stays (.inl (by rw [hinf, hyr]; simp [hr]))
      (fun h => absurd (hsus.symm.trans h) (by decide))
    rw [exec_doorOpening hd, ← hy, reportQuiet_suspends (by rw [hyr]; exact hw) hquiet, hstay]
    refine ⟨_, rfl, fun hq hr hk => ?_, fun hq hj => ?_, fun hq => ?_⟩
    · rw [suspendSweep_alone (by rw [hyr]; exact ha) (by rw [hyc]; exact hmem.2 hq) (by rw [hyc, hypc]; exact hr) (by rw [hyc, hytrg]; exact hk), hyc, hyr]
      simp only [List.filter_filter, Bool.and_comm]
    · rw [suspendSweep_joined (by rw [hyr]; exact ha) (by rw [hyc]; exact hmem.2 hq) (by rw [hyc, hypc, hytrg]; exact hj), hyr]
    · rw [suspendSweep_inFlight (by rw [hyc]; exact fun h => hq (hmem.1 h)), hyr]
  case resumes =>
    obtain ⟨r, hr, hrp, hrc'⟩ := hf
    obtain ⟨z, hz, hclose⟩ : ∃ z, closing p (modPocket p (fun k => { k with door := .closed }) s) = z ∧ s.DoorClosed z p := ⟨_, rfl, closing_doorClosed hp⟩
    have hquiet : z.quiet = true := quiet_iff.2 fun q hq hqp hqa => by
      by_cases h : q = p
      · subst h
        exact hclose.door
      · rw [hclose.pockets q h]
        refine hothers q hq h ?_ ?_
        · rw [State.present_iff, ← hclose.pockets q h]
          exact State.present_iff.1 hqp
        · rw [← moduleActive_of_modules hclose.modules]
          exact hqa
    set w : State := { z with rds := { z.rds with sweep := .active } } with hwdef
    have hwr : w.rds = { s.rds with sweep := .active, queue := z.rds.queue } := by rw [hwdef, hclose.rds]
    have hwc : w.rds.cursor = c := by rw [hwr]; exact hcur
    have hwpc : w.pocket c = s.pocket c := hclose.pockets c hcp
    have hwrun : w.running = true := running_of_stc (t := w) hclose.stc hs
    have hwf : w.rds.inFlight.isSome = true := by rw [hwr]; simp [hr]
    have hwa : w.rds.awaiting = false := by rw [hwr]; exact ha
    have hwl : c < w.rds.table.length := by rw [hwr]; exact hb.statuses.symm ▸ hc
    have hsus : z.rds.sweep = .suspended := by rw [hclose.rds]; exact hw
    have hcz : c ∉ z.rds.queue := fun h => (hclose.subset c h).elim hcp hcq
    rw [exec_doorClosing hd hdoor, hz, reportQuiet_resumes hsus hquiet]
    refine ⟨_, rfl, fun hrq hst => ?_, fun hpc hst => ?_, fun hab => ?_⟩
    · have hpc : w.present w.rds.cursor = true := by
        rw [hwc]
        exact State.present_iff.2 ⟨hc, by rw [hwpc]; rcases hst with h | ⟨h, -⟩ | h | h <;> simp [h]⟩
      have hvisit := visit_queues (s := w) hpc (by rw [hwc, hwpc]; rcases hst with h | ⟨h, ho⟩ | h | h <;> simp [Pocket.passedOver, *])
        (by rw [hwc, hwpc]; exact hrq) (by rw [hwc, hwpc]; rcases hst with h | ⟨h, -⟩ | h | h <;> simp [h]) (by rw [hwc]; exact hcz)
        (by rw [hwc, hwr]; simp [hr, hrc'])
      have hstep := (readerStep_visits hwrun hwf rfl hwa).trans (congrArg some hvisit)
      rw [settleReader_of_step hstep (readerStep_none (.inl hwf) fun _ => rfl)]
      refine ⟨rfl, hwc, rfl, ?_, by show w.rds.table = _; rw [hwr], hwpc⟩
      show c ∈ w.rds.queue ++ [w.rds.cursor]
      simp [hwc]
    · have hpres : w.present c = true := State.present_iff.2 ⟨hc, by rw [hwpc]; exact (State.present_iff.1 hpc).2⟩
      have key : (visit w).SweptPast c .skipped ∧
          ((s.pocket c).state = .checking ∧ (s.pocket c).readRequested = false → (visit w).asksRead c) := by
        by_cases hpass : (s.pocket c).passedOver = true ∨ (s.pocket c).readRequested = true
        · have hv : visit w = advanceSweep (recordStatus .skipped w) := by
            have hor : ((w.pocket c).passedOver || (w.pocket c).readRequested) = true := by rw [hwpc]; simpa using hpass
            simp only [visit, hwc, hpres, hor, Bool.not_true, Bool.false_eq_true, if_false, if_true]
          rw [hv]
          refine ⟨visit_passes hwf hwc hwl _, fun h => ?_⟩
          rcases hpass with h' | h'
          · simp [Pocket.passedOver, h.1] at h'
          · exact absurd h' (by simp [h.2])
        · simp only [not_or, Bool.not_eq_true] at hpass
          obtain ⟨hpass, hrq⟩ := hpass
          have hchk : (s.pocket c).state = .checking := by
            rcases hst with h | h | h | h | h | h | ⟨h, ho⟩
            · exact absurd h (by simp [hrq])
            · simp [Pocket.passedOver, h] at hpass
            · simp [Pocket.passedOver, h] at hpass
            · simp [Pocket.passedOver, h] at hpass
            · simp [Pocket.passedOver, h] at hpass
            · exact h
            · simp [Pocket.passedOver, h, ho] at hpass
          have hv : visit w = advanceSweep (recordStatus .skipped (requestRead c w)) := by
            have hor : ((w.pocket c).passedOver || (w.pocket c).readRequested) = false := by rw [hwpc]; simp [hpass, hrq]
            have hck : (w.pocket c).state = .checking := by rw [hwpc]; exact hchk
            simp only [visit, hwc, hpres, hor, hck, Bool.not_true, Bool.false_eq_true, if_false, if_true]
          obtain ⟨hrf, -, hrc, -, hrt⟩ := requestRead_reader c w
          have hwlen : c < w.pkc.pockets.length := lt_of_pocket_present (State.present_iff.1 hpres).2
          rw [hv]
          refine ⟨visit_passes (by rw [hrf]; exact hwf) (hrc.trans hwc) (by rw [hrt]; exact hwl) _, fun _ => advanceSweep_asksRead ⟨?_, ?_⟩ _⟩
          · rw [requestRead_pocket_self hwlen]
          · exact mem_requestRead hpres (by rw [hwr]; simp [hr, hrc'])
      obtain ⟨hpast, hask⟩ := settleReader_visited hwrun hwf rfl hwa key.1 key.2
      exact ⟨hpast.status, hpast.cursor, fun h1 h2 => hask ⟨h1, h2⟩⟩
    · have hpres : w.present c = false := by
        rw [State.present, hwpc, hab]
        simp
      have hv : visit w = advanceSweep (recordStatus .absent w) := by
        simp only [visit, hwc, hpres, Bool.not_false, if_true]
      obtain ⟨hpast, -⟩ := settleReader_visited (A := False) hwrun hwf rfl hwa (hv ▸ visit_passes hwf hwc hwl _) False.elim
      exact ⟨hpast.status, hpast.cursor⟩

end Sys2Proof.Machine

/-! PROOFS. A module that falls SILENT: its pockets go to FAULT, their transfers and reads end (O20). -/

namespace Sys2Proof.Machine

open Sys2Proof

variable {s t : State} {p q : PocketNo} {u : ToolId} {e : Entry} {a : Nat} {l : List PocketNo}

/-! ### The pockets of a module -/

theorem address_of_line {p a i : Nat} (hi : i < 8) (h : a * 8 + i = p) : p / 8 = a := by omega

theorem line_inj {a i j : Nat} (h : a * 8 + i = a * 8 + j) : i = j := by omega

theorem mem_modulePockets : p ∈ modulePockets a ↔ p / 8 = a := by
  simp only [modulePockets, List.mem_map, List.mem_range]
  constructor
  · rintro ⟨i, hi, h⟩
    exact address_of_line hi h
  · intro h
    exact ⟨p % 8, Nat.mod_lt _ (by decide), by subst h; exact module_pocket_split p⟩

theorem modulePockets_nodup (a : Nat) : (modulePockets a).Nodup :=
  List.Nodup.map_on (fun _ _ _ _ h => line_inj h) List.nodup_range

/-! ### Pockets that no transfer and no read concerns (R27) -/

/-- R27: a present pocket goes to FAULT. -/
def faultPresent (s : State) (p : PocketNo) : State := if s.present p then pocketFault p s else s

/-- No transfer, read, waiting adoption or stage concerns the pockets of list l. -/
structure State.Unconcerned (s : State) (l : List PocketNo) : Prop where
  queue : ∀ p ∈ l, p ∉ s.rds.queue
  inFlight : ∀ p ∈ l, s.rds.inFlight.map (·.pocket) ≠ some p
  waiting : s.cue.waiting = []
  stage : s.slk.stage = none
  givers : ∀ g ∈ s.cue.givers, ∀ p ∈ l, g.pocket ≠ some p
  takers : ∀ k ∈ s.cue.takers, k.targeting = true → k.pocket ∉ l

theorem State.Unconcerned.of_sublist {l' : List PocketNo} (h : s.Unconcerned l) (hl : ∀ p ∈ l', p ∈ l) : s.Unconcerned l' :=
  ⟨fun p hp => h.queue p (hl p hp), fun p hp => h.inFlight p (hl p hp), h.waiting, h.stage, fun g hg p hp => h.givers g hg p (hl p hp),
    fun k hk ht hp => h.takers k hk ht (hl _ hp)⟩

theorem State.Unconcerned.of_pockets (h : s.Unconcerned l) (ht : t = { s with pkc := t.pkc }) : t.Unconcerned l := by
  rw [ht]
  exact ⟨h.queue, h.inFlight, h.waiting, h.stage, h.givers, h.takers⟩

theorem faultPresent_eq (h : s.Unconcerned l) (hp : p ∈ l) : faultPresent s p =
    if s.present p = true ∧ (s.pocket p).state ≠ .fault then modPocket p Pocket.faulted s else s := by
  unfold faultPresent
  by_cases hpres : s.present p = true
  · by_cases hf : (s.pocket p).state = .fault
    · rw [if_pos hpres, if_neg (by simp [hf]), pocketFault, if_pos hf, failRead_none (h.queue p hp) (h.inFlight p hp)]
    · rw [if_pos hpres, if_pos ⟨hpres, hf⟩, pocketFault_eq hf (h.queue p hp) (h.inFlight p hp) h.waiting h.stage,
        failGiverAt_none (s := modPocket p Pocket.faulted s) (fun g hg => h.givers g hg p hp),
        failTakerAt_none (s := modPocket p Pocket.faulted s) (fun k hk ht hkp => h.takers k hk ht (hkp ▸ hp))]
  · rw [if_neg hpres, if_neg (fun h => hpres h.1)]

/-- R27: what the faults of the pockets of list l leave. -/
structure State.Silenced (s t : State) (l : List PocketNo) : Prop where
  rest : t = { s with pkc := { s.pkc with pockets := t.pkc.pockets } }
  length : t.pkc.pockets.length = s.pkc.pockets.length
  other : ∀ p, p ∉ l → t.pocket p = s.pocket p
  faults : ∀ p ∈ l, s.present p = true → (s.pocket p).state ≠ .fault → (s.pocket p).faulted.Alike (t.pocket p)
  kept : ∀ p ∈ l, (s.present p = false ∨ (s.pocket p).state = .fault) → t.pocket p = s.pocket p

theorem foldl_faultPresent (h : s.Unconcerned l) (hn : l.Nodup) : s.Silenced (l.foldl faultPresent s) l := by
  induction l generalizing s with
  | nil => exact ⟨rfl, rfl, fun _ _ => rfl, fun _ hp => absurd hp (by simp), fun _ _ _ => rfl⟩
  | cons p l ih =>
    obtain ⟨hpl, hn'⟩ := List.nodup_cons.1 hn
    have hstep := faultPresent_eq h (p := p) List.mem_cons_self
    set x := faultPresent s p with hx
    have hrest : x = { s with pkc := { s.pkc with pockets := x.pkc.pockets } } := by
      rw [hstep]
      split <;> rfl
    have hlen : x.pkc.pockets.length = s.pkc.pockets.length := by
      rw [hstep]
      split <;> simp
    have hne : ∀ q, q ≠ p → x.pocket q = s.pocket q := fun q hq => by
      rw [hstep]
      split
      · exact pocket_modPocket_ne hq _ _
      · rfl
    have hxl : x.Unconcerned l := (h.of_sublist fun q hq => List.mem_cons_of_mem p hq).of_pockets (by rw [hrest])
    have ih := ih hxl hn'
    rw [List.foldl_cons, ← hx]
    have hpres : ∀ q, q ≠ p → x.present q = s.present q := fun q hq => by rw [State.present, State.present, hne q hq]
    refine ⟨?_, ih.length.trans hlen, fun q hq => ?_, fun q hq hqp hqf => ?_, fun q hq hqk => ?_⟩
    · refine ih.rest.trans ?_
      generalize (l.foldl faultPresent x).pkc.pockets = ps
      rw [hrest]
    · have hqp : q ≠ p := fun h => hq (h ▸ List.mem_cons_self)
      have hql : q ∉ l := fun h => hq (List.mem_cons_of_mem p h)
      exact (ih.other q hql).trans (hne q hqp)
    · by_cases hqe : q = p
      · subst hqe
        rw [ih.other q hpl, hstep, if_pos ⟨hqp, hqf⟩]
        exact modPocket_alike (lt_of_pocket_present (State.present_iff.1 hqp).2)
      · have hql := (List.mem_cons.1 hq).resolve_left hqe
        have := ih.faults q hql (by rw [hpres q hqe]; exact hqp) (by rw [hne q hqe]; exact hqf)
        rwa [hne q hqe] at this
    · by_cases hqe : q = p
      · subst hqe
        rw [ih.other q hpl, hstep, if_neg (by rcases hqk with h | h <;> simp [h])]
      · have hql := (List.mem_cons.1 hq).resolve_left hqe
        rw [ih.kept q hql (by rw [hpres q hqe, hne q hqe]; exact hqk), hne q hqe]

/-! ### The silence of a module (R27) -/

/-- The module at address a SILENT. -/
def State.silentAt (s : State) (a : Nat) : State := modModule a (fun m => { m with state := .silent }) s

theorem silentAt_eq (s : State) (a : Nat) : s.silentAt a = { s with pkc := { s.pkc with
    modules := s.pkc.modules.set a { s.pkc.modules.getD a Module.none with state := .silent } } } := rfl

theorem silence_eq (h : (s.pkc.modules.getD a Module.none).state = .active) :
    silence a s = reportQuiet ((modulePockets a).foldl faultPresent (s.silentAt a)) := if_pos h

/-- A module falls SILENT while no sweep runs and the reader has nothing to start after it. -/
theorem exec_moduleSilent (hs : s.running = true) (ha : (s.pkc.modules.getD a Module.none).state = .active)
    (ht : (modulePockets a).foldl faultPresent (s.silentAt a) = t) (hw : t.rds.sweep = .idle)
    (hf : t.rds.inFlight.isSome = true ∨ t.rds.queue = []) : exec (.moduleSilent a) s = .next t := by
  have hex : exec (.moduleSilent a) s = .next (settleReader (silence a s)) := congrArg Host.Outcome.next (if_pos hs)
  rw [hex, silence_eq ha, ht, reportQuiet_idle hw]
  exact congrArg _ (settleReader_stays hf fun h => absurd (hw.symm.trans h) (by decide))

/-- A module with one pocket that something concerns: the fold over its pockets, split at that pocket. -/
theorem foldl_faultPresent_at (h : s.Unconcerned (l.filter (· != q))) (hn : l.Nodup) (hq : q ∈ l) :
    ∃ x l', s.Silenced x l' ∧ x.pocket q = s.pocket q ∧ ∀ y, faultPresent x q = y → y.Unconcerned (l.filter (· != q)) →
      ∃ l'', q ∉ l'' ∧ y.Silenced (l.foldl faultPresent s) l'' := by
  obtain ⟨l1, l2, rfl⟩ := List.append_of_mem hq
  obtain ⟨h1, h2, hd⟩ := List.nodup_append.1 hn
  obtain ⟨hq2, h2'⟩ := List.nodup_cons.1 h2
  have hq1 : q ∉ l1 := fun h => hd q h q List.mem_cons_self rfl
  have hsub1 : ∀ p ∈ l1, p ∈ (l1 ++ q :: l2).filter (· != q) := fun p hp => by
    have : p ≠ q := fun hpq => hq1 (hpq ▸ hp)
    simp [hp, this]
  have hsub2 : ∀ p ∈ l2, p ∈ (l1 ++ q :: l2).filter (· != q) := fun p hp => by
    have : p ≠ q := fun hpq => hq2 (hpq ▸ hp)
    simp [hp, this]
  have hx := foldl_faultPresent (h.of_sublist hsub1) h1
  refine ⟨_, l1, hx, hx.other q hq1, fun y hy hyu => ⟨l2, hq2, ?_⟩⟩
  rw [List.foldl_append, List.foldl_cons, hy]
  exact foldl_faultPresent (hyu.of_sublist hsub2) h2'

/-! ### The taker transfer and the read of a pocket in FAULT (R27, R52, R123) -/

/-- R27, R123: what a taker transfer that loses its target leaves. -/
structure State.TakerFailed (s t : State) (p : PocketNo) (k : Taker) (o : Offer) : Prop where
  pocket : ({ s.pocket p with saved := some .empty, target := none } : Pocket).Alike (t.pocket p)
  cue : t.cue = { s.cue with takers := s.cue.takers.filter (fun x => x.seek != k.seek) }
  hli : t.hli = { s.hli with urgent := s.hli.urgent ++ [⟨.lapse o.station k.seek .withdrawn, .taker k.seek⟩] }
  notices : s.masked .needFailed = false → s.slk.notices.length < 16 →
    t.slk.notices = s.slk.notices ++ [⟨.needFailed, some k.pocket, none, some k.seek, some .pocket, []⟩]
  stage : t.slk.stage = s.slk.stage
  modules : t.pkc.modules = s.pkc.modules
  trg : t.trg = s.trg
  rds : t.rds = s.rds
  pru : t.pru = s.pru
  cck : t.cck = s.cck
  stc : t.stc = s.stc

theorem failTakerAt_fails {k : Taker} {o : Offer} (hlen : p < s.pkc.pockets.length)
    (hfind : s.cue.takers.find? (fun k => k.targeting && decide (k.pocket = p)) = some k) (ho : k.current = some o)
    (hu : s.hli.urgent.length < 8) (hn : s.stc.node ≠ .idConflict) : s.TakerFailed (failTakerAt p s) p k o := by
  set x : State := { s with hli := { s.hli with urgent := s.hli.urgent ++ [⟨.lapse o.station k.seek .withdrawn, .taker k.seek⟩] } } with hx
  have hlapse : sendLapse o.station k.seek .withdrawn (.taker k.seek) s = x := sendLapse_eq hu hn _ _ _ _
  set y := modPocket p (fun x => { x with saved := some .empty, target := none }) (closeTaker k x) with hy
  have heq : failTakerAt p s = noticeNeedFailed k .pocket y := by
    rw [failTakerAt, hfind]
    simp only [ho, hlapse, hy]
  rw [heq]
  exact
    { pocket := by
        rw [State.pocket_of_pkc (noticeNeedFailed_frame _ _ _).2.1]
        exact modPocket_alike (f := fun x => { x with saved := some .empty, target := none }) (s := closeTaker k x) hlen
      cue := by rw [(noticeNeedFailed_frame _ _ _).2.2.2.2.1]; rfl
      hli := by rw [(noticeNeedFailed_frame _ _ _).2.2.2.2.2.1]; rfl
      notices := fun hm hl => pushNotice_notices (s := y) hm hl
      stage := pushNotice_stage _ y
      modules := by rw [(noticeNeedFailed_frame _ _ _).2.1]; rfl
      trg := by rw [(noticeNeedFailed_frame _ _ _).1]; rfl
      rds := by rw [(noticeNeedFailed_frame _ _ _).2.2.1]; rfl
      pru := by rw [(noticeNeedFailed_frame _ _ _).2.2.2.1]; rfl
      cck := by rw [(noticeNeedFailed_frame _ _ _).2.2.2.2.2.2.1]; rfl
      stc := by rw [(noticeNeedFailed_frame _ _ _).2.2.2.2.2.2.2.1]; rfl }

/-- R52: READ_FAIL finds a pocket in FAULT; its own logic and the sweep have no part in it. -/
theorem deliver_fault (hst : (s.pocket p).state = .fault) (ha : s.rds.awaiting = false) (hc : s.trg.checks = []) :
    deliver p .readFail s = if (s.pocket p).readRequested then modPocket p (fun k => { k with readRequested := false }) s else s := by
  have hown : ∀ y : State, (y.pocket p).state = .fault → ownLogic p .readFail y = y := fun y hy => by simp [ownLogic, hy]
  unfold deliver
  cases hr : (s.pocket p).readRequested with
  | false => simp [hr, ha, hc]
  | true =>
    have hf : ((modPocket p (fun k => { k with readRequested := false }) s).pocket p).state = .fault :=
      ((modPocket_alike (lt_of_pocket_present (by simp [hst]))).congr Pocket.state).trans hst
    simp [hr, hown _ hf, ha, hc]

/-- R27, R52: what the fault of the pocket whose read is in flight leaves. -/
structure State.ReadFailed (s t : State) (p : PocketNo) : Prop where
  pocket : ({ (s.pocket p).faulted with readRequested := false } : Pocket).Alike (t.pocket p)
  rds : t.rds = { s.rds with inFlight := none }
  rest : t = { s with pkc := { s.pkc with pockets := t.pkc.pockets }, rds := t.rds }

theorem faultPresent_reading {d : Read} (hp : s.present p = true) (hst : (s.pocket p).state ≠ .fault) (hd : s.rds.inFlight = some d)
    (hdp : d.pocket = p) (hq : s.rds.queue = []) (ha : s.rds.awaiting = false) (hc : s.trg.checks = []) (hg : s.cue.givers = [])
    (hk : s.cue.takers = []) (hw : s.cue.waiting = []) (hstage : s.slk.stage = none) : s.ReadFailed (faultPresent s p) p := by
  have hlen : p < s.pkc.pockets.length := lt_of_pocket_present (State.present_iff.1 hp).2
  set x := modPocket p Pocket.faulted s with hx
  have hxk : (s.pocket p).faulted.Alike (x.pocket p) := modPocket_alike hlen
  set y : State := { x with rds := { s.rds with inFlight := none } } with hy
  have hdrop : dropRead p x = y := by
    have hxr : x.rds = s.rds := rfl
    simp only [dropRead, hxr, hq, hd, hdp, Option.map_some, List.filter_nil, if_true, hy]
  have hfail : failRead p x = deliver p .readFail y := by
    rw [← hdrop]
    exact if_pos (by simp [hx, hd, hdp])
  have hyf : (y.pocket p).state = .fault := hxk.congr Pocket.state
  have hyr : (y.pocket p).readRequested = (s.pocket p).readRequested := hxk.congr Pocket.readRequested
  have hdel := deliver_fault (s := y) hyf ha hc
  have hfault : faultPresent s p = deliver p .readFail y := by
    have hmod : modPocket p (fun k => { k with saved := some k.state, state := .fault, readRequested := k.readRequested && !(s.cue.waiting.any (fun w => w.isAt (.pocket p))) }) s = x :=
      modPocket_congr (by simp [hw, Pocket.faulted])
    rw [faultPresent, if_pos hp, pocketFault, if_neg hst]
    dsimp only
    rw [hmod, dropWaitingAt_nil (s := x) hw, disturbStage_none (s := x) hstage, hfail, hdel]
    have hgn : ∀ z : State, z.cue = s.cue → failTakerAt p (failGiverAt p z) = z := fun z hz => by
      rw [failGiverAt_none (by simp [hz, hg]), failTakerAt_none (by simp [hz, hk])]
    split
    · exact hgn _ rfl
    · exact hgn _ rfl
  rw [hfault, hdel]
  split
  · exact ⟨hxk.modPocket (s := y) (f := fun k => { k with readRequested := false }) (by simpa [hy, hx] using hlen), rfl, rfl⟩
  · next hr =>
    refine ⟨?_, rfl, rfl⟩
    have hfalse : (s.pocket p).faulted.readRequested = false := by
      rw [hyr] at hr
      simpa [Pocket.faulted] using hr
    rw [← hfalse]
    exact hxk

/-- The blocks that a change of pockets and modules leaves as they are. -/
structure State.SameBlocks (s t : State) : Prop where
  trg : t.trg = s.trg
  rds : t.rds = s.rds
  pru : t.pru = s.pru
  cue : t.cue = s.cue
  hli : t.hli = s.hli
  slk : t.slk = s.slk
  cck : t.cck = s.cck
  stc : t.stc = s.stc

theorem State.Silenced.same (h : s.Silenced t l) : s.SameBlocks t := by
  rw [h.rest]
  exact ⟨rfl, rfl, rfl, rfl, rfl, rfl, rfl, rfl⟩

theorem filter_modulePockets {p : PocketNo} (h : p ∈ (modulePockets a).filter (· != q)) : p / 8 = a ∧ p ≠ q := by
  simp only [List.mem_filter, bne_iff_ne] at h
  exact ⟨mem_modulePockets.1 h.1, h.2⟩

theorem line_lt {p a : Nat} (ha : a < 6) (h : p / 8 = a) : p < 48 := by omega

/-- The pockets of a module but q, where q alone has the transfers and the read. -/
theorem unconcerned_but (hq : ∀ p ∈ s.rds.queue, p / 8 ≠ a) (hf : ∀ r, s.rds.inFlight = some r → r.pocket / 8 ≠ a ∨ r.pocket = q)
    (hw : s.cue.waiting = []) (hst : s.slk.stage = none) (hg : ∀ g ∈ s.cue.givers, g.pocket = some q)
    (hk : ∀ k ∈ s.cue.takers, k.pocket = q) : s.Unconcerned ((modulePockets a).filter (· != q)) :=
  { queue := fun p hp hpq => hq p hpq (filter_modulePockets hp).1
    inFlight := fun p hp h => by
      obtain ⟨hpa, hpq⟩ := filter_modulePockets hp
      obtain ⟨r, hr, hrp⟩ := Option.map_eq_some_iff.1 h
      rcases hf r hr with h | h
      · exact h (hrp ▸ hpa)
      · exact hpq (hrp.symm.trans h)
    waiting := hw
    stage := hst
    givers := fun g hgm p hp h => (filter_modulePockets hp).2 (Option.some.inj (h.symm.trans (hg g hgm)))
    takers := fun k hkm _ h => (filter_modulePockets h).2 (hk k hkm) }

/-- R27: the silence of a module with one pocket that something concerns, by the fault of that pocket. -/
theorem silentAt_faults (hqa : q / 8 = a) (h : (s.silentAt a).Unconcerned ((modulePockets a).filter (· != q))) :
    ∃ x, s.SameBlocks x ∧ x.pocket q = s.pocket q ∧ ∀ y, faultPresent x q = y → y.Unconcerned ((modulePockets a).filter (· != q)) →
      ∃ t, (modulePockets a).foldl faultPresent (s.silentAt a) = t ∧ t.pocket q = y.pocket q ∧ y.SameBlocks t := by
  obtain ⟨x, l', hx, hxq, hfold⟩ := foldl_faultPresent_at h (modulePockets_nodup a) (mem_modulePockets.2 hqa)
  obtain ⟨htrg, hrds, hpru, hcue, hhli, hslk, hcck, hstc⟩ := hx.same
  refine ⟨x, ⟨htrg, hrds, hpru, hcue, hhli, hslk, hcck, hstc⟩, hxq, fun y hy hyu => ?_⟩
  obtain ⟨l'', hql, hsil⟩ := hfold y hy hyu
  exact ⟨_, rfl, hsil.other q hql, hsil.same⟩

/-- R27: the fault of a pocket in use, before its transfers end. -/
theorem faultPresent_faulted (hp : s.present q = true) (hst : (s.pocket q).state ≠ .fault) (hq : q ∉ s.rds.queue)
    (hf : s.rds.inFlight.map (·.pocket) ≠ some q) (hw : s.cue.waiting = []) (hg : s.slk.stage = none) :
    faultPresent s q = failTakerAt q (failGiverAt q (modPocket q Pocket.faulted s)) := by
  rw [faultPresent, if_pos hp, pocketFault_eq hst hq hf hw hg]

/-- A module falls SILENT, pocket q of which alone has a transfer or the read in flight. -/
structure State.SilenceAt (s : State) (a : Nat) (q : PocketNo) : Prop where
  running : s.running = true
  place : q / 8 = a
  active : (s.pkc.modules.getD a Module.none).state = .active
  sweep : s.rds.sweep = .idle
  queue : ∀ p ∈ s.rds.queue, p / 8 ≠ a
  waiting : s.cue.waiting = []
  stage : s.slk.stage = none
  present : s.present q = true
  sound : (s.pocket q).state ≠ .fault

theorem modPocket_same (p : PocketNo) (f : Pocket → Pocket) (s : State) : s.SameBlocks (modPocket p f s) :=
  ⟨rfl, rfl, rfl, rfl, rfl, rfl, rfl, rfl⟩

theorem State.SameBlocks.trans {x : State} (h : s.SameBlocks t) (h' : t.SameBlocks x) : s.SameBlocks x :=
  ⟨h'.trg.trans h.trg, h'.rds.trans h.rds, h'.pru.trans h.pru, h'.cue.trans h.cue, h'.hli.trans h.hli, h'.slk.trans h.slk,
    h'.cck.trans h.cck, h'.stc.trans h.stc⟩

/-- R27: the pocket in FAULT, before what concerned it ends; then the rest of the module. -/
theorem State.SilenceAt.faults (h : s.SilenceAt a q) (hf : ∃ r, s.rds.inFlight = some r ∧ r.pocket / 8 ≠ a)
    (hg : ∀ g ∈ s.cue.givers, g.pocket = some q) (hk : ∀ k ∈ s.cue.takers, k.pocket = q) :
    ∃ w, s.SameBlocks w ∧ (s.pocket q).faulted.Alike (w.pocket q) ∧ q < w.pkc.pockets.length ∧ ∀ z, failTakerAt q (failGiverAt q w) = z →
      z.rds = w.rds → z.cue.waiting = [] → z.slk.stage = none → (∀ g ∈ z.cue.givers, g.pocket = some q) →
      (∀ k ∈ z.cue.takers, k.pocket = q) → ∃ t, exec (.moduleSilent a) s = .next t ∧ t.pocket q = z.pocket q ∧ z.SameBlocks t := by
  obtain ⟨r, hr, hra⟩ := hf
  have hqr : s.rds.inFlight.map (·.pocket) ≠ some q := by
    rw [hr]
    exact fun hq => hra ((congrArg (· / 8) (Option.some.inj hq)).trans h.place)
  have hun : (s.silentAt a).Unconcerned ((modulePockets a).filter (· != q)) :=
    unconcerned_but h.queue (fun d hd => .inl (by cases hr.symm.trans hd; exact hra)) h.waiting h.stage hg hk
  obtain ⟨x, hx, hxq, hfold⟩ := silentAt_faults h.place hun
  have hpx : x.present q = true := by rw [State.present, hxq]; exact h.present
  have hlx : q < x.pkc.pockets.length := lt_of_pocket_present (State.present_iff.1 hpx).2
  refine ⟨modPocket q Pocket.faulted x, hx.trans (modPocket_same _ _ _), hxq ▸ modPocket_alike hlx, by simpa using hlx,
    fun z hz hzr hzw hzs hzg hzk => ?_⟩
  have hy : faultPresent x q = z := by
    rw [← hz]
    exact faultPresent_faulted hpx (by rw [hxq]; exact h.sound) (by rw [hx.rds]; exact fun hq => h.queue q hq h.place) (by rw [hx.rds]; exact hqr)
      (by rw [hx.cue]; exact h.waiting) (by rw [hx.slk]; exact h.stage)
  have hrds : z.rds = s.rds := hzr.trans hx.rds
  obtain ⟨t, ht, htq, hsame⟩ := hfold z hy
    (unconcerned_but (by rw [hrds]; exact h.queue) (fun d hd => .inl (by rw [hrds] at hd; cases hr.symm.trans hd; exact hra)) hzw hzs hzg hzk)
  exact ⟨t, exec_moduleSilent h.running h.active ht (by rw [hsame.rds, hrds]; exact h.sweep) (.inl (by rw [hsame.rds, hrds]; simp [hr])), htq, hsame⟩

/-- R27, R132: the giver transfer of pocket q is withdrawn. -/
theorem State.SilenceAt.giver {g : Giver} (h : s.SilenceAt a q) (hb : s.Bounded) (hf : ∃ r, s.rds.inFlight = some r ∧ r.pocket / 8 ≠ a)
    (hu : s.hli.urgent.length < 8) (hn : s.stc.node ≠ .idConflict) (hgs : s.cue.givers = [g]) (hks : s.cue.takers = []) (hgq : g.pocket = some q)
    (he : s.entry? g.tool = some e)
    (hc : (g.state = .offered ∧ e.custody = .reserved) ∨ (g.state = .releasing ∧ e.custody = .releasing)) :
    ∃ w z t, exec (.moduleSilent a) s = .next t ∧ s.SameBlocks w ∧ (s.pocket q).faulted.Alike (w.pocket q) ∧ w.GiverFailed z q g e ∧
      t.pocket q = z.pocket q ∧ z.SameBlocks t := by
  obtain ⟨w, hw, hwk, hlen, hend⟩ := h.faults hf (fun g' hg' => by rw [hgs] at hg'; cases List.mem_singleton.1 hg'; exact hgq)
    (fun k hk => by rw [hks] at hk; cases hk)
  have hew : w.entry? g.tool = some e := (entry?_of_trg hw.trg g.tool).trans he
  have hz := giverFailed_spec (s := w) (p := q) hlen (by rw [hw.trg]; exact hb.register) hew
  have hzk : (w.giverFailed q g e).cue.takers = [] := by rw [hz.cue, hw.cue, hks]
  have heq : failTakerAt q (failGiverAt q w) = w.giverFailed q g e := by
    rw [failGiverAt_eq (s := w) (by rw [hw.cue, hgs]; simp [hgq]) (by rw [State.giverOf?, hw.cue, hgs]; simp) hew hc (hwk.congr Pocket.state)
      (by rw [hw.hli]; exact hu) (by rw [hw.stc]; exact hn)]
    exact failTakerAt_none (fun k hk => by rw [hzk] at hk; cases hk)
  obtain ⟨t, ht, htq, hsame⟩ := hend _ heq hz.rds (by rw [hz.cue, hw.cue]; exact h.waiting) (by rw [hz.slk, hw.slk]; exact h.stage)
    (fun g' hg' => by rw [hz.cue, hw.cue, hgs] at hg'; simp at hg') (fun k hk => by rw [hzk] at hk; cases hk)
  exact ⟨w, _, t, ht, hw, hwk, hz, htq, hsame⟩

/-- R27, R123: the taker transfer that targets pocket q fails. -/
theorem State.SilenceAt.taker {k : Taker} {o : Offer} (h : s.SilenceAt a q) (hf : ∃ r, s.rds.inFlight = some r ∧ r.pocket / 8 ≠ a)
    (hu : s.hli.urgent.length < 8) (hn : s.stc.node ≠ .idConflict) (hgs : s.cue.givers = []) (hks : s.cue.takers = [k]) (hkst : k.state ≠ .seeking)
    (ho : k.current = some o) (hkq : k.pocket = q) :
    ∃ w z t, exec (.moduleSilent a) s = .next t ∧ s.SameBlocks w ∧ (s.pocket q).faulted.Alike (w.pocket q) ∧ w.TakerFailed z q k o ∧
      t.pocket q = z.pocket q ∧ z.SameBlocks t := by
  obtain ⟨w, hw, hwk, hlen, hend⟩ := h.faults hf (fun g hg => by rw [hgs] at hg; cases hg)
    (fun k' hk' => by rw [hks] at hk'; cases List.mem_singleton.1 hk'; exact hkq)
  have htarget : k.targeting = true := by simp [Taker.targeting, hkst]
  have hz := failTakerAt_fails (s := w) (p := q) (k := k) (o := o) hlen (by rw [hw.cue, hks]; simp [htarget, hkq]) ho (by rw [hw.hli]; exact hu)
    (by rw [hw.stc]; exact hn)
  have heq : failTakerAt q (failGiverAt q w) = failTakerAt q w := by
    rw [failGiverAt_none (s := w) (fun g hg => by rw [hw.cue, hgs] at hg; cases hg)]
  obtain ⟨t, ht, htq, hsame⟩ := hend _ heq hz.rds (by rw [hz.cue, hw.cue]; exact h.waiting) (by rw [hz.stage, hw.slk]; exact h.stage)
    (fun g hg => by rw [hz.cue, hw.cue, hgs] at hg; cases hg) (fun k' hk' => by rw [hz.cue, hw.cue, hks] at hk'; simp at hk')
  exact ⟨w, _, t, ht, hw, hwk, hz, htq, hsame⟩

/-- R27, R52: the read in flight for pocket q ends READ_FAIL. -/
theorem State.SilenceAt.reading {d : Read} (h : s.SilenceAt a q) (hd : s.rds.inFlight = some d) (hdq : d.pocket = q) (hqn : s.rds.queue = [])
    (haw : s.rds.awaiting = false) (hchk : s.trg.checks = []) (hgs : s.cue.givers = []) (hks : s.cue.takers = []) :
    ∃ x y t, exec (.moduleSilent a) s = .next t ∧ s.SameBlocks x ∧ x.pocket q = s.pocket q ∧ x.ReadFailed y q ∧ t.pocket q = y.pocket q ∧
      y.SameBlocks t := by
  have hun : (s.silentAt a).Unconcerned ((modulePockets a).filter (· != q)) :=
    unconcerned_but h.queue (fun d' hd' => .inr (by cases hd.symm.trans hd'; exact hdq)) h.waiting h.stage
      (fun g hg => by rw [silentAt_eq, hgs] at hg; cases hg) (fun k hk => by rw [silentAt_eq, hks] at hk; cases hk)
  obtain ⟨x, hx, hxq, hfold⟩ := silentAt_faults h.place hun
  have hpx : x.present q = true := by rw [State.present, hxq]; exact h.present
  have hz := faultPresent_reading (d := d) hpx (by rw [hxq]; exact h.sound) (by rw [hx.rds, hd]) hdq (by rw [hx.rds, hqn]) (by rw [hx.rds, haw])
    (by rw [hx.trg, hchk]) (by rw [hx.cue, hgs]) (by rw [hx.cue, hks]) (by rw [hx.cue]; exact h.waiting) (by rw [hx.slk]; exact h.stage)
  have hcue : (faultPresent x q).cue = s.cue := by rw [hz.rest]; exact hx.cue
  have hslk : (faultPresent x q).slk = s.slk := by rw [hz.rest]; exact hx.slk
  have hrds : (faultPresent x q).rds = { s.rds with inFlight := none } := by rw [hz.rds, hx.rds]
  obtain ⟨t, ht, htq, hsame⟩ := hfold _ rfl
    (unconcerned_but (by rw [hrds]; exact h.queue) (fun d' hd' => by rw [hrds] at hd'; cases hd') (by rw [hcue]; exact h.waiting)
      (by rw [hslk]; exact h.stage) (fun g hg => by rw [hcue, hgs] at hg; cases hg) (fun k hk => by rw [hcue, hks] at hk; cases hk))
  exact ⟨x, _, t, exec_moduleSilent h.running h.active ht (by rw [hsame.rds, hrds]; exact h.sweep) (.inr (by rw [hsame.rds, hrds]; exact hqn)), hx, hxq,
    hz, htq, hsame⟩

/-- Settles O20, by the pockets of the module: those that nothing concerns, and the one with a transfer or a read. -/
theorem moduleFallsSilent : Obligations.ModuleFallsSilent := by
  refine ⟨fun a s hs ha hml hl hact hw hf hq hwait hst hg hk => ?unconcerned,
    fun a q s hs hb ha hqa hact hw hq hwait hst hp hfault => ⟨fun hf hu hn =>
      ⟨fun g e hgs hks hgq he hcase => ?giver, fun k o hgs hks hkst ho hkq => ?taker⟩, fun d hd hdq hqn haw hchk hgs hks => ?reading⟩⟩
  case unconcerned =>
    obtain ⟨r, hr, hra⟩ := hf
    have hun : (s.silentAt a).Unconcerned (modulePockets a) :=
      { queue := fun p hp hpq => hq p hpq (mem_modulePockets.1 hp)
        inFlight := fun p hp h => by
          have hrp : s.rds.inFlight.map (·.pocket) = some r.pocket := by rw [hr]; rfl
          cases hrp.symm.trans h
          exact hra (mem_modulePockets.1 hp)
        waiting := hwait
        stage := hst
        givers := fun g hgm p hp h => hg g hgm p h (mem_modulePockets.1 hp)
        takers := fun k hkm ht h => hk k hkm ht (mem_modulePockets.1 h) }
    have hsil := foldl_faultPresent hun (modulePockets_nodup a)
    set t := (modulePockets a).foldl faultPresent (s.silentAt a) with ht
    have hrds : t.rds = s.rds := by rw [hsil.rest]; rfl
    refine ⟨t, exec_moduleSilent hs hact ht.symm (by rw [hrds]; exact hw) (.inl (by rw [hrds]; simp [hr])), by rw [hsil.rest]; rfl,
      fun p hp => hsil.other p fun h => hp (mem_modulePockets.1 h), fun p hpa hab hnf => ?_, fun p hpa h => ?_, by rw [hsil.rest]; rfl, hrds,
      by rw [hsil.rest]; rfl, by rw [hsil.rest]; rfl, by rw [hsil.rest]; rfl, by rw [hsil.rest]; rfl, by rw [hsil.rest]; rfl, by rw [hsil.rest]; rfl⟩
    · have hal := hsil.faults p (mem_modulePockets.2 hpa) (State.present_iff.2 ⟨line_lt ha hpa, hab⟩) hnf
      refine ⟨hal.congr Pocket.state, hal.congr Pocket.saved, ?_⟩
      obtain ⟨i, hi⟩ := hal
      rw [hi]
      rfl
    · refine hsil.kept p (mem_modulePockets.2 hpa) (h.imp (fun h => ?_) id)
      have hpk : (s.silentAt a).pocket p = s.pocket p := rfl
      simp [State.present, hpk, h]
  case giver =>
    have hat : s.SilenceAt a q := ⟨hs, hqa, hact, hw, hq, hwait, hst, hp, hfault⟩
    obtain ⟨w, z, t, hex, hw', hwk, hz, htq, hsame⟩ := hat.giver hb hf hu hn hgs hks hgq he hcase
    have hself := htq ▸ (hwk.map (f := fun k => { k with saved := some .stocked })).trans hz.pocket
    refine ⟨t, hex, hself.congr Pocket.state, hself.congr Pocket.saved, hself.congr Pocket.contents, hself.congr Pocket.hold, hself.congr Pocket.mark,
      (entry?_of_trg hsame.trg _).trans hz.entry, fun v hv => (entry?_of_trg hsame.trg v).trans ((hz.others v hv).trans (entry?_of_trg hw'.trg v)),
      ?_, ?_, ?_, hsame.rds.trans (hz.rds.trans hw'.rds), hsame.pru.trans (hz.pru.trans hw'.pru), hsame.slk.trans (hz.slk.trans hw'.slk),
      hsame.cck.trans (hz.cck.trans hw'.cck), hsame.stc.trans (hz.stc.trans hw'.stc)⟩
    · rw [hsame.cue, hz.cue, hw'.cue, hgs]
      simp
    · rw [hsame.cue, hz.cue]
      exact addLapsed_getLast? _ _
    · rw [hsame.hli, hz.hli, hw'.hli]
  case taker =>
    have hat : s.SilenceAt a q := ⟨hs, hqa, hact, hw, hq, hwait, hst, hp, hfault⟩
    obtain ⟨w, z, t, hex, hw', hwk, hz, htq, hsame⟩ := hat.taker hf hu hn hgs hks hkst ho hkq
    have hself := htq ▸ (hwk.map (f := fun k => { k with saved := some .empty, target := none })).trans hz.pocket
    refine ⟨t, hex, hself.congr Pocket.state, hself.congr Pocket.saved, hself.congr Pocket.target, ?_, ?_, fun hm hl => ?_,
      hsame.trg.trans (hz.trg.trans hw'.trg), hsame.rds.trans (hz.rds.trans hw'.rds), hsame.pru.trans (hz.pru.trans hw'.pru),
      hsame.cck.trans (hz.cck.trans hw'.cck), hsame.stc.trans (hz.stc.trans hw'.stc)⟩
    · rw [hsame.cue, hz.cue, hw'.cue, hks]
      simp
    · rw [hsame.hli, hz.hli, hw'.hli]
    · rw [hsame.slk, hz.notices ((masked_of_stc hw'.stc _).trans hm) (by rw [hw'.slk]; exact hl), hw'.slk, hkq]
  case reading =>
    have hat : s.SilenceAt a q := ⟨hs, hqa, hact, hw, hq, hwait, hst, hp, hfault⟩
    obtain ⟨x, y, t, hex, hx, hxq, hz, htq, hsame⟩ := hat.reading hd hdq hqn haw hchk hgs hks
    have hself := hz.pocket
    rw [hxq, ← htq] at hself
    have hy : ∀ {α : Type} (f : State → α), (∀ y : State, f { x with pkc := { x.pkc with pockets := y.pkc.pockets }, rds := y.rds } = f x) → f y = f x :=
      fun f hf => by rw [hz.rest]; exact hf y
    exact ⟨t, hex, (hsame.rds.trans hz.rds).trans (by rw [hx.rds]), hself.congr Pocket.state, hself.congr Pocket.saved,
      hself.congr Pocket.readRequested, hself.congr Pocket.verified, hself.congr Pocket.contents, hself.congr Pocket.check,
      hsame.trg.trans ((hy State.trg fun _ => rfl).trans hx.trg), hsame.cue.trans ((hy State.cue fun _ => rfl).trans hx.cue),
      hsame.pru.trans ((hy State.pru fun _ => rfl).trans hx.pru), hsame.hli.trans ((hy State.hli fun _ => rfl).trans hx.hli),
      hsame.slk.trans ((hy State.slk fun _ => rfl).trans hx.slk), hsame.cck.trans ((hy State.cck fun _ => rfl).trans hx.cck),
      hsame.stc.trans ((hy State.stc fun _ => rfl).trans hx.stc)⟩

end Sys2Proof.Machine

/-! PROOFS. A SILENT module that answers: its pockets return from FAULT, with their doors, or it is CHANGED (O21). -/

namespace Sys2Proof.Machine

open Sys2Proof

variable {s t : State} {p q : PocketNo} {a : Nat} {d : LineDoor} {doors : List LineDoor}

/-! ### The return of the pockets (R28) -/

theorem foldl_keeps {α : Type} {f : State → α → State} {l : List α} {P : State → Prop} (h : ∀ x, ∀ b ∈ l, P x → P (f x b)) (hs : P s) :
    P (l.foldl f s) := by
  induction l generalizing s with
  | nil => exact hs
  | cons b l ih => exact ih (fun x c hc => h x c (List.mem_cons_of_mem b hc)) (h s b List.mem_cons_self hs)

/-- R28: a present pocket in FAULT returns to its saved state. -/
def leaveFaultPresent (s : State) (p : PocketNo) : State := if s.present p then modPocket p Pocket.leaveFault s else s

/-- The module at address a ACTIVE again, its pockets returned from FAULT. -/
def State.returnedAt (s : State) (a : Nat) : State :=
  (modulePockets a).foldl leaveFaultPresent (modModule a (fun m => { m with state := .active }) s)

theorem leaveFaultPresent_ne (h : q ≠ p) : (leaveFaultPresent s p).pocket q = s.pocket q := by
  unfold leaveFaultPresent
  split
  · exact pocket_modPocket_ne h _ _
  · rfl

theorem returnedAt_rest (s : State) (a : Nat) : s.returnedAt a = { s with pkc := { s.pkc with
    modules := s.pkc.modules.set a { s.pkc.modules.getD a Module.none with state := .active }, pockets := (s.returnedAt a).pkc.pockets } } := by
  refine foldl_keeps (P := fun x => x = { s with pkc := { s.pkc with
    modules := s.pkc.modules.set a { s.pkc.modules.getD a Module.none with state := .active }, pockets := x.pkc.pockets } }) (fun x p _ hx => ?_) rfl
  unfold leaveFaultPresent
  split
  · generalize hps : (modPocket p Pocket.leaveFault x).pkc.pockets = ps
    have hmod : modPocket p Pocket.leaveFault x = { x with pkc := { x.pkc with pockets := ps } } := by rw [← hps]; rfl
    rw [hmod, hx]
  · exact hx

theorem returnedAt_length (s : State) (a : Nat) : (s.returnedAt a).pkc.pockets.length = s.pkc.pockets.length := by
  refine foldl_keeps (P := fun x => x.pkc.pockets.length = s.pkc.pockets.length) (fun x p _ hx => ?_) rfl
  unfold leaveFaultPresent
  split
  · simpa using hx
  · exact hx

theorem returnedAt_other (h : p / 8 ≠ a) : (s.returnedAt a).pocket p = s.pocket p :=
  foldl_pocket_other (s := modModule a (fun m => { m with state := .active }) s) fun _ _ hq =>
    leaveFaultPresent_ne fun hpq => h (hpq ▸ mem_modulePockets.1 hq)

/-- R28: a pocket of the module is as its return leaves it, or ABSENT still. -/
theorem returnedAt_self (hl : s.pkc.pockets.length = 48) (ha : a < 6) (hpa : p / 8 = a) :
    (s.pocket p).leaveFault.Alike ((s.returnedAt a).pocket p) := by
  obtain ⟨x, hx, hpx, hfx⟩ := foldl_pocket_at (s := modModule a (fun m => { m with state := .active }) s) (f := leaveFaultPresent) (p := p)
    (fun x => x.pkc.pockets.length = 48) (fun x _ hx => by
      unfold leaveFaultPresent
      split
      · simpa using hx
      · exact hx) (mem_modulePockets.2 hpa) (modulePockets_nodup a) (fun _ _ _ hq => leaveFaultPresent_ne (Ne.symm hq)) hl
  have hpx' : x.pocket p = s.pocket p := hpx
  rw [State.returnedAt, hfx, leaveFaultPresent, ← hpx']
  split
  · exact modPocket_alike (hx ▸ line_lt ha hpa)
  · next h =>
    have hab : (x.pocket p).state = .absent := by
      by_contra hne
      exact h (State.present_iff.2 ⟨line_lt ha hpa, hne⟩)
    refine .of_eq ?_
    simp [Pocket.leaveFault, hab]

theorem leaveFault_none {k : Pocket} (h : k.state ≠ .fault ∨ k.saved = none) : k.leaveFault = k := by
  unfold Pocket.leaveFault
  split
  · next hst hsv => exact absurd hst (h.resolve_right (by simp [hsv]))
  · rfl

theorem exec_moduleReturn (hs : s.running = true) (h : (s.pkc.modules.getD a Module.none).state = .silent) :
    exec (.moduleReturn a doors) s = .next (settleReader (returnModule a doors s)) := congrArg Host.Outcome.next (if_pos ⟨hs, h⟩)

/-! ### The doors a module reports (R28, R32, R33) -/

/-- What the door report of pocket p keeps of the rest of the node. -/
structure State.DoorKeeps (s t : State) (p : PocketNo) : Prop where
  pockets : ∀ q, q ≠ p → t.pocket q = s.pocket q
  queue : ∀ q, q ≠ p → q ∈ s.rds.queue → q ∈ t.rds.queue
  inFlight : t.rds.inFlight = s.rds.inFlight
  sweep : t.rds.sweep = s.rds.sweep
  modules : t.pkc.modules = s.pkc.modules
  length : t.pkc.pockets.length = s.pkc.pockets.length

theorem State.DoorKeeps.refl (s : State) (p : PocketNo) : s.DoorKeeps s p := ⟨fun _ _ => rfl, fun _ _ h => h, rfl, rfl, rfl, rfl⟩

theorem State.DoorKeeps.trans {x : State} (h : s.DoorKeeps t p) (h' : t.DoorKeeps x p) : s.DoorKeeps x p :=
  ⟨fun q hq => (h'.pockets q hq).trans (h.pockets q hq), fun q hq hs => h'.queue q hq (h.queue q hq hs), h'.inFlight.trans h.inFlight,
    h'.sweep.trans h.sweep, h'.modules.trans h.modules, h'.length.trans h.length⟩

theorem openDoor_keeps (hf : s.rds.inFlight.map (·.pocket) ≠ some p) : s.DoorKeeps (openDoor p s) p := by
  have hrds := openDoor_rds hf
  exact ⟨fun q hq => openDoor_pocket_ne hq, fun q hq hm => by rw [hrds]; simp [hm, hq], by rw [hrds], by rw [hrds], openDoor_modules p s,
    (opening_rest _ _).2.2.2⟩

theorem closing_keeps (hp : s.present p = true) : s.DoorKeeps (closing p s) p := by
  have hlen : p < s.pkc.pockets.length := lt_of_pocket_present (State.present_iff.1 hp).2
  by_cases hf : (s.pocket p).state = .fault
  · rw [closing_fault hf]
    exact .refl s p
  · have hcl := closing_closes hp hlen hf
    exact ⟨hcl.pockets, fun q _ => hcl.grows q, by rw [hcl.rest], by rw [hcl.rest], by rw [hcl.rest], hcl.length⟩

/-- R33: a door taken as CLOSED. -/
theorem closeDoor_keeps (hp : s.present p = true) : s.DoorKeeps (closeDoor p s) p := by
  unfold closeDoor
  split
  · have hmod : s.DoorKeeps (modPocket p (fun k => { k with door := .closed }) s) p :=
      ⟨fun q hq => pocket_modPocket_ne hq _ _, fun _ _ h => h, rfl, rfl, rfl, by simp⟩
    exact hmod.trans (closing_keeps (by rw [present_modPocket Iff.rfl]; exact hp))
  · exact .refl s p

theorem present_openDoor (hp : s.present p = true) : (openDoor p s).present p = true := by
  have hself := openDoor_pocket_self (s := s) (lt_of_pocket_present (State.present_iff.1 hp).2)
  rw [State.present, hself]
  exact hp

theorem answerDoor_keeps (hp : s.present p = true) (hf : s.rds.inFlight.map (·.pocket) ≠ some p) : s.DoorKeeps (answerDoor p d s) p := by
  unfold answerDoor
  dsimp only
  have hx : s.DoorKeeps (if d.isOpen || d.opened then openDoor p s else s) p ∧ (if d.isOpen || d.opened then openDoor p s else s).present p = true := by
    split
    · exact ⟨openDoor_keeps hf, present_openDoor hp⟩
    · exact ⟨.refl s p, hp⟩
  split
  · exact hx.1
  · exact hx.1.trans (closeDoor_keeps hx.2)

/-- R33: the door of pocket p, OPEN before, is taken as closed. -/
structure State.DoorCloses (s t : State) (p : PocketNo) : Prop where
  door : (t.pocket p).door = .closed
  verified : (t.pocket p).verified = (s.pocket p).verified
  contents : (t.pocket p).contents = (s.pocket p).contents
  hold : (t.pocket p).hold = (s.pocket p).hold
  insert : ((s.pocket p).state = .empty ∨ (s.pocket p).state = .openForStock) →
    (t.pocket p).state = .checking ∧ (t.pocket p).check = some .insert ∧ (t.pocket p).readRequested = true ∧ p ∈ t.rds.queue
  stocked : (s.pocket p).state = .stocked →
    (t.pocket p).state = .checking ∧ (t.pocket p).check = some (if (s.pocket p).openRelease then .remove else .recheck) ∧
      (t.pocket p).readRequested = true ∧ p ∈ t.rds.queue

theorem closeDoor_closes (hp : s.present p = true) (hf : s.rds.inFlight.map (·.pocket) ≠ some p) (hd : (s.pocket p).door = .opened) :
    s.DoorCloses (closeDoor p s) p := by
  have hlen : p < s.pkc.pockets.length := lt_of_pocket_present (State.present_iff.1 hp).2
  set x := modPocket p (fun k => { k with door := .closed }) s with hx
  have heq : closeDoor p s = closing p x := if_pos hd
  have hxk : ({ s.pocket p with door := .closed } : Pocket).Alike (x.pocket p) := modPocket_alike hlen
  have hxst : (x.pocket p).state = (s.pocket p).state := hxk.congr Pocket.state
  rw [heq]
  by_cases hflt : (s.pocket p).state = .fault
  · rw [closing_fault (hxst.trans hflt)]
    exact ⟨hxk.congr Pocket.door, hxk.congr Pocket.verified, hxk.congr Pocket.contents, hxk.congr Pocket.hold,
      fun h => absurd hflt (by rcases h with h | h <;> simp [h]), fun h => absurd hflt (by simp [h])⟩
  · have hcl : x.Closed (closing p x) p := closing_closes (by rw [hx, present_modPocket Iff.rfl]; exact hp) (by simpa [hx] using hlen) (by rwa [hxst])
    have hself : ({ s.pocket p with door := .closed } : Pocket).closed.Alike ((closing p x).pocket p) :=
      (hxk.map (f := Pocket.closed) closed_indicator).trans hcl.pocket
    obtain ⟨-, hcont, hver, hdr, hhold, -⟩ := closed_kept { s.pocket p with door := .closed }
    have hqueue : (s.pocket p).state ≠ .checking → p ∈ (closing p x).rds.queue := fun h =>
      hcl.queue hf fun hc => absurd (hxst.symm.trans hc) h
    refine ⟨(hself.congr Pocket.door).trans hdr, (hself.congr Pocket.verified).trans hver, (hself.congr Pocket.contents).trans hcont,
      (hself.congr Pocket.hold).trans hhold, fun h => ?_, fun h => ?_⟩
    · obtain ⟨h1, h2⟩ := closed_insert (k := { s.pocket p with door := .closed }) h
      exact ⟨(hself.congr Pocket.state).trans h1, (hself.congr Pocket.check).trans h2, hself.congr Pocket.readRequested,
        hqueue (by rcases h with h | h <;> simp [h])⟩
    · obtain ⟨h1, h2⟩ := closed_stocked (k := { s.pocket p with door := .closed }) h
      exact ⟨(hself.congr Pocket.state).trans h1, (hself.congr Pocket.check).trans h2, hself.congr Pocket.readRequested, hqueue (by simp [h])⟩

/-- R28: the pocket after its door report. -/
structure State.DoorAnswered (s t : State) (p : PocketNo) (d : LineDoor) : Prop where
  verified : (s.pocket p).verified = false → (t.pocket p).verified = false
  contents : (t.pocket p).contents = (s.pocket p).contents
  hold : (t.pocket p).hold = (s.pocket p).hold
  isOpen : d.isOpen = true → (t.pocket p).door = .opened ∧ (t.pocket p).state = (s.pocket p).state ∧ (t.pocket p).mark = none ∧
    (t.pocket p).timerRunning = false ∧ (t.pocket p).readRequested = false
  closed : d.isOpen = false → (t.pocket p).door = .closed
  stayed : d.isOpen = false → d.opened = false → (s.pocket p).door = .closed →
    (t.pocket p).state = (s.pocket p).state ∧ (t.pocket p).mark = (s.pocket p).mark
  closes : d.isOpen = false → (d.opened = true ∨ (s.pocket p).door = .opened) →
    (((s.pocket p).state = .empty ∨ (s.pocket p).state = .openForStock) →
      (t.pocket p).state = .checking ∧ (t.pocket p).check = some .insert ∧ (t.pocket p).readRequested = true ∧ p ∈ t.rds.queue) ∧
    ((s.pocket p).state = .stocked →
      (t.pocket p).state = .checking ∧ (t.pocket p).check = some (if (s.pocket p).openRelease then .remove else .recheck) ∧
        (t.pocket p).readRequested = true ∧ p ∈ t.rds.queue)

theorem answerDoor_answers (hp : s.present p = true) (hf : s.rds.inFlight.map (·.pocket) ≠ some p) : s.DoorAnswered (answerDoor p d s) p d := by
  have hlen : p < s.pkc.pockets.length := lt_of_pocket_present (State.present_iff.1 hp).2
  have hself := openDoor_pocket_self (s := s) hlen
  by_cases ho : d.isOpen = true
  · have heq : answerDoor p d s = openDoor p s := by simp [answerDoor, ho]
    rw [heq]
    exact ⟨fun _ => by rw [hself], by rw [hself], by rw [hself], fun _ => by rw [hself]; exact ⟨rfl, rfl, rfl, rfl, rfl⟩,
      fun h => absurd ho (by simp [h]), fun h => absurd ho (by simp [h]), fun h => absurd ho (by simp [h])⟩
  · rw [Bool.not_eq_true] at ho
    by_cases hop : d.opened = true
    · have heq : answerDoor p d s = closeDoor p (openDoor p s) := by simp [answerDoor, ho, hop]
      have hx := openDoor_keeps hf
      have hcl := closeDoor_closes (s := openDoor p s) (present_openDoor hp) (by rw [hx.inFlight]; exact hf) (by rw [hself])
      rw [heq]
      obtain ⟨hdoor, hver, hcont, hhold, hins, hstk⟩ := hcl
      rw [hself] at hver hcont hhold hins hstk
      exact ⟨fun _ => hver, hcont, hhold, fun h => absurd ho (by simp [h]), fun _ => hdoor, fun _ h => absurd hop (by simp [h]),
        fun _ _ => ⟨hins, hstk⟩⟩
    · rw [Bool.not_eq_true] at hop
      have heq : answerDoor p d s = closeDoor p s := by simp [answerDoor, ho, hop]
      rw [heq]
      cases hd : (s.pocket p).door with
      | opened =>
        obtain ⟨hdoor, hver, hcont, hhold, hins, hstk⟩ := closeDoor_closes hp hf hd
        exact ⟨fun h => hver.trans h, hcont, hhold, fun h => absurd ho (by simp [h]), fun _ => hdoor, fun _ _ h => absurd (hd.symm.trans h) (by decide),
          fun _ _ => ⟨hins, hstk⟩⟩
      | closed =>
        have hsame : closeDoor p s = s := if_neg (by simp [hd])
        rw [hsame]
        exact ⟨id, rfl, rfl, fun h => absurd ho (by simp [h]), fun _ => hd, fun _ _ _ => ⟨rfl, rfl⟩,
          fun _ h => absurd h (by simp [hop, hd])⟩

theorem State.DoorAnswered.congr {s' t' : State} (h : s.DoorAnswered t p d) (hs : s'.pocket p = s.pocket p) (ht : t'.pocket p = t.pocket p)
    (hq : p ∈ t.rds.queue → p ∈ t'.rds.queue) : s'.DoorAnswered t' p d := by
  obtain ⟨hver, hcont, hhold, hopen, hclosed, hstay, hcl⟩ := h
  rw [← hs, ← ht] at hver hcont hhold hopen hstay hcl
  rw [← ht] at hclosed
  refine ⟨hver, hcont, hhold, hopen, hclosed, hstay, fun h1 h2 => ⟨fun h3 => ?_, fun h3 => ?_⟩⟩
  · obtain ⟨h4, h5, h6, h7⟩ := (hcl h1 h2).1 h3
    exact ⟨h4, h5, h6, hq h7⟩
  · obtain ⟨h4, h5, h6, h7⟩ := (hcl h1 h2).2 h3
    exact ⟨h4, h5, h6, hq h7⟩

/-- R28: the door report of line i of the module at address a. -/
def answerLine (a : Nat) (doors : List LineDoor) (s : State) (i : Nat) : State :=
  if s.present (a * 8 + i) then answerDoor (a * 8 + i) (doors.getD i { isOpen := false, opened := false }) s else s

/-- What the door reports of other lines keep of pocket p, and what every one keeps. -/
structure State.LineKeeps (s t : State) (p : PocketNo) : Prop where
  pocket : t.pocket p = s.pocket p
  queue : p ∈ s.rds.queue → p ∈ t.rds.queue
  inFlight : t.rds.inFlight = s.rds.inFlight
  sweep : t.rds.sweep = s.rds.sweep
  modules : t.pkc.modules = s.pkc.modules
  length : t.pkc.pockets.length = s.pkc.pockets.length

/-- The reader holds a read of a pocket of another module. -/
def State.readsBeyond (s : State) (a : Nat) : Prop := ∀ p, p / 8 = a → s.rds.inFlight.map (·.pocket) ≠ some p

theorem line_address {a i : Nat} (hi : i < 8) : (a * 8 + i) / 8 = a := by omega

theorem answerLine_keeps {i : Nat} (hi : i < 8) (hf : s.readsBeyond a) : s.DoorKeeps (answerLine a doors s i) (a * 8 + i) := by
  unfold answerLine
  split
  · next h => exact answerDoor_keeps h (hf _ (line_address hi))
  · exact .refl _ _

theorem foldl_answerLine_keeps {l : List Nat} (hl : ∀ i ∈ l, i < 8) (hp : ∀ i ∈ l, p ≠ a * 8 + i) (hf : s.readsBeyond a) :
    s.LineKeeps (l.foldl (answerLine a doors) s) p := by
  refine foldl_keeps (P := fun x => s.LineKeeps x p) (fun x i hi hx => ?_) ⟨rfl, id, rfl, rfl, rfl, rfl⟩
  have hfx : x.readsBeyond a := fun q hq => by rw [hx.inFlight]; exact hf q hq
  have hstep := answerLine_keeps (doors := doors) (hl i hi) hfx
  exact ⟨(hstep.pockets p (hp i hi)).trans hx.pocket, fun h => hstep.queue p (hp i hi) (hx.queue h), hstep.inFlight.trans hx.inFlight,
    hstep.sweep.trans hx.sweep, hstep.modules.trans hx.modules, hstep.length.trans hx.length⟩

/-- R28: every present pocket of the module is as its own line reports. -/
theorem foldl_answerLine_answers (hpa : p / 8 = a) (hp : s.present p = true) (hf : s.readsBeyond a) :
    s.DoorAnswered ((List.range 8).foldl (answerLine a doors) s) p (doors.getD (p % 8) ⟨false, false⟩) := by
  subst hpa
  have hmem : p % 8 ∈ List.range 8 := List.mem_range.2 (Nat.mod_lt _ (by decide))
  have hnd : (List.range 8).Nodup := List.nodup_range
  have hlt : ∀ i ∈ List.range 8, i < 8 := fun i hi => List.mem_range.1 hi
  obtain ⟨l1, l2, hsplit⟩ := List.append_of_mem hmem
  rw [hsplit] at hnd hlt ⊢
  obtain ⟨-, h2, hd⟩ := List.nodup_append.1 hnd
  obtain ⟨hq2, -⟩ := List.nodup_cons.1 h2
  have h1 := foldl_answerLine_keeps (s := s) (doors := doors) (p := p) (a := p / 8) (l := l1) (fun i hi => hlt i (List.mem_append_left _ hi))
    (fun i hi => module_pocket_ne fun he => hd i hi _ List.mem_cons_self he) hf
  rw [List.foldl_append, List.foldl_cons]
  set x := l1.foldl (answerLine (p / 8) doors) s with hx
  have hpx : x.present p = true := by rw [State.present, h1.pocket]; exact hp
  have hfx : x.readsBeyond (p / 8) := fun q hq => by rw [h1.inFlight]; exact hf q hq
  have hstep : answerLine (p / 8) doors x (p % 8) = answerDoor p (doors.getD (p % 8) ⟨false, false⟩) x := by
    rw [answerLine, module_pocket_split, if_pos hpx]
  rw [hstep]
  have hans := answerDoor_answers (d := doors.getD (p % 8) ⟨false, false⟩) hpx (hfx p rfl)
  have hkeep := answerDoor_keeps (d := doors.getD (p % 8) ⟨false, false⟩) hpx (hfx p rfl)
  have h3 := foldl_answerLine_keeps (s := answerDoor p (doors.getD (p % 8) ⟨false, false⟩) x) (doors := doors) (p := p) (a := p / 8) (l := l2)
    (fun i hi => hlt i (List.mem_append_right _ (List.mem_cons_of_mem _ hi)))
    (fun i hi => module_pocket_ne fun he => hq2 (he ▸ hi)) (fun q hq => by rw [hkeep.inFlight]; exact hfx q hq)
  exact hans.congr h1.pocket.symm h3.pocket h3.queue

theorem returnedAt_door (ha : a < s.pkc.modules.length) :
    ((s.returnedAt a).pkc.modules.getD a Module.none).door = (s.pkc.modules.getD a Module.none).door := by
  rw [returnedAt_rest]
  simp [ha]

theorem returnModule_plain (ha : a < s.pkc.modules.length) (hd : (s.pkc.modules.getD a Module.none).door = false) :
    returnModule a doors s = reportQuiet (s.returnedAt a) :=
  if_neg (by
    rw [Bool.not_eq_true]
    exact (returnedAt_door ha).trans hd)

theorem returnModule_doors (ha : a < s.pkc.modules.length) (hd : (s.pkc.modules.getD a Module.none).door = true)
    (hw : ((List.range 8).foldl (answerLine a doors) (s.returnedAt a)).rds.sweep = .idle) :
    returnModule a doors s = (List.range 8).foldl (answerLine a doors) (s.returnedAt a) := by
  have heq : returnModule a doors s = reportQuiet (if doors.any (fun d => d.isOpen || d.opened)
      then quietLost ((List.range 8).foldl (answerLine a doors) (s.returnedAt a)) else (List.range 8).foldl (answerLine a doors) (s.returnedAt a)) :=
    if_pos ((returnedAt_door ha).trans hd)
  have hlost : quietLost ((List.range 8).foldl (answerLine a doors) (s.returnedAt a)) = (List.range 8).foldl (answerLine a doors) (s.returnedAt a) :=
    if_neg (by simp [hw])
  rw [heq, hlost, ite_self, reportQuiet_idle hw]

/-- Settles O21, by the door sensors of the module and its report. -/
theorem moduleAnswers : Obligations.ModuleAnswers := by
  refine ⟨fun a doors s hs ha hml hl hst hdoor hb => ?plain, fun a doors s hs ha hml hl hst hdoor hw hf => ?doors,
    fun a s => ⟨fun hs hst hb => ?changed, fun hst => ⟨congrArg Host.Outcome.next (if_neg fun h => hst h.2), fun doors =>
      congrArg Host.Outcome.next (if_neg fun h => hst h.2)⟩⟩⟩
  case plain =>
    have hrest := returnedAt_rest s a
    have hrds : (s.returnedAt a).rds = s.rds := by rw [hrest]
    rw [exec_moduleReturn hs hst, returnModule_plain (hml ▸ ha) hdoor, reportQuiet_idle (by rw [hrds]; exact hb.2),
      settleReader_of_busy (hb.of_rds (by rw [hrds]) (by rw [hrds]))]
    refine ⟨_, rfl, by rw [hrest], fun p hp => returnedAt_other hp, fun p x hpa hf hx => ?_, fun p hpa h => ?_, ?_⟩
    · have hal := returnedAt_self hl ha hpa
      rw [leaveFault_eq hf hx] at hal
      refine ⟨hal.congr Pocket.state, hal.congr Pocket.saved, hal.congr Pocket.verified, hal.congr Pocket.contents, hal.congr Pocket.hold,
        hal.congr Pocket.mark, hal.congr Pocket.timer, fun h => (hal.congr Pocket.latch).trans ?_, fun h => (hal.congr Pocket.latch).trans ?_,
        fun h => (hal.congr Pocket.latch).trans ?_, ?_⟩
      · rcases h with rfl | rfl <;> rfl
      · rcases h with rfl | rfl | rfl | rfl <;> rfl
      · subst h
        rfl
      · obtain ⟨i, hi⟩ := hal
        have hself : ({ s.pocket p with state := .fault, saved := some x } : Pocket) = s.pocket p := by rw [← hf, ← hx]
        rw [hi]
        exact hself
    · have hal := returnedAt_self hl ha hpa
      rw [leaveFault_none h] at hal
      exact hal.with_indicator
    · have hmods : (s.returnedAt a).pkc.modules = s.pkc.modules.set a { s.pkc.modules.getD a Module.none with state := .active } := by rw [hrest]
      rw [hmods]
      exact hrest
  case doors =>
    obtain ⟨r, hr, hra⟩ := hf
    set y := s.returnedAt a with hy
    have hrest : y = _ := returnedAt_rest s a
    have hyr : y.rds = s.rds := by rw [hrest]
    have hbeyond : y.readsBeyond a := fun p hp h => hra (by
      rw [hyr, hr] at h
      exact (congrArg (· / 8) (Option.some.inj h)).trans hp)
    have hout : ∀ p, p / 8 ≠ a → y.LineKeeps ((List.range 8).foldl (answerLine a doors) y) p := fun p hp =>
      foldl_answerLine_keeps (fun i hi => List.mem_range.1 hi) (fun i hi => module_pocket_ne_of_address hp (List.mem_range.1 hi)) hbeyond
    have hany := hout ((a + 1) * 8) (by rw [Nat.mul_div_cancel _ (by decide)]; exact Nat.succ_ne_self a)
    set t := (List.range 8).foldl (answerLine a doors) y with ht
    have hidle : t.rds.sweep = .idle := by rw [hany.sweep, hyr]; exact hw
    have hret : returnModule a doors s = t := returnModule_doors (hml ▸ ha) hdoor hidle
    have hfr := returnModule_frame a doors s
    rw [hret] at hfr
    obtain ⟨htrg, hpru, hhli, hcck, hstc, -, -⟩ := hfr
    rw [exec_moduleReturn hs hst, hret, settleReader_of_busy ⟨by rw [hany.inFlight, hyr, hr]; rfl, hidle⟩]
    refine ⟨t, rfl, by rw [hany.modules, hrest], fun p hp => (hout p hp).pocket.trans (returnedAt_other hp), fun p x d hpa hf hx hab hd => ?_,
      htrg, hpru, hhli, hcck, hstc⟩
    have hal := returnedAt_self (p := p) hl ha hpa
    rw [leaveFault_eq hf hx, ← hy] at hal
    have hyst : (y.pocket p).state = x := hal.congr Pocket.state
    have hpres : y.present p = true := State.present_iff.2 ⟨line_lt ha hpa, by rw [hyst]; exact hab⟩
    have hans := foldl_answerLine_answers (doors := doors) hpa hpres hbeyond
    rw [← ht, ← hd] at hans
    refine ⟨hans.verified (hal.congr Pocket.verified), hans.contents.trans (hal.congr Pocket.contents), hans.hold.trans (hal.congr Pocket.hold),
      fun h => ?_, hans.closed, fun h1 h2 h3 => ?_, fun h1 h2 => ?_⟩
    · obtain ⟨h1, h2, h3⟩ := hans.isOpen h
      exact ⟨h1, h2.trans hyst, h3⟩
    · obtain ⟨h4, h5⟩ := hans.stayed h1 h2 ((hal.congr Pocket.door).trans h3)
      exact ⟨h4.trans hyst, h5.trans (hal.congr Pocket.mark)⟩
    · obtain ⟨h3, h4⟩ := hans.closes h1 (h2.imp id fun h => (hal.congr Pocket.door).trans h)
      rw [hyst] at h3 h4
      rw [hal.congr Pocket.openRelease] at h4
      exact ⟨h3, h4⟩
  case changed =>
    have hex : exec (.moduleChanged a) s = .next (settleReader (reportQuiet (modModule a (fun m => { m with state := .changed }) s))) :=
      congrArg Host.Outcome.next (if_pos ⟨hs, hst⟩)
    rw [hex, reportQuiet_idle (s := modModule a _ s) hb.2, settleReader_of_busy (s := modModule a _ s) (hb.of_rds rfl rfl)]
    rfl

end Sys2Proof.Machine

/-! PROOFS. The second and the minute: timers, ages, the stamp, and the alarms (O19). -/

namespace Sys2Proof.Machine

open Sys2Proof

variable {s t : State} {p q : PocketNo} {u : ToolId} {e : Entry} {L : List ToolId}

/-! ### A second (R177, R178, R184) -/

/-- R177, R184: the state after the calendar's second and the reading of the backup level. -/
def State.ticked (s : State) (low : Bool) : State :=
  { s with cck := { s.cck with cal := s.cck.cal.tick, trust := s.cck.trust && !s.cck.cal.atEnd,
                               low := if s.stc.powered = true ∧ s.stc.node ≠ .loading then low else s.cck.low } }

theorem readLevel_tickCalendar (low : Bool) (s : State) : readLevel low (tickCalendar s) = s.ticked low := by
  have hp : (tickCalendar s).stc = s.stc := rfl
  unfold readLevel State.ticked
  rw [hp]
  split <;> rfl

theorem exec_secondEvent_stopped (hs : s.running = false) (low : Bool) : exec (.secondEvent low) s = .next (s.ticked low) := by
  have hr : (readLevel low (tickCalendar s)).running = false := by rw [readLevel_tickCalendar]; exact hs
  refine (congrArg Host.Outcome.next (if_neg ?_)).trans (congrArg _ (readLevel_tickCalendar low s))
  simp [hr]

/-- R178, R31: the timers counted down, and the latches of the lock faults commanded once more. -/
def State.timed (s : State) (low : Bool) : State := retryLatches (countTimers (s.ticked low))

theorem ticked_of_running (hs : s.running = true) (low : Bool) :
    s.ticked low = { s with cck := { s.cck with cal := s.cck.cal.tick, trust := s.cck.trust && !s.cck.cal.atEnd, low := low } } := by
  have hc : s.stc.powered = true ∧ s.stc.node ≠ .loading := by
    simp only [State.running, Bool.and_eq_true] at hs
    refine ⟨hs.1, fun h => ?_⟩
    rw [h] at hs
    exact absurd hs.2 (by simp)
  rw [State.ticked, if_pos hc]

theorem exec_secondEvent (hs : s.running = true) (low : Bool) : exec (.secondEvent low) s =
    .next (settleReader (if s.cck.cal.tick.second = 0 then minuteEvent (s.timed low) else s.timed low)) := by
  have hr : (readLevel low (tickCalendar s)).running = true := by rw [readLevel_tickCalendar]; exact hs
  have hex : exec (.secondEvent low) s = .next (secondEvent (readLevel low (tickCalendar s))) := congrArg Host.Outcome.next (if_pos hr)
  rw [hex, readLevel_tickCalendar]
  rfl

/-- What the counting of timers leaves of the blocks that hold no timer. -/
theorem timed_rest (s : State) (low : Bool) : (s.timed low).rds = s.rds ∧ (s.timed low).pru = s.pru ∧ (s.timed low).slk = s.slk ∧
    (s.timed low).stc = s.stc ∧ (s.timed low).free = s.free ∧ (s.timed low).hli.routine = s.hli.routine ∧
    (s.timed low).hli.urgent = s.hli.urgent ∧ (s.timed low).trg = { s.trg with entries := s.trg.entries.map Entry.second } ∧
    (s.timed low).cck.cal = s.cck.cal.tick ∧ (s.timed low).cck.trust = (s.cck.trust && !s.cck.cal.atEnd) :=
  ⟨rfl, rfl, rfl, rfl, rfl, rfl, rfl, rfl, rfl, rfl⟩

theorem timed_pockets (s : State) (low : Bool) : (s.timed low).pkc.pockets = s.pkc.pockets.mapIdx (fun p k =>
    let k' := if k.timerRunning = true ∧ k.state ≠ .fault then { k with timer := k.timer.map (· - 1) } else k
    if s.moduleActive p then k'.relatched else k') := by
  refine List.ext_getElem (by simp [State.timed, retryLatches, countTimers]; rfl) fun p hp hp' => ?_
  simp only [State.timed, retryLatches, countTimers, List.getElem_mapIdx, List.getElem_map]
  have hsec : ∀ k : Pocket, k.second = if k.timerRunning = true ∧ k.state ≠ .fault then { k with timer := k.timer.map (· - 1) } else k := fun k => by
    simp [Pocket.second]
  rw [hsec]
  rfl

/-! ### The pockets keep what the sweep and the banks ask of them -/

theorem timed_pocket (s : State) (low : Bool) (p : PocketNo) :
    ((s.timed low).pocket p).state = (s.pocket p).state ∧ ((s.timed low).pocket p).door = (s.pocket p).door := by
  have hcount : (countTimers (s.ticked low)).pocket p = (s.pocket p).second := by
    simp only [State.pocket, countTimers, State.ticked, List.getD_eq_getElem?_getD, List.getElem?_map]
    cases s.pkc.pockets[p]? <;> rfl
  have hsec : ∀ k : Pocket, k.second.state = k.state ∧ k.second.door = k.door := fun k => by
    unfold Pocket.second
    split <;> exact ⟨rfl, rfl⟩
  have hrel : ∀ k : Pocket, k.relatched.state = k.state ∧ k.relatched.door = k.door := fun k => by
    unfold Pocket.relatched
    split <;> exact ⟨rfl, rfl⟩
  rw [State.timed, pocket_retryLatches, hcount]
  split
  · exact ⟨(hrel _).1.trans (hsec _).1, (hrel _).2.trans (hsec _).2⟩
  · exact hsec _

theorem timed_quiet (s : State) (low : Bool) : (s.timed low).quiet = s.quiet := by
  have hact : ∀ p, (s.timed low).moduleActive p = s.moduleActive p := fun p => moduleActive_of_modules rfl p
  rw [Bool.eq_iff_iff, quiet_iff, quiet_iff]
  simp only [State.present, timed_pocket, hact]

/-! ### A minute (R14, R15, R180) -/

theorem matches_iff {c : Calendar} {a : Alarm} : Alarm.matches c a = true ↔
    a.enable = true ∧ (a.hour = none ∨ a.hour = some c.hour) ∧ (a.minute = none ∨ a.minute = some c.minute) ∧
      a.weekdays.getD c.weekday false = true := by
  cases hh : a.hour <;> cases hm : a.minute <;> simp [Alarm.matches, hh, hm, and_assoc]

theorem alarmActions_none (h : s.cck.trust = false ∨ ∀ c, s.stc.config = some c → ∀ a ∈ c.alarms, Alarm.matches s.cck.cal a = false) :
    s.alarmActions = [] := by
  unfold State.alarmActions
  split
  · next c hc =>
    rcases h with h | h
    · simp [h]
    · have hnil : c.alarms.filter (Alarm.matches s.cck.cal) = [] := List.filter_eq_nil_iff.2 fun a ha => by simp [h c hc a ha]
      simp [hnil]
  · rfl

theorem alarmActions_trusted {c : NodeConfig} (ht : s.cck.trust = true) (hc : s.stc.config = some c) :
    s.alarmActions = (c.alarms.filter (Alarm.matches s.cck.cal)).map (·.action) := by
  simp [State.alarmActions, hc, ht]

theorem minuteEvent_none (h : s.alarmActions = []) : minuteEvent s = agePresets 1 (writeStamp s) := by
  simp [minuteEvent, h, actAlarms]

theorem minuteEvent_sweep (h : s.alarmActions = [.sweep]) : minuteEvent s = startIdleSweep (agePresets 1 (writeStamp s)) := by
  simp [minuteEvent, h, actAlarms, alarmAct]

/-- R181: the age review before or after the ageing of the minute. -/
theorem minuteEvent_review (h : s.alarmActions = [.ageReview]) :
    minuteEvent s = agePresets 1 (ageReview { writeStamp s with free := s.free + 1 }) ∨
      minuteEvent s = ageReview (agePresets 1 { writeStamp s with free := s.free + 1 }) := by
  simp only [minuteEvent, h, actAlarms, alarmAct, List.foldl_cons, List.foldl_nil, List.contains_cons, BEq.rfl, Bool.true_or, if_true]
  split
  · exact .inl rfl
  · exact .inr rfl

/-- R14: the entry a minute later. -/
theorem second_older_map (l : List Entry) : (l.map Entry.second).map (Entry.older 1) = l.map (fun e =>
    { e with awayTimer := e.awayTimer.map (· - 1), preset := e.preset.map (fun p => { p with age := min 65535 (p.age + 1) }) }) := by
  rw [List.map_map]
  rfl

theorem minute_trg (s : State) (low : Bool) : (agePresets 1 (writeStamp (s.timed low))).trg = { s.trg with
    entries := s.trg.entries.map (fun e =>
      { e with awayTimer := e.awayTimer.map (· - 1), preset := e.preset.map (fun p => { p with age := min 65535 (p.age + 1) }) }),
    stamp := s.cck.cal.tick.toStamp } := by
  rw [← second_older_map]
  rfl

theorem advanceSweep_inFlight (y : SweepStatus) (s : State) : (advanceSweep (recordStatus y s)).rds.inFlight = s.rds.inFlight := by
  unfold advanceSweep
  split
  · rfl
  · rw [(pushNotice_frame _ _).2.2.1]
    rfl

theorem visit_inFlight (s : State) : (visit s).rds.inFlight = s.rds.inFlight := by
  unfold visit
  dsimp only
  split
  · exact advanceSweep_inFlight _ _
  · split
    · exact advanceSweep_inFlight _ _
    · split
      · exact (advanceSweep_inFlight _ _).trans (requestRead_reader _ _).1
      · rw [enqueueRead_queue]

/-- R60: while a read is under way the sweep changes nothing of the register. -/
theorem settleReader_trg (h : s.rds.inFlight.isSome = true) : (settleReader s).trg = s.trg := by
  refine (readerRun_keeps (P := fun t => t.trg = s.trg ∧ t.rds.inFlight.isSome = true) (fun x y hx hy => ?_) 256 s ⟨rfl, h⟩).1
  obtain ⟨-, -, rfl⟩ := readerStep_inFlight hx.2 hy
  exact ⟨(visit_frame x).1.trans hx.1, by rw [visit_inFlight]; exact hx.2⟩

/-! ### The age review (R181, R182) -/

theorem overAge_iff : s.overAge e = true ↔ e.custody ≠ .foreign ∧ e.condition = .ready ∧
    ∃ p k, e.preset = some p ∧ s.kind? e.kind = some k ∧ k.ageLimit < p.age := by
  unfold State.overAge
  cases hp : e.preset <;> cases hk : s.kind? e.kind <;> simp [Entry.here_iff, and_assoc]

/-- R182: the entry of a tool whose preset is past its age limit. -/
def Entry.dated (e : Entry) : Entry := { e with condition := .needsPreset, version := e.version + 1 }

theorem placeRecord_length_succ (r : Record) (l : List Frame) : (placeRecord r l).length ≤ l.length + 1 := by
  unfold placeRecord appendRoutine
  split
  · simp
  · split
    · simp
    · split
      · have := List.length_eraseP_le (p := Frame.isRecord) (l := l)
        simp only [List.length_append, List.length_singleton]
        omega
      · omega

/-- R94: a RECORD that takes the place of its tool's own leaves every tool's. -/
theorem placeRecord_stays {r : Record} {l : List Frame} (hp : l.any (Frame.isRecordOf r.tool) = true)
    (h : l.any (Frame.isRecordOf u) = true) : (placeRecord r l).any (Frame.isRecordOf u) = true := by
  rw [placeRecord_present hp]
  obtain ⟨f, hf, hfu⟩ := List.any_eq_true.1 h
  refine List.any_eq_true.2 ⟨_, List.mem_map_of_mem hf, ?_⟩
  split
  · next hfr =>
    have htool : r.tool = u := by
      cases f <;> simp only [Frame.isRecordOf, beq_iff_eq, Bool.false_eq_true] at hfr hfu
      exact hfr.symm.trans hfu
    simp [Frame.isRecordOf, htool]
  · exact hfu

/-- R94, R95: a RECORD placed in a queue with room pushes out no other tool's. -/
theorem placeRecord_keeps {r : Record} {l : List Frame} (hl : l.length < 16) (h : l.any (Frame.isRecordOf u) = true) :
    (placeRecord r l).any (Frame.isRecordOf u) = true := by
  by_cases hp : l.any (Frame.isRecordOf r.tool) = true
  · exact placeRecord_stays hp h
  · rw [placeRecord_room (by simpa using hp) hl, List.any_append, h, Bool.true_or]

theorem placeRecord_self {r : Record} {l : List Frame} (hl : l.length < 16) : (placeRecord r l).any (Frame.isRecordOf r.tool) = true :=
  List.any_eq_true.2 ⟨_, mem_placeRecord (.inl hl), by simp [Frame.isRecordOf]⟩

/-- R181, R182: `t` is `s` after the review of the tools of `L`: their entries dated, the others as they were, and while the queues
have room for all of them the RECORDs and the places of the Preset Queue that each brings. -/
structure State.Reviewed (s : State) (L : List ToolId) (t : State) : Prop where
  entries : ∀ v, t.entry? v = if v ∈ L then (s.entry? v).map Entry.dated else s.entry? v
  stamp : t.trg.stamp = s.trg.stamp
  rds : t.rds = s.rds
  cue : t.cue = s.cue
  stc : t.stc = s.stc
  bounded : t.Bounded
  routine : s.stc.node ≠ .idConflict → s.hli.routine.length + L.length ≤ 16 →
    t.hli.routine.length ≤ s.hli.routine.length + L.length ∧
      ∀ v, v ∈ L ∨ s.hli.routine.any (Frame.isRecordOf v) = true → t.hli.routine.any (Frame.isRecordOf v) = true
  queue : s.pru.queue.length + L.length ≤ 32 → t.pru.queue.length ≤ s.pru.queue.length + L.length ∧
    ∀ v, v ∈ L ∨ v ∈ s.pru.queue → v ∈ t.pru.queue

theorem reviewed_nil (hb : s.Bounded) : s.Reviewed [] s where
  entries v := by simp
  stamp := rfl
  rds := rfl
  cue := rfl
  stc := rfl
  bounded := hb
  routine _ _ := ⟨Nat.le_add_right _ _, fun v hv => hv.resolve_left (by simp)⟩
  queue _ := ⟨Nat.le_add_right _ _, fun v hv => hv.resolve_left (by simp)⟩

theorem reviewed_cons {x : State} (hx : s.Reviewed [u] x) (ht : x.Reviewed L t) (hu : u ∉ L) : s.Reviewed (u :: L) t where
  entries v := by
    rw [ht.entries, hx.entries]
    by_cases hv : v = u
    · subst hv
      simp [hu]
    · simp [hv]
  stamp := ht.stamp.trans hx.stamp
  rds := ht.rds.trans hx.rds
  cue := ht.cue.trans hx.cue
  stc := ht.stc.trans hx.stc
  bounded := ht.bounded
  routine hn hl := by
    simp only [List.length_cons] at hl ⊢
    obtain ⟨hxl, hxk⟩ := hx.routine hn (by simp only [List.length_singleton]; omega)
    simp only [List.length_singleton] at hxl
    obtain ⟨htl, htk⟩ := ht.routine (by rw [hx.stc]; exact hn) (by omega)
    refine ⟨by omega, fun v hv => htk v ?_⟩
    rw [List.mem_cons, or_assoc, or_left_comm] at hv
    exact hv.imp_right fun h => hxk v (h.imp_left List.mem_singleton.2)
  queue hl := by
    simp only [List.length_cons] at hl ⊢
    obtain ⟨hxl, hxk⟩ := hx.queue (by simp only [List.length_singleton]; omega)
    simp only [List.length_singleton] at hxl
    obtain ⟨htl, htk⟩ := ht.queue (by omega)
    refine ⟨by omega, fun v hv => htk v ?_⟩
    rw [List.mem_cons, or_assoc, or_left_comm] at hv
    exact hv.imp_right fun h => hxk v (h.imp_left List.mem_singleton.2)

/-- R181, R8: the versioned change of one reviewed tool. -/
theorem reviewed_one (hb : s.Bounded) (h : s.entry? u = some e) (hh : e.custody ≠ .foreign) (hr : e.condition = .ready)
    (hg : s.cue.givers = []) (hw : s.cue.windows = []) :
    s.Reviewed [u] (versionedCondition u (fun e => { e with condition := .needsPreset }) s) := by
  have hgiver : s.giverOf? u = none := by simp [State.giverOf?, hg]
  have ha := adoptionOpen_of_windows_nil hw u
  have htool : e.dated.tool = u := (tool_of_entry? h : e.tool = u)
  have hput : (handRecord u (putEntry e.dated (clearEntryMark e s))).entry? u = some e.dated := by
    rw [entry?_of_trg (handRecord_frame _ _).1]
    exact entry?_putEntry_of_tool (by simpa using hb.register) htool
  have heq : versioned u (fun e => { e with condition := .needsPreset }) s =
      presetReport u (handRecord u (putEntry e.dated (clearEntryMark e s))) := by
    rw [versioned_eq h ha, if_neg (by simp [hr])]
    rfl
  have hpru := presetReport_pru hput hh rfl
  rw [versionedCondition_eq hgiver]
  refine ⟨fun v => ?entries, ?stamp, ?rds, ?cue, ?stc, versioned_bounded _ _ hb fun _ => rfl, fun hn hl => ?routine, fun hl => ?queue⟩
  case entries =>
    by_cases hv : v = u
    · subst hv
      rw [versioned_entry_self hb h ha (f := fun e => { e with condition := .needsPreset }) rfl]
      simp [h, Entry.dated]
    · rw [versioned_entry_ne hb h ha (f := fun e => { e with condition := .needsPreset }) rfl hv]
      simp [hv]
  case stamp => rw [versioned_trg h ha]; rfl
  case rds => simp
  case cue => simp
  case stc => simp
  case routine =>
    have hl' : s.hli.routine.length < 16 := by simpa using hl
    rw [versioned_hli hb h ha rfl hh hn]
    refine ⟨placeRecord_length_succ _ _, fun v hv => ?_⟩
    rcases hv with hv | hv
    · rw [List.mem_singleton.1 hv]
      have hself := placeRecord_self (r := e.dated.record) hl'
      rw [show e.dated.record.tool = u from htool] at hself
      exact hself
    · exact placeRecord_keeps hl' hv
  case queue =>
    have hl' : s.pru.queue.length < 32 := by simpa using hl
    have hq : (handRecord u (putEntry e.dated (clearEntryMark e s))).pru.queue = s.pru.queue := by simp
    rw [heq, hpru, hq, if_pos hl']
    dsimp only
    split
    · next hm =>
      refine ⟨Nat.le_add_right _ _, fun v hv => ?_⟩
      rcases hv with hv | hv
      · rwa [List.mem_singleton.1 hv]
      · exact hv
    · exact ⟨by simp, fun v hv => List.mem_append.2 hv.symm⟩

theorem reviewed_foldl (hb : s.Bounded) (hg : s.cue.givers = []) (hw : s.cue.windows = []) (hd : L.Nodup)
    (hL : ∀ u ∈ L, ∃ e, s.entry? u = some e ∧ e.custody ≠ .foreign ∧ e.condition = .ready) :
    s.Reviewed L (L.foldl (fun s t => versionedCondition t (fun e => { e with condition := .needsPreset }) s) s) := by
  induction L generalizing s with
  | nil => exact reviewed_nil hb
  | cons u L ih =>
    obtain ⟨hu, hd⟩ := List.nodup_cons.1 hd
    obtain ⟨e, he, hh, hr⟩ := hL u List.mem_cons_self
    have hone := reviewed_one hb he hh hr hg hw
    refine reviewed_cons hone (ih hone.bounded (by rw [hone.cue]; exact hg) (by rw [hone.cue]; exact hw) hd fun v hv => ?_) hu
    obtain ⟨e', he', h'⟩ := hL v (List.mem_cons_of_mem _ hv)
    have hne : v ≠ u := fun h => hu (h ▸ hv)
    exact ⟨e', by rw [hone.entries, if_neg (by simpa using hne)]; exact he', h'⟩

theorem nodup_tools_filter (hb : s.Bounded) (P : Entry → Bool) : ((s.trg.entries.filter P).map (·.tool)).Nodup :=
  List.pairwise_map.2 ((hb.register.filter P).imp ne_of_lt)

theorem mem_tools_filter (hb : s.Bounded) {P : Entry → Bool} :
    u ∈ (s.trg.entries.filter P).map (·.tool) ↔ ∃ e, s.entry? u = some e ∧ P e = true := by
  simp only [List.mem_map, List.mem_filter]
  constructor
  · rintro ⟨e, ⟨hmem, hP⟩, rfl⟩
    exact ⟨e, entry?_of_mem hb.register hmem, hP⟩
  · rintro ⟨e, he, hP⟩
    obtain ⟨hmem, htool⟩ := mem_of_entry? he
    exact ⟨e, ⟨hmem, hP⟩, htool⟩

/-- R181: the age review dates every tool past its age limit. -/
theorem ageReview_reviewed (hb : s.Bounded) (hg : s.cue.givers = []) (hw : s.cue.windows = []) :
    s.Reviewed ((s.trg.entries.filter s.overAge).map (·.tool)) (ageReview s) :=
  reviewed_foldl hb hg hw (nodup_tools_filter hb _) fun u hu => by
    obtain ⟨e, he, hover⟩ := (mem_tools_filter hb).1 hu
    obtain ⟨hh, hr, -⟩ := overAge_iff.1 hover
    exact ⟨e, he, hh, hr⟩

theorem entry?_map {f : Entry → Entry} (hf : ∀ e, (f e).tool = e.tool) (h : t.trg.entries = s.trg.entries.map f) (u : ToolId) :
    t.entry? u = (s.entry? u).map f := by
  simp only [State.entry?, h, List.find?_map]
  refine congrArg (Option.map f) (congrArg (List.find? · _) (funext fun e => ?_))
  simp [hf]

theorem Reviewed.older (h : s.Reviewed L t) : (agePresets 1 s).Reviewed L (agePresets 1 t) where
  entries v := by
    rw [entry?_map (s := t) (t := agePresets 1 t) (f := Entry.older 1) (fun _ => rfl) rfl,
      entry?_map (s := s) (t := agePresets 1 s) (f := Entry.older 1) (fun _ => rfl) rfl, h.entries]
    split
    · cases s.entry? v <;> rfl
    · rfl
  stamp := h.stamp
  rds := h.rds
  cue := h.cue
  stc := h.stc
  bounded := agePresets_bounded 1 h.bounded
  routine := h.routine
  queue := h.queue

/-- R181: the tools past their age limit, those the age review dates. -/
def State.agedTools (s : State) : List ToolId := (s.trg.entries.filter s.overAge).map (·.tool)

theorem mem_agedTools (hb : s.Bounded) : u ∈ s.agedTools ↔ ∃ e, s.entry? u = some e ∧ s.overAge e = true := mem_tools_filter hb

theorem agedTools_length (s : State) : s.agedTools.length ≤ s.trg.entries.length := by
  simpa [State.agedTools] using List.length_filter_le _ _

/-- R14, R182: a minute carries no preset past a limit that it does not stand at. -/
theorem overAge_older (h : ∀ p k, e.preset = some p → s.kind? e.kind = some k → p.age ≤ 65535 ∧ p.age ≠ k.ageLimit) :
    s.overAge (e.older 1) = s.overAge e := by
  rw [Bool.eq_iff_iff, overAge_iff, overAge_iff]
  refine and_congr Iff.rfl (and_congr Iff.rfl ?_)
  constructor
  · rintro ⟨p', k, hp', hk, hlt⟩
    obtain ⟨p, hp, rfl⟩ := Option.map_eq_some_iff.1 hp'
    obtain ⟨hmax, hne⟩ := h p k hp hk
    have hlt' : k.ageLimit < min 65535 (p.age + 1) := hlt
    exact ⟨p, k, hp, hk, by omega⟩
  · rintro ⟨p, k, hp, hk, hlt⟩
    obtain ⟨hmax, hne⟩ := h p k hp hk
    refine ⟨{ p with age := min 65535 (p.age + 1) }, k, Option.map_eq_some_iff.2 ⟨p, hp, rfl⟩, hk, ?_⟩
    change k.ageLimit < min 65535 (p.age + 1)
    omega

theorem agedTools_older (h : ∀ e ∈ s.trg.entries, ∀ p k, e.preset = some p → s.kind? e.kind = some k → p.age ≤ 65535 ∧ p.age ≠ k.ageLimit) :
    (agePresets 1 s).agedTools = s.agedTools := by
  have hfilter : s.trg.entries.filter (s.overAge ∘ Entry.older 1) = s.trg.entries.filter s.overAge :=
    List.filter_congr fun e he => overAge_older (h e he)
  unfold State.agedTools
  change ((s.trg.entries.map (Entry.older 1)).filter s.overAge).map (·.tool) = _
  rw [List.filter_map, List.map_map, hfilter]
  rfl

/-- R181, R14: a minute with the one action AGE_REVIEW, in either order of the ageing and the review. -/
theorem minuteEvent_reviewed (hb : s.Bounded) (hg : s.cue.givers = []) (hw : s.cue.windows = []) (hact : s.alarmActions = [.ageReview])
    (hlim : ∀ e ∈ s.trg.entries, ∀ p k, e.preset = some p → s.kind? e.kind = some k → p.age ≤ 65535 ∧ p.age ≠ k.ageLimit) :
    (agePresets 1 { writeStamp s with free := s.free + 1 }).Reviewed s.agedTools (minuteEvent s) := by
  have hb' : { writeStamp s with free := s.free + 1 }.Bounded := { hb with }
  rcases minuteEvent_review hact with hm | hm
  · rw [hm]
    exact Reviewed.older (ageReview_reviewed hb' hg hw)
  · have haged : (agePresets 1 { writeStamp s with free := s.free + 1 }).agedTools = s.agedTools :=
      agedTools_older (s := { writeStamp s with free := s.free + 1 }) hlim
    rw [hm, ← haged]
    exact ageReview_reviewed (agePresets_bounded 1 hb') hg hw

theorem timed_bounded (hb : s.Bounded) (low : Bool) : (s.timed low).Bounded :=
  retryLatches_bounded (countTimers_bounded { hb with })

/-- R180: the actions of the alarms of the second reached. -/
theorem alarmActions_timed {c : NodeConfig} (low : Bool) (ht : s.cck.trust = true) (hend : s.cck.cal.atEnd = false)
    (hc : s.stc.config = some c) :
    (s.timed low).alarmActions = (c.alarms.filter (Alarm.matches s.cck.cal.tick)).map (·.action) :=
  alarmActions_trusted (s := s.timed low) (by rw [(timed_rest s low).2.2.2.2.2.2.2.2.2, ht, hend]; rfl) hc

/-! ### The parts of O19 -/

/-- R178: a second that ends no minute. -/
theorem second_between (low : Bool) (hs : s.running = true) (hsec : s.cck.cal.tick.second ≠ 0) (hbusy : s.readerBusy) :
    exec (.secondEvent low) s = .next (s.timed low) := by
  rw [exec_secondEvent hs, if_neg hsec, settleReader_of_busy (s := s.timed low) hbusy]

/-- R14, R15: a second that ends a minute without an alarm. -/
theorem second_ends_minute (low : Bool) (hs : s.running = true) (hsec : s.cck.cal.tick.second = 0) (hbusy : s.readerBusy)
    (h : s.cck.trust = false ∨ ∀ c, s.stc.config = some c → ∀ a ∈ c.alarms, Alarm.matches s.cck.cal.tick a = false) :
    exec (.secondEvent low) s = .next (agePresets 1 (writeStamp (s.timed low))) := by
  have hno : (s.timed low).alarmActions = [] := alarmActions_none (s := s.timed low) (h.imp_left fun h => by
    rw [(timed_rest s low).2.2.2.2.2.2.2.2.2, h]
    rfl)
  rw [exec_secondEvent hs, if_pos hsec, minuteEvent_none hno,
    settleReader_of_busy (s := agePresets 1 (writeStamp (s.timed low))) hbusy]

/-- R181, R59: a minute with the one action SWEEP. -/
theorem second_sweeps {c : NodeConfig} (low : Bool) (hs : s.running = true) (hsec : s.cck.cal.tick.second = 0) (ht : s.cck.trust = true)
    (hend : s.cck.cal.atEnd = false) (hc : s.stc.config = some c) (hread : s.rds.inFlight.isSome = true)
    (hact : (c.alarms.filter (Alarm.matches s.cck.cal.tick)).map (·.action) = [.sweep]) :
    ∃ t : State, exec (.secondEvent low) s = .next t ∧
      t.trg = (agePresets 1 (writeStamp (s.timed low))).trg ∧
      (s.rds.sweep = .idle → s.quiet = false →
        t.rds = { s.rds with sweep := .suspended, cursor := 0, awaiting := false, table := List.replicate 48 .none }) ∧
      ((s.rds.sweep = .suspended ∨ (s.rds.sweep = .active ∧ s.rds.awaiting = true)) → t.rds = s.rds) := by
  set m := agePresets 1 (writeStamp (s.timed low)) with hm
  have hrds : m.rds = s.rds := rfl
  have hq : m.quiet = s.quiet := timed_quiet s low
  have hin : (startIdleSweep m).rds.inFlight = s.rds.inFlight := by
    unfold startIdleSweep
    split <;> rfl
  refine ⟨settleReader (startIdleSweep m), ?exec, ?trg, fun hidle hnq => ?starts, fun hrun => ?runs⟩
  case exec =>
    rw [exec_secondEvent hs, if_pos hsec, minuteEvent_sweep ((alarmActions_timed low ht hend hc).trans hact)]
  case trg => rw [settleReader_trg (by rw [hin]; exact hread), (startIdleSweep_frame m).1]
  case starts =>
    have hstart : startIdleSweep m = startSweep m := if_pos hidle
    have hsusp : (startSweep m).rds.sweep = .suspended := by simp [startSweep, hq, hnq]
    rw [hstart, settleReader_stays (s := startSweep m) (.inl hread) fun h => absurd (hsusp.symm.trans h) (by decide)]
    simp [startSweep, hq, hnq, hrds]
  case runs =>
    have hnot : s.rds.sweep ≠ .idle := by rcases hrun with h | ⟨h, -⟩ <;> simp [h]
    have hstart : startIdleSweep m = m := if_neg hnot
    rw [hstart, settleReader_stays (s := m) (.inl hread) fun h => ?_]
    · exact hrds
    · rcases hrun with h' | ⟨-, h'⟩
      · exact absurd (h'.symm.trans h) (by decide)
      · exact h'

/-- R181, R182: a minute with the one action AGE_REVIEW. -/
theorem second_reviews {c : NodeConfig} (low : Bool) (hs : s.running = true) (hsec : s.cck.cal.tick.second = 0) (ht : s.cck.trust = true)
    (hend : s.cck.cal.atEnd = false) (hc : s.stc.config = some c) (hbusy : s.readerBusy)
    (hact : (c.alarms.filter (Alarm.matches s.cck.cal.tick)).map (·.action) = [.ageReview]) (hb : s.Bounded)
    (hg : s.cue.givers = []) (hw : s.cue.windows = [])
    (hlim : ∀ e ∈ s.trg.entries, ∀ p k, e.preset = some p → s.kind? e.kind = some k → p.age ≤ 65535 ∧ p.age ≠ k.ageLimit) :
    ∃ t : State, exec (.secondEvent low) s = .next t ∧
      (agePresets 1 { writeStamp (s.timed low) with free := s.free + 1 }).Reviewed (s.timed low).agedTools t := by
  have hlim' : ∀ e ∈ (s.timed low).trg.entries, ∀ p k, e.preset = some p → s.kind? e.kind = some k → p.age ≤ 65535 ∧ p.age ≠ k.ageLimit := by
    intro e he
    obtain ⟨e₀, he₀, rfl⟩ := List.mem_map.1 he
    exact hlim e₀ he₀
  have hrev := minuteEvent_reviewed (timed_bounded hb low) (by simp [State.timed, retryLatches, countTimers, State.ticked, hg])
    (by simp [State.timed, retryLatches, countTimers, State.ticked, hw]) ((alarmActions_timed low ht hend hc).trans hact) hlim'
  refine ⟨_, ?_, hrev⟩
  rw [exec_secondEvent hs, if_pos hsec, settleReader_of_busy (State.readerBusy.of_rds hbusy (by rw [hrev.rds]; rfl) (by rw [hrev.rds]; rfl))]

/-- Settles O19: a second and a minute, part by part; with AGE_REVIEW the tools dated are `State.agedTools`. -/
theorem secondEventActs : Obligations.SecondEventActs := by
  unfold Obligations.SecondEventActs
  refine ⟨fun low s hs => exec_secondEvent_stopped hs low, fun low s hs hsec hbusy => ?between, fun low s hs hsec hbusy h => ?minute,
    fun c a => matches_iff, fun low c s hs hsec ht hend hc hread => ⟨fun hact => ?sweep, fun hact hb hidle hg hw hlim => ?review⟩⟩
  case between =>
    rw [second_between low hs hsec hbusy, ← timed_pockets s low]
    refine congrArg Host.Outcome.next ?_
    simp only [State.timed, ticked_of_running hs]
    rfl
  case minute => exact ⟨_, second_ends_minute low hs hsec hbusy h, minute_trg s low, rfl, rfl, rfl, rfl, rfl, rfl, rfl⟩
  case sweep => simpa only [minute_trg] using second_sweeps low hs hsec ht hend hc hread hact
  case review =>
    obtain ⟨t, hex, hrev⟩ := second_reviews low hs hsec ht hend hc ⟨hread, hidle⟩ hact hb hg hw hlim
    have hbase : ∀ u, (agePresets 1 { writeStamp (s.timed low) with free := s.free + 1 }).entry? u =
        (s.entry? u).map (Entry.older 1 ∘ Entry.second) := 
      fun u => entry?_map (f := Entry.older 1 ∘ Entry.second) (fun _ => rfl) List.map_map u
    have haged : ∀ u, u ∈ (s.timed low).agedTools ↔ ∃ e, s.entry? u = some e ∧ s.overAge e = true := by
      intro u
      rw [mem_agedTools (timed_bounded hb low), entry?_map (s := s) (f := Entry.second) (fun _ => rfl) rfl]
      cases s.entry? u with
      | none => simp
      | some e => exact ⟨fun ⟨_, he, h⟩ => ⟨e, rfl, by cases he; exact h⟩, fun ⟨_, he, h⟩ => ⟨_, rfl, by cases he; exact h⟩⟩
    have hcount : (s.timed low).agedTools.length ≤ s.trg.entries.length := by simpa [timed_rest] using agedTools_length (s.timed low)
    refine ⟨t, hex, hrev.stamp, fun u hu => ?absent, fun u e he =>
      ⟨s.overAge e, overAge_iff, ?entry, fun hover hn hl => ?routine, fun hover hl => ?queue⟩⟩
    case absent => rw [hrev.entries, hbase, hu]; simp
    case entry =>
      rw [hrev.entries, hbase, he]
      by_cases hover : s.overAge e = true
      · rw [if_pos ((haged u).2 ⟨e, he, hover⟩), hover]
        rfl
      · have hnot : u ∉ (s.timed low).agedTools := fun h => by
          obtain ⟨e', he', h'⟩ := (haged u).1 h
          cases he.symm.trans he'
          exact hover h'
        rw [if_neg hnot, (Bool.not_eq_true _).mp hover]
        simp [Entry.older, Entry.second]
    case routine =>
      have hl' : s.hli.routine.length + (s.timed low).agedTools.length ≤ 16 := by omega
      exact (hrev.routine hn hl').2 u (.inl ((haged u).2 ⟨e, he, hover⟩))
    case queue =>
      have hl' : s.pru.queue.length + (s.timed low).agedTools.length ≤ 32 := by omega
      exact (hrev.queue hl').2 u (.inl ((haged u).2 ⟨e, he, hover⟩))

end Sys2Proof.Machine

/-! PROOFS. The last probe of HUNTING: what RESTORING starts from and what the entry into JOINING leaves; the memory failed (O17). -/

namespace Sys2Proof.Machine

open Sys2Proof

variable {s t : State} {p q : PocketNo} {u : ToolId} {e : Entry} {r : Option ModuleReport}

/-! ### The two ends of RESTORING (R26, R194, R104) -/

/-- R26: the state that the probe of the last address hands to RESTORING. -/
def State.hunted (s : State) (r : Option ModuleReport) : State := { settleProbe 5 r s with stc := { s.stc with node := .restoring } }

/-- R194: that state, cleared of what a restart does not keep. -/
def State.cleared (s : State) (r : Option ModuleReport) : State :=
  restoreClear { s.hunted r with pkc := { (s.hunted r).pkc with gauge := if (s.hunted r).headFitted then .empty else .absent } }

/-- R104: the end of RESTORING and the entry into JOINING. -/
def State.intoJoining (s : State) : State := settleReader (enterJoining (endRestoring s))

theorem exec_lastProbe (hp : s.stc.powered = true) (hn : s.stc.node = .hunting) (h5 : s.stc.huntNext = 5) :
    exec (.huntProbe r) s = .next (restore (s.hunted r)) := by
  have hstc : (settleProbe 5 r s).stc = s.stc := by simp
  have hex : exec (.huntProbe r) s = .next (hunt r s) := congrArg Host.Outcome.next (if_pos ⟨hp, hn⟩)
  rw [hex, hunt, h5, if_neg (Nat.lt_irrefl 5), hstc]
  rfl

theorem restore_held (h : s.stc.report = .held) : restore (s.hunted r) = (restoreHeld (s.cleared r)).intoJoining := by
  unfold restore
  have hrep : (restoreClear { s.hunted r with pkc := { (s.hunted r).pkc with
      gauge := if (s.hunted r).headFitted then .empty else .absent } }).stc.report = .held := by simp [State.hunted, h]
  simp only [hrep]
  rfl

theorem restore_failed (h : s.stc.report = .failed) : restore (s.hunted r) = (restoreFailed (s.cleared r)).intoJoining := by
  unfold restore
  have hrep : (restoreClear { s.hunted r with pkc := { (s.hunted r).pkc with
      gauge := if (s.hunted r).headFitted then .empty else .absent } }).stc.report = .failed := by simp [State.hunted, h]
  simp only [hrep]
  rfl

/-- R194: the blocks cleared, and those kept. -/
theorem cleared_rest (s : State) (r : Option ModuleReport) : (s.cleared r).trg = s.trg ∧ (s.cleared r).rds = Rds.empty ∧
    (s.cleared r).pru = s.pru.atStart ∧
    (s.cleared r).cue = { s.cue with takers := s.cue.takers.map (fun k => { k with offers := [] }), lapsed := [], waiting := [] } ∧
    (s.cleared r).hli = { s.hli with urgent := [], routine := [], send := none } ∧
    (s.cleared r).slk = s.slk.atRestore ∧ (s.cleared r).cck = s.cck ∧ (s.cleared r).stc = { s.stc with node := .restoring } := by
  simp [State.cleared, State.hunted, restoreClear]

theorem cleared_bounded (hb : s.Bounded) (r : Option ModuleReport) : (s.cleared r).Bounded := by
  have hp := settleProbe_bounded 5 r hb
  have hh : (s.hunted r).Bounded := { hp with }
  exact restoreClear_bounded { hh with }

/-- R26, R194: a pocket as RESTORING finds it. -/
theorem cleared_pocket (hlen : p < s.pkc.pockets.length) : ∃ d i,
    (s.cleared r).pocket p = { s.pocket p with readRequested := false, door := d, indicator := i } := by
  have hset : ∃ d i, (settleProbe 5 r s).pocket p = { s.pocket p with door := d, indicator := i } := by
    by_cases hp : p / 8 = 5
    · obtain ⟨i, hi⟩ := settleProbe_pocket_self 5 r hlen hp
      exact ⟨_, i, hi⟩
    · exact ⟨_, _, settleProbe_pocket_other 5 r hp⟩
  have hun : (s.cleared r).pocket p = ((settleProbe 5 r s).pocket p).unread := by
    simp only [State.pocket, State.cleared, State.hunted, restoreClear, List.getD_eq_getElem?_getD, List.getElem?_map]
    cases (settleProbe 5 r s).pkc.pockets[p]? <;> rfl
  obtain ⟨d, i, hdi⟩ := hset
  exact ⟨d, i, by rw [hun, hdi]; rfl⟩

/-- R183, R197: the clock and the Start Controller at the end of the hunt. -/
theorem lastProbe_cck_stc (s : State) (r : Option ModuleReport) :
    (restore (s.hunted r)).stc = { s.stc with node := .joining, recordedId := s.ownId } ∧
      (restore (s.hunted r)).cck.latch = false ∧ (restore (s.hunted r)).cck.low = s.cck.low ∧
      (s.stc.report = .held → (restore (s.hunted r)).cck.cal = s.cck.cal ∧ (restore (s.hunted r)).cck.trust = s.cck.trust) := by
  have hcl := cleared_rest s r
  have hown : ∀ x : State, x.stc = { s.stc with node := .restoring } → (writeStamp (refreshIndicators x)).ownId = s.ownId :=
    fun x hx => by simp [State.ownId, hx]
  cases h : s.stc.report with
  | held =>
    have hst : (restoreHeld (s.cleared r)).stc = { s.stc with node := .restoring } := by simp [hcl]
    rw [restore_held h]
    simp [State.intoJoining, endRestoring, enterJoining, hown _ hst, hcl]
  | failed =>
    have hst : (restoreFailed (s.cleared r)).stc = { s.stc with node := .restoring } := by simp [restoreFailed, hcl]
    have hlow : (restoreFailed (s.cleared r)).cck.low = s.cck.low := by simp [restoreFailed, hcl]
    obtain ⟨-, -, -, -, -, -, -, hcs⟩ := hcl
    rw [restore_failed h]
    simp [State.intoJoining, endRestoring, enterJoining, hown _ hst, hlow, hcs]

theorem moduleOf_of_modules (h : t.pkc.modules = s.pkc.modules) (p : PocketNo) : t.moduleOf p = s.moduleOf p := by
  simp only [State.moduleOf, h]

theorem fitted_of_modules (h : t.pkc.modules = s.pkc.modules) (p : PocketNo) : t.fitted p = s.fitted p := by
  rw [State.fitted, moduleActive_of_modules h, moduleOf_of_modules h]
  rfl

/-! ### The entry into JOINING -/

theorem endRestoring_alike (p : PocketNo) (s : State) : (s.pocket p).Alike ((endRestoring s).pocket p) := refreshIndicators_alike p s

/-- R49, R104: with no pocket in FAULT the entry into JOINING grants the reads asked for, and changes nothing else by that. -/
theorem intoJoining_rest (h : ∀ p, (s.pocket p).state ≠ .fault) :
    s.intoJoining = { enterJoining (endRestoring s) with rds := s.intoJoining.rds } := by
  refine (readerRun_keeps (P := fun t => t = { enterJoining (endRestoring s) with rds := t.rds } ∧ t.rds.sweep = .idle)
    (fun x y hx hy => ?_) 256 _ ⟨rfl, rfl⟩).1
  obtain ⟨hx, hw⟩ := hx
  have hstate : ∀ q, (x.pocket q).state ≠ .fault := fun q => by
    rw [hx]
    obtain ⟨i, hi⟩ := endRestoring_alike q s
    change ((endRestoring s).pocket q).state ≠ .fault
    rw [hi]
    exact h q
  unfold readerStep at hy
  split at hy
  · exact absurd hy (by simp)
  · split at hy
    · next q rest _ _ =>
      rw [grantRead, if_neg (hstate q), Option.some_inj] at hy
      subst hy
      refine ⟨?_, hw⟩
      rw [hx]
    · rw [if_neg (by simp [hw])] at hy
      exact absurd hy (by simp)

/-! ### The memory failed (R48) -/

/-- R48: a pocket is formed anew by the hunt. -/
theorem failed_pocket (p : PocketNo) (s : State) :
    (restoreFailed s).pocket p = if p < 48 then formedPocket s p else Pocket.vacant := by
  split <;> next h => simp [restoreFailed, State.pocket, h]

theorem formedPocket_eq (s : State) (p : PocketNo) : (formedPocket s p).readRequested = false ∧
    ∀ head, { formedPocket s p with indicator := (formedPocket s p).derivedIndicator head } = formedPocket s p := by
  unfold formedPocket
  split <;> exact ⟨rfl, fun _ => rfl⟩

theorem failed_requestedReads (s : State) : (writeStamp (refreshIndicators (restoreFailed s))).requestedReads = [] := by
  refine List.filter_eq_nil_iff.2 fun p hp => ?_
  obtain ⟨i, hi⟩ := refreshIndicators_alike p (restoreFailed s)
  have hread : ((writeStamp (refreshIndicators (restoreFailed s))).pocket p).readRequested = false := by
    change ((refreshIndicators (restoreFailed s)).pocket p).readRequested = false
    rw [hi, failed_pocket, if_pos (List.mem_range.1 hp)]
    exact (formedPocket_eq s p).1
  simp [hread]

/-- R48, R104: with the memory failed no read is asked for, and JOINING begins at once. -/
theorem intoJoining_failed (s : State) : (restoreFailed s).intoJoining = enterJoining (endRestoring (restoreFailed s)) :=
  settleReader_stays (s := enterJoining (endRestoring (restoreFailed s))) (.inr (failed_requestedReads s)) nofun

theorem intoJoining_failed_pocket (hp : p < 48) : (restoreFailed s).intoJoining.pocket p = formedPocket s p := by
  rw [intoJoining_failed]
  have hlen : p < (restoreFailed s).pkc.pockets.length := by simpa [restoreFailed] using hp
  have hget : (refreshIndicators (restoreFailed s)).pocket p = { (restoreFailed s).pocket p with
      indicator := ((restoreFailed s).pocket p).derivedIndicator (restoreFailed s).presetHead } := by
    simp [refreshIndicators, State.pocket, hlen]
  change (refreshIndicators (restoreFailed s)).pocket p = _
  rw [hget, failed_pocket, if_pos hp]
  exact (formedPocket_eq s p).2 _

/-- R48, R104, R197: the probe that ends HUNTING with the memory failed. -/
theorem lastProbe_failed (h : s.stc.report = .failed) : ∃ t : State, restore (s.hunted r) = t ∧
    t.cck.cal = Calendar.origin ∧ t.cck.trust = false ∧
    t.trg.entries = [] ∧ t.trg.heard = [] ∧ t.trg.checks = [] ∧ t.trg.stamp = Calendar.origin.toStamp ∧
    t.cue = Cue.empty ∧ t.pru = Pru.empty ∧ t.rds = Rds.empty ∧ t.slk.notices = [] ∧ t.slk.token = 0 ∧
    t.hli = { urgent := [], routine := [.announce t.joinReport], send := none, joinTimer := some 1 } ∧
    ∀ p, p < 48 → t.pocket p =
      (if t.fitted p then { Pocket.vacant with state := .empty, door := (t.pocket p).door } else Pocket.vacant) := by
  obtain ⟨-, hrds, hpru, -, hhli, hslk, hcck, hstc⟩ := cleared_rest s r
  set x := s.cleared r with hx
  have hjoin : (restoreFailed x).intoJoining = enterJoining (endRestoring (restoreFailed x)) := intoJoining_failed x
  have hslk' : (restoreFailed x).intoJoining.slk = (restoreFailed x).slk := by rw [hjoin]; simp
  have hmod : (restoreFailed x).intoJoining.pkc.modules = x.pkc.modules := by rw [hjoin]; rfl
  refine ⟨_, restore_failed h, ?_⟩
  rw [← hx]
  refine ⟨?cal, ?trust, ?entries, ?heard, ?checks, ?stamp, ?cue, ?pru, ?rds, ?notices, ?token, ?hli, fun p hp => ?pocket⟩
  case cal | trust | entries | heard | checks | stamp | cue => rw [hjoin]; rfl
  case rds =>
    rw [hjoin]
    exact congrArg (fun l => { Rds.empty with queue := l }) (failed_requestedReads x)
  case pru =>
    have hg : (writeStamp (refreshIndicators (restoreFailed x))).gaugeAtStart = none := by
      change (if _ then Option.map _ none else none) = none
      simp
    rw [hjoin]
    change { x.pru with queue := [], gauge := (writeStamp (refreshIndicators (restoreFailed x))).gaugeAtStart } = Pru.empty
    rw [hg, hpru]
    rfl
  case notices =>
    rw [hslk']
    exact congrArg Slk.notices hslk
  case token => rw [hslk']; rfl
  case hli =>
    have hrep : (restoreFailed x).intoJoining.joinReport = (endRestoring (restoreFailed x)).joinReport := by rw [hjoin]; rfl
    rw [hrep, hjoin]
    change ({ x.hli with routine := placeAnnounce (endRestoring (restoreFailed x)).joinReport x.hli.routine, joinTimer := some 1 } : Hli) = _
    rw [hhli]
    rfl
  case pocket =>
    rw [fitted_of_modules hmod, intoJoining_failed_pocket hp, formedPocket]
    split <;> rfl

end Sys2Proof.Machine

/-! PROOFS. RESTORING and the pockets: the steps that leave them, their rebuild, and the timers used up (O17). -/

namespace Sys2Proof.Machine

open Sys2Proof

variable {s t : State} {p q : PocketNo} {u : ToolId} {e : Entry}

/-! ### What a step on the register leaves of the ground -/

/-- The same pocket, but for its mark and its indicator. -/
def Pocket.Marked (k k' : Pocket) : Prop := ∃ m i, k' = { k with mark := m, indicator := i }

theorem Pocket.Marked.refl (k : Pocket) : k.Marked k := ⟨k.mark, k.indicator, rfl⟩

theorem Pocket.Marked.trans {a b c : Pocket} (h1 : a.Marked b) (h2 : b.Marked c) : a.Marked c := by
  obtain ⟨m, i, rfl⟩ := h1
  obtain ⟨m', i', rfl⟩ := h2
  exact ⟨m', i', rfl⟩

theorem Pocket.Marked.congr {a b : Pocket} (h : a.Marked b) {α : Type} (g : Pocket → α)
    (hg : ∀ (k : Pocket) m i, g { k with mark := m, indicator := i } = g k := by intros; rfl) : g b = g a := by
  obtain ⟨m, i, rfl⟩ := h
  exact hg a m i

theorem Pocket.Alike.marked {a b : Pocket} (h : a.Alike b) : a.Marked b := by
  obtain ⟨i, rfl⟩ := h
  exact ⟨a.mark, i, rfl⟩

/-- The ground under a step that acts on the register and the queues: the pockets but for marks and indicators, the modules, and
the Start Controller. -/
structure State.Ground (s t : State) : Prop where
  pockets : ∀ p, (s.pocket p).Marked (t.pocket p)
  modules : t.pkc.modules = s.pkc.modules
  stc : t.stc = s.stc

theorem State.Ground.of_blocks (hp : t.pkc = s.pkc) (hs : t.stc = s.stc) : s.Ground t :=
  ⟨fun p => State.pocket_of_pkc hp p ▸ .refl _, by rw [hp], hs⟩

theorem State.Ground.refl (s : State) : s.Ground s := .of_blocks rfl rfl

theorem State.Ground.trans {x : State} (h1 : s.Ground x) (h2 : x.Ground t) : s.Ground t :=
  ⟨fun p => (h1.pockets p).trans (h2.pockets p), h2.modules.trans h1.modules, h2.stc.trans h1.stc⟩

theorem State.Ground.foldl {α : Type} {f : State → α → State} (h : ∀ (x : State) a, x.Ground (f x a)) (l : List α) (s : State) : s.Ground (l.foldl f s) :=
  foldl_keeps (P := fun x => s.Ground x) (fun (x : State) a _ hx => hx.trans (h x a)) (.refl s)

theorem setPresetQueue_ground (l : List ToolId) (s : State) : s.Ground (setPresetQueue l s) :=
  ⟨fun p => (setPresetQueue_alike l p s).marked, rfl, by simp⟩

theorem presetReport_ground (u : ToolId) (s : State) : s.Ground (presetReport u s) := by
  have hrem : (presetRemove u s).pkc.modules = s.pkc.modules := by
    unfold presetRemove
    split <;> rfl
  refine ⟨fun p => (presetReport_alike u p s).marked, ?_, by simp⟩
  unfold presetReport
  split
  · split
    · split
      · rfl
      · split <;> rfl
    · exact hrem
  · exact hrem

theorem clearMark_ground (p : PocketNo) (u : Option ToolId) (s : State) : s.Ground (clearMark p u s) := by
  refine ⟨fun q => ?_, clearMark_modules p u s, by simp⟩
  by_cases hq : q = p
  · subst hq
    by_cases hlen : q < s.pkc.pockets.length
    · obtain ⟨i, hi⟩ := clearMark_pocket_self hlen u
      exact ⟨none, i, hi⟩
    · refine State.pocket_of_pkc (s := s) ?_ q ▸ .refl _
      rw [clearMark_pkc, modPocket_of_le _ (Nat.le_of_not_lt hlen), ite_self]
  · exact clearMark_pocket_ne hq u ▸ .refl _

theorem clearEntryMark_ground (e : Entry) (s : State) : s.Ground (clearEntryMark e s) := by
  unfold clearEntryMark
  split
  · exact clearMark_ground _ _ s
  · exact .refl s

/-- R164: a versioned change leaves the ground. -/
theorem versioned_ground (u : ToolId) (f : Entry → Entry) (s : State) : s.Ground (versioned u f s) := by
  unfold versioned
  split
  · exact .refl s
  · next e _ =>
    have hhand : ∀ e', s.Ground (handRecord u (putEntry e' (clearEntryMark e s))) := fun e' =>
      (clearEntryMark_ground e s).trans (.of_blocks (by simp) (by simp))
    dsimp only
    split
    · exact hhand _
    · exact (hhand _).trans (presetReport_ground u _)

theorem clampLife_ground (u : ToolId) (s : State) : s.Ground (clampLife u s) := by
  unfold clampLife
  split
  · exact .refl s
  · dsimp only
    split
    · exact versioned_ground u _ s
    · exact .of_blocks (by simp) (by simp)

theorem lifeStep_ground (s : State) : s.Ground (lifeStep s) := State.Ground.foldl (fun x u => clampLife_ground u x) _ s

/-! ### The settling of adoptions (R144, R195) -/

/-- R144: the state without the claim window of one tool. -/
def State.unwindowed (s : State) (u : ToolId) : State :=
  { s with cue := { s.cue with windows := s.cue.windows.filter (fun w => w.tool != u) } }

theorem settleAdoption_eq (hw : s.cue.waiting = []) (u : ToolId) (fb h : Option Record) : settleAdoption u fb h s =
    presetReport u (handRecord u (modEntry u (Entry.atClose (s.unwindowed u) fb h) (s.unwindowed u))) := by
  set y := presetReport u (handRecord u (modEntry u (Entry.atClose (s.unwindowed u) fb h) (s.unwindowed u))) with hy
  have hwait : y.cue.waiting = [] := by simp [hy, State.unwindowed, hw]
  have hset : settleAdoption u fb h s = serveWaiting y.cue.waiting y := rfl
  rw [hset, hwait]
  rfl

theorem atClose_custody (fb h : Option Record) (e : Entry) : (Entry.atClose s fb h e).custody = e.custody := by
  unfold Entry.atClose
  split
  · rfl
  · split <;> rfl

/-- R195: what the settling of lives and adoptions leaves: the ground, the transfers, and where every tool is. -/
structure State.Settles (s t : State) : Prop where
  ground : s.Ground t
  givers : t.cue.givers = s.cue.givers
  takers : t.cue.takers = s.cue.takers
  waiting : t.cue.waiting = s.cue.waiting
  custody : ∀ u, (t.entry? u).map (·.custody) = (s.entry? u).map (·.custody)
  bounded : t.Bounded

theorem State.Settles.refl (hb : s.Bounded) : s.Settles s := ⟨.refl s, rfl, rfl, rfl, fun _ => rfl, hb⟩

theorem State.Settles.trans {x : State} (h1 : s.Settles x) (h2 : x.Settles t) : s.Settles t :=
  ⟨h1.ground.trans h2.ground, h2.givers.trans h1.givers, h2.takers.trans h1.takers, h2.waiting.trans h1.waiting,
    fun u => (h2.custody u).trans (h1.custody u), h2.bounded⟩

theorem custody_of_trg (h : t.trg = s.trg) (u : ToolId) : (t.entry? u).map (·.custody) = (s.entry? u).map (·.custody) := by
  rw [entry?_of_trg h]

/-- An entry put in place of the tool's own, in the same custody. -/
theorem custody_putEntry (hb : s.Bounded) {e e' : Entry} (h : s.entry? u = some e) (ht : e'.tool = u) (hc : e'.custody = e.custody)
    (v : ToolId) : ((putEntry e' s).entry? v).map (·.custody) = (s.entry? v).map (·.custody) := by
  by_cases hv : v = u
  · subst hv
    rw [entry?_putEntry_of_tool hb.register ht, h]
    exact congrArg some hc
  · rw [entry?_putEntry_ne hb.register (by rw [ht]; exact hv)]

theorem versioned_custody (hb : s.Bounded) {f : Entry → Entry} (ht : ∀ e, (f e).tool = e.tool) (hc : ∀ e, (f e).custody = e.custody)
    (u v : ToolId) : ((versioned u f s).entry? v).map (·.custody) = (s.entry? v).map (·.custody) := by
  cases he : s.entry? u with
  | none => simp [versioned, he]
  | some e =>
    have htrg : ∃ e', e'.tool = u ∧ e'.custody = e.custody ∧ (versioned u f s).trg = (putEntry e' s).trg := by
      simp only [versioned, he]
      refine ⟨if s.adoptionOpen u then f e else { f e with version := e.version + 1 }, ?_, ?_, ?_⟩
      · split <;> exact (ht e).trans (tool_of_entry? he)
      · split <;> exact hc e
      · split <;> simp [putEntry]
    obtain ⟨e', ht', hc', htrg⟩ := htrg
    exact (custody_of_trg htrg v).trans (custody_putEntry hb he ht' hc' v)

theorem clampLife_settles (hb : s.Bounded) (u : ToolId) : s.Settles (clampLife u s) where
  ground := clampLife_ground u s
  givers := by simp
  takers := by simp
  waiting := by simp
  bounded := clampLife_bounded u hb
  custody v := by
    unfold clampLife
    split
    · rfl
    · next e he =>
      have htool : e.tool = u := tool_of_entry? he
      dsimp only
      split
      · exact versioned_custody hb (f := fun x => { x with life := min e.life (s.fullLife e.kind), condition := .expired })
          (fun _ => rfl) (fun _ => rfl) u v
      · exact custody_putEntry hb (e' := { e with life := min e.life (s.fullLife e.kind) }) he htool rfl v

theorem settleAdoption_settles (hb : s.Bounded) (hw : s.cue.waiting = []) (u : ToolId) (fb h : Option Record) :
    s.Settles (settleAdoption u fb h s) where
  ground := by
    rw [settleAdoption_eq hw]
    exact State.Ground.trans (.of_blocks (by simp [State.unwindowed]) (by simp [State.unwindowed])) (presetReport_ground u _)
  givers := by rw [settleAdoption_eq hw]; simp [State.unwindowed]
  takers := by rw [settleAdoption_eq hw]; simp [State.unwindowed]
  waiting := by rw [settleAdoption_eq hw]; simp [State.unwindowed]
  bounded := settleAdoption_bounded u fb h hb
  custody v := by
    have hb' : (s.unwindowed u).Bounded := { hb with windows := (List.length_filter_le _ _).trans hb.windows }
    have htrg : (settleAdoption u fb h s).trg = (modEntry u (Entry.atClose (s.unwindowed u) fb h) (s.unwindowed u)).trg := by
      rw [settleAdoption_eq hw]
      simp
    rw [custody_of_trg htrg v]
    unfold modEntry
    split
    · next e he => exact custody_putEntry hb' he ((atClose_tool ..).trans (tool_of_entry? he)) (atClose_custody fb h e) v
    · rfl

theorem foldl_settles {α : Type} {f : State → α → State} (h : ∀ (x : State) a, x.Bounded → x.cue.waiting = [] → x.Settles (f x a)) (l : List α)
    (hb : s.Bounded) (hw : s.cue.waiting = []) : s.Settles (l.foldl f s) :=
  foldl_keeps (P := fun x => s.Settles x) (fun x a _ hx => hx.trans (h x a hx.bounded (hx.waiting.trans hw))) (.refl hb)

/-- R195: the settling of lives, adoptions and presence checks. -/
theorem settlingSteps_settle (hb : s.Bounded) (hw : s.cue.waiting = []) : s.Settles (checkStep (adoptionStep (lifeStep s))) := by
  have hlife : s.Settles (lifeStep s) := foldl_settles (fun x u hx _ => clampLife_settles hx u) _ hb hw
  have hadopt : (lifeStep s).Settles (adoptionStep (lifeStep s)) :=
    foldl_settles (fun x w hx hxw => by
      unfold closeAdoption
      split
      · exact settleAdoption_settles hx hxw _ _ _
      · exact .refl hx) _ hlife.bounded (hlife.waiting.trans hw)
  refine hlife.trans (hadopt.trans ⟨.of_blocks rfl rfl, rfl, rfl, rfl, fun _ => rfl, ?_⟩)
  exact { hadopt.bounded with }

/-! ### The rebuild of the pockets (R47) -/

/-- R47: the pockets formed anew, their marks not tested yet. -/
def State.rebuilt (s : State) : State := { s with pkc := { s.pkc with pockets := (List.range 48).map (rebuiltPocket s) } }

theorem testMark_ground (p : PocketNo) (s : State) : s.Ground (testMark p s) := by
  unfold testMark
  split
  · split
    · exact .refl s
    · exact clearMark_ground p _ s
  · exact .refl s

theorem pocketStep_ground (s : State) : (closeMisfits s).rebuilt.Ground (pocketStep s) :=
  State.Ground.foldl (fun x p => testMark_ground p x) _ _

theorem rebuilt_pocket (p : PocketNo) (s : State) : s.rebuilt.pocket p = if p < 48 then rebuiltPocket s p else Pocket.vacant := by
  split <;> next h => simp [State.rebuilt, State.pocket, h]

theorem pocketStep_pocket (hp : p < 48) : (rebuiltPocket (closeMisfits s) p).Marked ((pocketStep s).pocket p) := by
  have h := (pocketStep_ground s).pockets p
  rwa [rebuilt_pocket, if_pos hp] at h

/-- No pocket stands in FAULT. -/
def State.NoFault (s : State) : Prop := ∀ p, (s.pocket p).state ≠ .fault

theorem State.Ground.noFault (h : s.Ground t) (hs : s.NoFault) : t.NoFault := fun p => by
  rw [(h.pockets p).congr Pocket.state]
  exact hs p

theorem unbound_state (b : Bool) (k : Pocket) : (k.unbound b).state ≠ .fault := by
  unfold Pocket.unbound
  split
  · simp
  · split <;> simp

theorem withGiver_state (g : Giver) (k : Pocket) : (k.withGiver g).state ≠ .fault := by
  unfold Pocket.withGiver
  split <;> simp

/-- R47, log entry 34: no pocket is rebuilt in FAULT. -/
theorem rebuiltPocket_state (s : State) (p : PocketNo) : (rebuiltPocket s p).state ≠ .fault := by
  unfold rebuiltPocket
  dsimp only
  split
  · simp
  · split
    · exact withGiver_state _ _
    · simp
    · exact unbound_state _ _

theorem pocketStep_noFault (s : State) : (pocketStep s).NoFault :=
  (pocketStep_ground s).noFault fun p => by
    rw [rebuilt_pocket]
    split
    · exact rebuiltPocket_state _ p
    · simp [Pocket.vacant]

/-! ### The steps that find nothing to do (R195) -/

theorem seekingStep_same (h : ∀ k ∈ s.cue.takers, k.state ≠ .seeking) : seekingStep s = s := by
  have hnil : s.cue.takers.filter (fun k => decide (k.state = .seeking)) = [] :=
    List.filter_eq_nil_iff.2 fun k hk => by simpa using h k hk
  rw [seekingStep, hnil]
  rfl

theorem closeMisfits_same (hg : ∀ g ∈ s.cue.givers, giverMisfit s g = false) (hk : ∀ k ∈ s.cue.takers, takerMisfit s k = false) :
    closeMisfits s = s := by
  have hgs : s.cue.givers.filter (giverMisfit s) = [] := List.filter_eq_nil_iff.2 fun g h => by simp [hg g h]
  have hks : s.cue.takers.filter (takerMisfit s) = [] := List.filter_eq_nil_iff.2 fun k h => by simp [hk k h]
  simp only [closeMisfits, hgs, List.foldl_nil, hks]

theorem holdStep_same (h : ∀ g ∈ s.cue.givers, g.state = .offered → g.timer ≠ some 0) : holdStep s = s := by
  have hnil : s.cue.givers.filter (fun g => decide (g.state = .offered ∧ g.timer = some 0)) = [] :=
    List.filter_eq_nil_iff.2 fun g hg => by simpa using h g hg
  rw [holdStep, hnil]
  rfl

theorem releaseStep_same (h : ∀ g ∈ s.cue.givers, g.timer ≠ some 0) : releaseStep s = s := by
  have hnil : s.cue.givers.filter (fun g => decide (g.state = .releasing ∧ g.timer = some 0 ∧ g.expired = false)) = [] :=
    List.filter_eq_nil_iff.2 fun g hg => by simp [h g hg]
  rw [releaseStep, hnil]
  rfl

theorem deadlineStep_same (h : ∀ k ∈ s.cue.takers, k.timer ≠ 0) : deadlineStep s = s := by
  have hnil : s.cue.takers.filter (fun k => k.targeting && decide (k.timer = 0)) = [] :=
    List.filter_eq_nil_iff.2 fun k hk => by simp [h k hk]
  rw [deadlineStep, hnil]
  rfl

/-! ### The steps on the register after the rebuild -/

theorem gaugeStep_ground (s : State) : s.Ground (gaugeStep s) := by
  unfold gaugeStep
  split
  · exact .refl s
  · split
    · exact versioned_ground _ _ s
    · exact .refl s

theorem awayStep_ground (s : State) : s.Ground (awayStep s) := State.Ground.foldl (fun x u => versioned_ground u _ x) _ s

theorem transitStep_ground (s : State) : s.Ground (transitStep s) := .of_blocks (by simp) (by simp)

theorem queueStep_ground (x s : State) : s.Ground (queueStep x s) :=
  State.Ground.trans (setPresetQueue_ground _ s) (State.Ground.foldl (fun y u => presetReport_ground u y) _ _)

/-! ### The pocket timers used up (R43) -/

/-- R43: what the end of a pocket timer, if due, keeps of its pocket. -/
structure Pocket.TimerEnds (k k' : Pocket) : Prop where
  state : k.state ≠ .fault → k'.state ≠ .fault
  verified : k'.verified = k.verified
  hold : k'.hold = k.hold
  contents : k.contents = none → k'.contents = none

theorem closed_noFault {k : Pocket} (h : k.state ≠ .fault) : k.closed.state ≠ .fault := by
  unfold Pocket.closed Pocket.closes
  cases hk : k.state <;> simp_all [Pocket.toChecking]
  split <;> simp

theorem Pocket.TimerEnds.of_alike {k k' x : Pocket} (h : k.TimerEnds k') (ha : k'.Alike x) : k.TimerEnds x where
  state hk := by rw [ha.congr Pocket.state]; exact h.state hk
  verified := (ha.congr Pocket.verified).trans h.verified
  hold := (ha.congr Pocket.hold).trans h.hold
  contents hk := (ha.congr Pocket.contents).trans (h.contents hk)

theorem stopped_timerEnds (k : Pocket) : k.TimerEnds { k with timerRunning := false } := ⟨id, rfl, rfl, id⟩

theorem closed_timerEnds (k : Pocket) : k.TimerEnds ({ k with timerRunning := false } : Pocket).closed := by
  obtain ⟨-, hcontents, hver, -, hhold, -⟩ := closed_kept { k with timerRunning := false }
  exact ⟨closed_noFault (k := { k with timerRunning := false }), hver, hhold, hcontents.trans⟩

theorem ended_timerEnds (k : Pocket) : k.TimerEnds (if k.state = .openForStock then k.toEmpty else k.toStocked) := by
  split
  · exact ⟨fun _ => by simp [Pocket.toEmpty], rfl, rfl, fun _ => rfl⟩
  · exact ⟨fun _ => by simp [Pocket.toStocked], rfl, rfl, id⟩

theorem pocketTimerEnds_ends (hp : p < 48) (hlen : s.pkc.pockets.length = 48) (hd : (s.pocket p).timerDue = true) :
    (s.pocket p).TimerEnds ((pocketTimerEnds p s).pocket p) := by
  obtain ⟨-, -, hst⟩ := timerDue_iff.1 hd
  have hlt : p < s.pkc.pockets.length := hlen.symm ▸ hp
  have hab : (s.pocket p).state ≠ .absent ∧ (s.pocket p).state ≠ .fault := by rcases hst with h | ⟨h, -⟩ <;> simp [h]
  have hpres : s.present p = true := State.present_iff.2 ⟨hp, hab.1⟩
  set x := modPocket p (fun k => { k with timerRunning := false }) s with hx
  have hxk : ({ s.pocket p with timerRunning := false } : Pocket).Alike (x.pocket p) := modPocket_alike hlt
  cases hdoor : s.hasDoor p with
  | false =>
    have hends : pocketTimerEnds p s = closing p x := by simp [pocketTimerEnds, hdoor, hx]
    have hcl : x.Closed (closing p x) p := closing_closes (by rw [hx, present_modPocket Iff.rfl]; exact hpres) (by simpa [hx] using hlt)
      (by rw [hxk.congr Pocket.state]; exact hab.2)
    rw [hends]
    exact (closed_timerEnds _).of_alike ((hxk.map (f := Pocket.closed) closed_indicator).trans hcl.pocket)
  | true =>
    cases hopen : (s.pocket p).door with
    | opened =>
      have hends : pocketTimerEnds p s = x := by simp [pocketTimerEnds, hdoor, hopen, hx]
      rw [hends]
      exact (stopped_timerEnds _).of_alike hxk
    | closed =>
      have hends : pocketTimerEnds p s = modPocket p (fun k => if k.state = .openForStock then k.toEmpty else k.toStocked) s := by
        simp only [pocketTimerEnds, hdoor, hopen, Bool.not_true, Bool.false_eq_true, if_false]
        refine modPocket_congr ?_
        rcases hst with h | ⟨h, -⟩ <;> simp [h]
      rw [hends]
      exact (ended_timerEnds _).of_alike (modPocket_alike hlt)

theorem closing_pocket_ne (h : q ≠ p) (s : State) : (closing p s).pocket q = s.pocket q := by
  cases hst : (s.pocket p).state with
  | empty | openForStock => simp only [closing, hst, requestRead_pocket_ne h, pocket_modPocket_ne h]
  | stocked =>
    simp only [closing, hst]
    split <;> simp only [requestRead_pocket_ne h, pocket_modPocket_ne h]
  | checking =>
    simp only [closing, hst]
    split <;> simp only [requestRead_pocket_ne h]
  | reserved | releasing | awaiting | wrongTool => simp only [closing, hst, requestRead_pocket_ne h]
  | fault | absent => simp only [closing, hst]

theorem pocketTimerEnds_pocket_ne (h : q ≠ p) (s : State) : (pocketTimerEnds p s).pocket q = s.pocket q := by
  unfold pocketTimerEnds
  split
  · rw [closing_pocket_ne h, pocket_modPocket_ne h]
  · split <;> exact pocket_modPocket_ne h _ _

/-- R43: the pocket timers used up end one by one, each in its own pocket. -/
theorem pocketTimerStep_pocket (hb : s.Bounded) (hp : p < 48) :
    ((s.pocket p).timerDue = false → (pocketTimerStep s).pocket p = s.pocket p) ∧
      (s.pocket p).TimerEnds ((pocketTimerStep s).pocket p) := by
  obtain ⟨x, hxb, hxp, hfx⟩ := foldl_pocket_at (p := p) (a := p) (s := s) (l := List.range 48)
    (f := fun s p => if (s.pocket p).timerDue then pocketTimerEnds p s else s) State.Bounded
    (fun x b hx => by split; exacts [pocketTimerEnds_bounded b hx, hx]) (List.mem_range.2 hp) List.nodup_range
    (fun x b _ hbp => by split; exacts [pocketTimerEnds_pocket_ne (Ne.symm hbp) x, rfl]) hb
  have hstep : (pocketTimerStep s).pocket p = (if (x.pocket p).timerDue then pocketTimerEnds p x else x).pocket p := hfx
  cases hd : (s.pocket p).timerDue with
  | true =>
    rw [hstep, if_pos (by rw [hxp]; exact hd), ← hxp]
    exact ⟨nofun, pocketTimerEnds_ends hp hxb.pockets (by rw [hxp]; exact hd)⟩
  | false =>
    rw [hstep, if_neg (by simp [hxp, hd]), hxp]
    exact ⟨fun _ => rfl, ⟨id, rfl, rfl, id⟩⟩

theorem pocketTimerStep_noFault (hb : s.Bounded) (h : s.NoFault) : (pocketTimerStep s).NoFault := fun p => by
  by_cases hp : p < 48
  · exact (pocketTimerStep_pocket hb hp).2.state (h p)
  · have hbd : (pocketTimerStep s).pkc.pockets.length ≤ p := by
      rw [(pocketTimerStep_bounded hb).pockets]
      exact Nat.le_of_not_lt hp
    simp [State.pocket, hbd, Pocket.vacant]

end Sys2Proof.Machine

/-! PROOFS. RESTORING and the register: what every entry has become when no transfer and no window is open (O17). -/

namespace Sys2Proof.Machine

open Sys2Proof

variable {s t : State} {p q : PocketNo} {u : ToolId} {e : Entry} {L : List ToolId} {f : Entry → Entry} {n : Nat}

/-! ### Entries renewed one by one -/

/-- Every custody entry here has its RECORD queued. -/
def State.Covered (s : State) : Prop :=
  ∀ u e, s.entry? u = some e → e.custody ≠ .foreign → s.hli.routine.any (Frame.isRecordOf u) = true

/-- `t` is `s` after an operation that renews the entries of the tools of `L` by `f`, and no other part of the register; the RECORDs
queued stay queued, in the same places. -/
structure State.Renewed (f : Entry → Entry) (L : List ToolId) (s t : State) : Prop where
  entries : ∀ v, t.entry? v = if v ∈ L then (s.entry? v).map f else s.entry? v
  trg : t.trg = { s.trg with entries := t.trg.entries }
  cue : t.cue = s.cue
  stc : t.stc = s.stc
  bounded : t.Bounded
  covered : s.Covered → t.Covered ∧ t.hli.routine.length = s.hli.routine.length

theorem renewed_nil (f : Entry → Entry) (hb : s.Bounded) : s.Renewed f [] s :=
  ⟨fun v => by simp, rfl, rfl, rfl, hb, fun h => ⟨h, rfl⟩⟩

theorem renewed_cons {x : State} (hx : State.Renewed f [u] s x) (ht : State.Renewed f L x t) (hu : u ∉ L) : State.Renewed f (u :: L) s t where
  entries v := by
    rw [ht.entries, hx.entries]
    by_cases hv : v = u
    · subst hv
      simp [hu]
    · simp [hv]
  trg := by rw [ht.trg, hx.trg]
  cue := ht.cue.trans hx.cue
  stc := ht.stc.trans hx.stc
  bounded := ht.bounded
  covered h := by
    obtain ⟨hxc, hxl⟩ := hx.covered h
    obtain ⟨htc, htl⟩ := ht.covered hxc
    exact ⟨htc, htl.trans hxl⟩

theorem renewed_foldl {op : State → ToolId → State} {Q : Entry → Prop} (hb : s.Bounded) (hd : L.Nodup)
    (hL : ∀ u ∈ L, ∃ e, s.entry? u = some e ∧ Q e)
    (hop : ∀ x u e, x.Bounded → x.cue = s.cue → x.stc = s.stc → x.entry? u = some e → Q e → State.Renewed f [u] x (op x u)) :
    State.Renewed f L s (L.foldl op s) := by
  induction L generalizing s with
  | nil => exact renewed_nil f hb
  | cons u L ih =>
    obtain ⟨hu, hd⟩ := List.nodup_cons.1 hd
    obtain ⟨e, he, hQ⟩ := hL u List.mem_cons_self
    have hone := hop s u e hb rfl rfl he hQ
    refine renewed_cons hone (ih hone.bounded hd (fun v hv => ?_) fun x v e' hxb hc hs => hop x v e' hxb (hc.trans hone.cue) (hs.trans hone.stc)) hu
    obtain ⟨e', he', h'⟩ := hL v (List.mem_cons_of_mem _ hv)
    have hne : v ≠ u := fun h => hu (h ▸ hv)
    exact ⟨e', by rw [hone.entries, if_neg (by simpa using hne)]; exact he', h'⟩

/-- The entries renewed are those a test picks out. -/
theorem renewed_entry (hb : s.Bounded) {P : Entry → Bool} (h : State.Renewed f ((s.trg.entries.filter P).map (·.tool)) s t) (v : ToolId) :
    t.entry? v = (s.entry? v).map (fun e => if P e then f e else e) := by
  rw [h.entries]
  cases he : s.entry? v with
  | none => simp
  | some e =>
    by_cases hP : P e = true
    · rw [if_pos ((mem_tools_filter hb).2 ⟨e, he, hP⟩)]
      simp [hP]
    · have hnot : v ∉ (s.trg.entries.filter P).map (·.tool) := fun h => by
        obtain ⟨e', he', h'⟩ := (mem_tools_filter hb).1 h
        cases he.symm.trans he'
        exact hP h'
      rw [if_neg hnot]
      simp [hP]

/-- R94: a RECORD handed over for a tool whose RECORD is queued takes that one's place. -/
theorem handRecord_covered (h : s.hli.routine.any (Frame.isRecordOf u) = true) :
    (handRecord u s).hli.routine.length = s.hli.routine.length ∧
      ∀ v, s.hli.routine.any (Frame.isRecordOf v) = true → (handRecord u s).hli.routine.any (Frame.isRecordOf v) = true := by
  unfold handRecord
  split
  · next e he =>
    split
    · have htool : e.record.tool = u := tool_of_entry? he
      have hp : s.hli.routine.any (Frame.isRecordOf e.record.tool) = true := htool ▸ h
      refine ⟨?_, fun v hv => placeRecord_stays hp hv⟩
      simp [placeRecord_present hp]
    · exact ⟨rfl, fun _ => id⟩
  · exact ⟨rfl, fun _ => id⟩

/-- A change of the one entry of a tool whose RECORD stays queued leaves every custody entry its RECORD. -/
theorem covered_of_entry (hs : s.Covered) (he : s.entry? u = some e) (hh : e.custody ≠ .foreign)
    (hne : ∀ v, v ≠ u → t.entry? v = s.entry? v)
    (hr : ∀ v, s.hli.routine.any (Frame.isRecordOf v) = true → t.hli.routine.any (Frame.isRecordOf v) = true) : t.Covered := by
  intro v e' he' hh'
  by_cases hv : v = u
  · exact hr v (hv ▸ hs u e he hh)
  · exact hr v (hs v e' (hne v hv ▸ he') hh')

/-- R8: a versioned change of a tool here renews its entry. -/
theorem versioned_renewed (hb : s.Bounded) (hw : s.cue.windows = []) {g : Entry → Entry} (hg : ∀ e, (g e).tool = e.tool)
    (he : s.entry? u = some e) (hh : e.custody ≠ .foreign) (hf : f e = { g e with version := e.version + 1 }) :
    State.Renewed f [u] s (versioned u g s) := by
  have ha := adoptionOpen_of_windows_nil hw u
  have hne : ∀ v, v ≠ u → (versioned u g s).entry? v = s.entry? v := fun v hv => versioned_entry_ne hb he ha (hg e) hv
  have hhli : (versioned u g s).hli = (handRecord u (putEntry { g e with version := e.version + 1 } (clearEntryMark e s))).hli := by
    rw [versioned_eq he ha]
    split <;> simp
  refine ⟨fun v => ?entries, ?trg, by simp, by simp, versioned_bounded u g hb hg, fun hc => ?covered⟩
  case entries =>
    by_cases hv : v = u
    · subst hv
      rw [versioned_entry_self hb he ha (hg e)]
      simp [he, hf]
    · rw [hne v hv]
      simp [hv]
  case trg => rw [versioned_trg he ha]; rfl
  case covered =>
    have hany : (putEntry { g e with version := e.version + 1 } (clearEntryMark e s)).hli.routine.any (Frame.isRecordOf u) = true := by
      simpa using hc u e he hh
    obtain ⟨hlen, hkeep⟩ := handRecord_covered hany
    rw [hhli]
    refine ⟨covered_of_entry hc he hh hne fun v hv => ?_, by simpa using hlen⟩
    rw [hhli]
    exact hkeep v (by simpa using hv)

/-- R195: the life of an entry brought within its full life. -/
def Entry.clamped (full : Nat) (e : Entry) : Entry :=
  if e.here = true ∧ e.condition = .ready ∧ min e.life full = 0 then
    { e with life := min e.life full, condition := .expired, version := e.version + 1 }
  else { e with life := min e.life full }

theorem clampLife_renewed (hb : s.Bounded) (hw : s.cue.windows = []) (he : s.entry? u = some e)
    (hf : f e = e.clamped (s.fullLife e.kind)) : State.Renewed f [u] s (clampLife u s) := by
  have htool : e.tool = u := tool_of_entry? he
  unfold clampLife
  simp only [he]
  split
  · next hc =>
    refine versioned_renewed hb hw (g := fun x => { x with life := min e.life (s.fullLife e.kind), condition := .expired })
      (fun _ => rfl) he (Entry.here_iff.1 hc.1) ?_
    rw [hf, Entry.clamped, if_pos hc]
  · next hc =>
    have hfe : f e = { e with life := min e.life (s.fullLife e.kind) } := by rw [hf, Entry.clamped, if_neg hc]
    have hne : ∀ v, v ≠ u → (putEntry { e with life := min e.life (s.fullLife e.kind) } s).entry? v = s.entry? v := fun v hv =>
      entry?_putEntry_ne hb.register (e := { e with life := min e.life (s.fullLife e.kind) }) (htool.symm ▸ hv)
    have hself : (putEntry { e with life := min e.life (s.fullLife e.kind) } s).entry? u = some { e with life := min e.life (s.fullLife e.kind) } :=
      entry?_putEntry_of_tool hb.register htool
    refine ⟨fun v => ?entries, rfl, rfl, rfl, putEntry_bounded _ hb (htool.symm ▸ he), fun hcov => ⟨fun v e' he' hh' => ?covered, rfl⟩⟩
    case entries =>
      by_cases hv : v = u
      · subst hv
        rw [hself]
        simp [he, hfe]
      · rw [hne v hv]
        simp [hv]
    case covered =>
      by_cases hv : v = u
      · subst hv
        cases hself.symm.trans he'
        exact hcov v e he hh'
      · exact hcov v e' (hne v hv ▸ he') hh'

/-! ### The steps over the register -/

theorem lifeStep_renewed (hb : s.Bounded) (hw : s.cue.windows = []) : State.Renewed (fun e => e.clamped (s.fullLife e.kind))
    ((s.trg.entries.filter fun _ => true).map (·.tool)) s (lifeStep s) := by
  have hl : s.trg.entries.filter (fun _ => true) = s.trg.entries := List.filter_eq_self.2 fun _ _ => rfl
  have hfold : lifeStep s = ((s.trg.entries.filter fun _ => true).map (·.tool)).foldl (fun s u => clampLife u s) s := by rw [hl]; rfl
  rw [hfold]
  refine renewed_foldl (Q := fun _ => True) hb (nodup_tools_filter hb _) (fun u hu => ?_) fun x u e hx hc hs he _ => ?_
  · obtain ⟨e, he, -⟩ := (mem_tools_filter hb).1 hu
    exact ⟨e, he, trivial⟩
  · have hfull : x.fullLife e.kind = s.fullLife e.kind := by simp only [State.fullLife, State.kind?, hs]
    exact clampLife_renewed hx (by rw [hc]; exact hw) he (congrArg e.clamped hfull.symm)

/-- R134: an away timer used up. -/
def Entry.awayDue (e : Entry) : Bool := decide (e.custody = .away ∧ e.awayTimer = some 0)

theorem awayStep_renewed (hb : s.Bounded) (hw : s.cue.windows = []) : State.Renewed (fun e => { e.lose with version := e.version + 1 })
    ((s.trg.entries.filter Entry.awayDue).map (·.tool)) s (awayStep s) :=
  renewed_foldl (Q := fun e => e.custody ≠ .foreign) hb (nodup_tools_filter hb _) (fun u hu => by
      obtain ⟨e, he, hd⟩ := (mem_tools_filter hb).1 hu
      have haway : e.custody = .away := (of_decide_eq_true hd).1
      exact ⟨e, he, by simp [haway]⟩)
    fun x u e hx hc _ he hh => versioned_renewed hx (by rw [hc]; exact hw) (fun _ => rfl) he hh rfl

theorem renameEntries_renewed (hb : s.Bounded) (hw : s.cue.windows = []) (own : StationId) :
    State.Renewed (fun e => { e with custodian := own, version := e.version + 1 })
      ((s.trg.entries.filter Entry.here).map (·.tool)) s (renameEntries own s) :=
  renewed_foldl (Q := fun e => e.custody ≠ .foreign) hb (nodup_tools_filter hb _) (fun u hu => by
      obtain ⟨e, he, hh⟩ := (mem_tools_filter hb).1 hu
      exact ⟨e, he, Entry.here_iff.1 hh⟩)
    fun x u e hx hc _ he hh => versioned_renewed hx (by rw [hc]; exact hw) (fun _ => rfl) he hh rfl

/-! ### RESTORING without a transfer and without a window -/

/-- A state without a transfer, a window or a waiting adoption. -/
structure State.Plain (s : State) : Prop where
  bounded : s.Bounded
  givers : s.cue.givers = []
  takers : s.cue.takers = []
  windows : s.cue.windows = []

theorem State.Plain.of_cue (h : s.Plain) (hb : t.Bounded) (hc : t.cue = s.cue) : t.Plain :=
  ⟨hb, hc ▸ h.givers, hc ▸ h.takers, hc ▸ h.windows⟩

theorem seekingStep_plain (h : s.Plain) : seekingStep s = s := seekingStep_same fun k hk => by simp [h.takers] at hk

theorem transitCheckStep_plain (h : s.Plain) : transitCheckStep s = s := by
  have hw : s.cue.windows.filter (fun w => !decide (w.use = .transitCheck)) = s.cue.windows := by rw [h.windows]; rfl
  rw [transitCheckStep, hw]

theorem adoptionStep_plain (h : s.Plain) : adoptionStep s = s := by
  rw [adoptionStep, h.windows]
  rfl

theorem expiryStep_plain (h : s.Plain) : expiryStep s = pocketTimerStep (transitStep (awayStep s)) := by
  rw [expiryStep, holdStep_same fun g hg => by simp [h.givers] at hg, releaseStep_same fun g hg => by simp [h.givers] at hg,
    deadlineStep_same fun k hk => by simp [h.takers] at hk]

/-- R47: the rebuild of the pockets leaves the register, the transfers and the line. -/
theorem pocketStep_rest (h : closeMisfits s = s) :
    (pocketStep s).trg = s.trg ∧ (pocketStep s).cue = s.cue ∧ (pocketStep s).hli = s.hli := by
  have hfold : pocketStep s = (List.range 48).foldl (fun s p => testMark p s) s.rebuilt := by rw [pocketStep, h]; rfl
  rw [hfold]
  exact foldl_keeps (P := fun x => x.trg = s.trg ∧ x.cue = s.cue ∧ x.hli = s.hli) (fun x p _ hx => by simpa using hx) ⟨rfl, rfl, rfl⟩

theorem gaugeStep_same (h : s.headFitted = true ∨ ∀ e ∈ s.trg.entries, e.custody ≠ .atGauge) : gaugeStep s = s := by
  unfold gaugeStep
  split
  · rfl
  · next hnot =>
    have hnone : s.atGauge? = none := List.find?_eq_none.2 fun e he => by simpa using (h.resolve_left hnot) e he
    simp [hnone]

theorem handPlain_routine (x : Frame) (o : FrameOwner) (s : State) : (handPlain x o s).hli.routine = s.hli.routine := by
  unfold handPlain
  split <;> rfl

/-- R135: the transit checks begun put nothing into the routine queue. -/
theorem transitStep_routine (s : State) : (transitStep s).hli.routine = s.hli.routine := by
  refine foldl_keeps (P := fun x => x.hli.routine = s.hli.routine) (fun x u _ hx => ?_) rfl
  unfold beginTransitCheck
  split
  · exact (handPlain_routine _ _ _).trans hx
  · exact hx

/-- R195: an entry after the outage of `n` minutes. -/
def Entry.outaged (n : Nat) (e : Entry) : Entry := (e.older n).pass (n * 60)

/-- R151: an entry whose away timer is used up. -/
def Entry.lapsed (e : Entry) : Entry := if e.awayDue then { e.lose with version := e.version + 1 } else e

/-- R195: an entry as RESTORING leaves it. -/
def Entry.restored (full n : Nat) (e : Entry) : Entry := ((e.outaged n).clamped full).lapsed

/-- R195: RESTORING with the memory held, after the step of the station ID. -/
def State.resumed (s : State) : State :=
  queueStep (outageStep (transitCheckStep (seekingStep s)))
    (expiryStep (gaugeStep (pocketStep (checkStep (adoptionStep (lifeStep (outageStep (transitCheckStep (seekingStep s)))))))))

theorem restoreHeld_eq (s : State) : restoreHeld s = (stationIdStep s).resumed := rfl

theorem clamped_custody (full : Nat) (e : Entry) : (e.clamped full).custody = e.custody := by
  unfold Entry.clamped
  split <;> rfl

/-- R195: what RESTORING leaves of the register when no transfer and no window is open. -/
structure State.Resumes (s t : State) : Prop where
  entries : ∀ v, t.entry? v = (s.entry? v).map (fun e => e.restored (s.fullLife e.kind) s.outage)
  heard : t.trg.heard = s.trg.heard
  checks : t.trg.checks = []
  covered : s.Covered → t.Covered ∧ t.hli.routine.length = s.hli.routine.length
  noFault : t.NoFault

theorem covered_of_same (ht : ∀ u, t.entry? u = s.entry? u) (hr : t.hli.routine = s.hli.routine) (h : s.Covered) :
    t.Covered ∧ t.hli.routine.length = s.hli.routine.length :=
  ⟨fun u e he hh => hr ▸ h u e (ht u ▸ he) hh, by rw [hr]⟩

theorem outageStep_entry (u : ToolId) : (outageStep s).entry? u = (s.entry? u).map (Entry.outaged s.outage) :=
  entry?_map (f := Entry.outaged s.outage) (fun _ => rfl)
    (List.map_map (f := Entry.older s.outage) (g := Entry.pass (s.outage * 60)) (l := s.trg.entries)) u

theorem outageStep_covered (h : s.Covered) : (outageStep s).Covered := fun u e he hh => by
  obtain ⟨e₀, he₀, rfl⟩ := Option.map_eq_some_iff.1 (outageStep_entry u ▸ he)
  exact h u e₀ he₀ hh

/-- R195: RESTORING step by step. -/
theorem resumed_resumes (h : s.Plain) (hg : s.headFitted = true ∨ ∀ e ∈ s.trg.entries, e.custody ≠ .atGauge) : s.Resumes s.resumed := by
  set x := outageStep s with hx
  have hxp : x.Plain := ⟨outageStep_bounded h.bounded, by simp [hx, outageStep, passTimers, agePresets, h.givers],
    by simp [hx, outageStep, passTimers, agePresets, h.takers], by simp [hx, outageStep, passTimers, agePresets, h.windows]⟩
  have hlife := lifeStep_renewed hxp.bounded hxp.windows
  set y := checkStep (lifeStep x) with hy
  have hyp : y.Plain := hxp.of_cue (checkStep_bounded hlife.bounded) (by simp [hy])
  have hye : ∀ v, y.entry? v = (x.entry? v).map (fun e => e.clamped (x.fullLife e.kind)) := fun v =>
    (renewed_entry hxp.bounded hlife v).trans (by simp)
  have hmis : closeMisfits y = y := closeMisfits_same (fun g hg => by simp [hyp.givers] at hg) (fun k hk => by simp [hyp.takers] at hk)
  obtain ⟨z, hz⟩ : ∃ z, z = pocketStep y := ⟨_, rfl⟩
  obtain ⟨hptrg, hpcue, hphli⟩ := hz ▸ pocketStep_rest hmis
  have hzp : z.Plain := hyp.of_cue (hz ▸ pocketStep_bounded hyp.bounded) hpcue
  have hgauge : gaugeStep z = z := by
    refine gaugeStep_same (hg.imp (fun hf => ?_) fun hno e he => ?_)
    · have hstc : z.stc = s.stc := by simp [hz, hy, hx]
      simpa only [State.headFitted, hstc] using hf
    · have hez : z.entry? e.tool = some e := entry?_of_mem hzp.bounded.register he
      rw [entry?_of_trg hptrg, hye, outageStep_entry, Option.map_map, Option.map_eq_some_iff] at hez
      obtain ⟨e₀, he₀, rfl⟩ := hez
      exact (clamped_custody _ _).symm ▸ hno e₀ (mem_of_entry? he₀).1
  have haway := awayStep_renewed hzp.bounded hzp.windows
  obtain ⟨w, hw⟩ : ∃ w, w = awayStep z := ⟨_, rfl⟩
  rw [← hw] at haway
  have hend : s.resumed = queueStep x (pocketTimerStep (transitStep w)) := by
    rw [State.resumed, seekingStep_plain h, transitCheckStep_plain h, ← hx, adoptionStep_plain (hxp.of_cue hlife.bounded hlife.cue), ← hy, ← hz,
      hgauge, expiryStep_plain hzp, ← hw]
  have htrg : s.resumed.trg = w.trg := by rw [hend]; simp
  have hroutine : s.resumed.hli.routine = w.hli.routine := by rw [hend]; simp [transitStep_routine]
  refine ⟨fun v => ?entries, ?heard, ?checks, fun hcov => ?covered, ?noFault⟩
  case entries =>
    rw [entry?_of_trg htrg, renewed_entry hzp.bounded haway, entry?_of_trg hptrg, hye, outageStep_entry, Option.map_map, Option.map_map]
    rfl
  case heard =>
    have hl : (lifeStep x).trg.heard = x.trg.heard := by rw [hlife.trg]
    rw [htrg, haway.trg, hptrg]
    exact hl
  case checks => rw [htrg, haway.trg, hptrg]; rfl
  case covered =>
    obtain ⟨hlc, hll⟩ := hlife.covered (outageStep_covered hcov)
    obtain ⟨hzc, hzl⟩ := covered_of_same (s := lifeStep x) (t := z) (fun u => entry?_of_trg hptrg u) (by rw [hphli]; simp [hy]) hlc
    obtain ⟨hwc, hwl⟩ := haway.covered hzc
    obtain ⟨hec, hel⟩ := covered_of_same (entry?_of_trg htrg) hroutine hwc
    exact ⟨hec, by rw [hel, hwl, hzl, hll]; simp [hx]⟩
  case noFault =>
    have hground : z.Ground (transitStep w) := (hw ▸ awayStep_ground z).trans (transitStep_ground w)
    rw [hend]
    exact (queueStep_ground x _).noFault
      (pocketTimerStep_noFault (transitStep_bounded haway.bounded) (hground.noFault (hz ▸ pocketStep_noFault y)))

/-- R195, R7, R151: an entry as RESTORING leaves it, change by change. -/
theorem restored_eq (full n : Nat) (e : Entry) : ∃ out lost : Bool,
    (out = true ↔ e.custody ≠ .foreign ∧ e.condition = .ready ∧ min e.life full = 0) ∧
    (lost = true ↔ e.custody = .away ∧ ∃ x, e.awayTimer = some x ∧ x ≤ 60 * n) ∧
    e.restored full n = { e with
      preset := e.preset.map (fun p => { p with age := min 65535 (p.age + n) }),
      life := min e.life full,
      condition := if out then .expired else e.condition,
      custody := if lost then .lost else e.custody,
      destination := if lost then none else e.destination,
      awayTimer := if lost then none else e.awayTimer.map (· - 60 * n),
      version := e.version + (if out then 1 else 0) + (if lost then 1 else 0) } := by
  set o := decide (e.custody ≠ .foreign ∧ e.condition = .ready ∧ min e.life full = 0) with ho
  have hcl : (e.outaged n).clamped full = { e.outaged n with
      life := min e.life full,
      condition := if o then .expired else e.condition,
      version := e.version + (if o then 1 else 0) } := by
    have hiff : ((e.outaged n).here = true ∧ (e.outaged n).condition = .ready ∧ min (e.outaged n).life full = 0) ↔ o = true := by
      rw [ho, decide_eq_true_iff, Entry.here_iff]
      rfl
    unfold Entry.clamped
    by_cases h : o = true
    · rw [if_pos (hiff.2 h)]
      simp [h, Entry.outaged, Entry.older, Entry.pass]
    · rw [if_neg (mt hiff.1 h)]
      simp [h, Entry.outaged, Entry.older, Entry.pass]
  have hlost : ((e.outaged n).clamped full).awayDue = true ↔ e.custody = .away ∧ ∃ x, e.awayTimer = some x ∧ x ≤ 60 * n := by
    rw [hcl]
    cases hx : e.awayTimer <;> simp [Entry.awayDue, Entry.outaged, Entry.older, Entry.pass, hx, Nat.sub_eq_zero_iff_le, Nat.mul_comm]
  refine ⟨o, ((e.outaged n).clamped full).awayDue, by simp [ho], hlost, ?_⟩
  unfold Entry.restored Entry.lapsed
  by_cases hl : ((e.outaged n).clamped full).awayDue = true
  · rw [if_pos hl, hl, hcl]
    simp [Entry.outaged, Entry.older, Entry.pass, Entry.lose]
  · rw [if_neg hl, (Bool.not_eq_true _).mp hl, hcl]
    simp [Entry.outaged, Entry.older, Entry.pass, Nat.mul_comm]

/-- R195: a cached entry as RESTORING leaves it. -/
theorem restored_foreign (full n : Nat) (h : e.custody = .foreign) : e.restored full n = { e with
    preset := e.preset.map (fun p => { p with age := min 65535 (p.age + n) }),
    life := min e.life full,
    awayTimer := e.awayTimer.map (· - 60 * n) } := by
  obtain ⟨out, lost, hout, hlost, heq⟩ := restored_eq full n e
  have ho : out = false := by
    rw [Bool.eq_false_iff]
    exact fun ho => (hout.1 ho).1 h
  have hl : lost = false := by
    rw [Bool.eq_false_iff]
    exact fun hl => by simpa [h] using (hlost.1 hl).1
  rw [heq, ho, hl]
  simp

theorem restored_here (full n : Nat) (h : e.custody ≠ .foreign) : (e.restored full n).custody ≠ .foreign := by
  unfold Entry.restored Entry.lapsed
  split
  · simp [Entry.lose]
  · rw [clamped_custody]
    exact h

/-! ### Another station ID (R196) -/

/-- R196: the versioned changes of the tools here hand over a RECORD of each, while the queue has room for all of them. -/
theorem foldl_versioned_routine {g : Entry → Entry} (hb : s.Bounded) (hw : s.cue.windows = []) (hn : s.stc.node ≠ .idConflict)
    (hg : ∀ e, (g e).tool = e.tool) (hc : ∀ e, (g e).custody = e.custody)
    (hL : ∀ u ∈ L, ∃ e, s.entry? u = some e ∧ e.custody ≠ .foreign) (hl : s.hli.routine.length + L.length ≤ 16) :
    (L.foldl (fun s u => versioned u g s) s).hli.routine.length ≤ s.hli.routine.length + L.length ∧
      ∀ v, v ∈ L ∨ s.hli.routine.any (Frame.isRecordOf v) = true →
        (L.foldl (fun s u => versioned u g s) s).hli.routine.any (Frame.isRecordOf v) = true := by
  induction L generalizing s with
  | nil => exact ⟨Nat.le_refl _, fun v hv => hv.resolve_left (by simp)⟩
  | cons u L ih =>
    obtain ⟨e, he, hh⟩ := hL u List.mem_cons_self
    simp only [List.length_cons] at hl ⊢
    have hroom : s.hli.routine.length < 16 := by omega
    have hhli := versioned_hli (f := g) hb he (adoptionOpen_of_windows_nil hw u) (hg e) (by rw [hc]; exact hh) hn
    have hlen : (versioned u g s).hli.routine.length ≤ s.hli.routine.length + 1 := by
      rw [hhli]
      exact placeRecord_length_succ _ _
    have hplaced : ∀ v, v = u ∨ s.hli.routine.any (Frame.isRecordOf v) = true → (versioned u g s).hli.routine.any (Frame.isRecordOf v) = true := by
      rw [hhli]
      rintro v (rfl | hv)
      · have hself := placeRecord_self (r := { g e with version := e.version + 1 : Entry }.record) hroom
        rwa [show ({ g e with version := e.version + 1 : Entry }.record).tool = v from (hg e).trans (tool_of_entry? he)] at hself
      · exact placeRecord_keeps hroom hv
    have hL' : ∀ v ∈ L, ∃ e, (versioned u g s).entry? v = some e ∧ e.custody ≠ .foreign := fun v hv => by
      obtain ⟨e', he', hh'⟩ := hL v (List.mem_cons_of_mem _ hv)
      have hcust := versioned_custody hb hg hc u v
      rw [he'] at hcust
      obtain ⟨x, hx, hxc⟩ := Option.map_eq_some_iff.1 hcust
      exact ⟨x, hx, hxc ▸ hh'⟩
    obtain ⟨hfl, hfk⟩ := ih (versioned_bounded u g hb hg) (by simpa using hw) (by simpa using hn) hL' (by omega)
    refine ⟨by simp only [List.foldl_cons]; omega, fun v hv => hfk v ?_⟩
    rw [List.mem_cons, or_assoc, or_left_comm] at hv
    exact hv.imp_right (hplaced v)

theorem purgeCached_entry (hb : s.Bounded) (src : StationId) (he : s.entry? u = some e) : (purgeCached src s).entry? u =
    if e.custody = .foreign ∧ e.custodian = src then none else some e := by
  have hb' : (purgeCached src s).trg.entries.Pairwise (fun a b => a.tool < b.tool) := by
    rw [purgeCached_entries hb]
    exact hb.register.filter _
  obtain ⟨hmem, htool⟩ := mem_of_entry? he
  split
  · next hgone =>
    refine Option.eq_none_iff_forall_not_mem.2 fun x hx => ?_
    obtain ⟨hxm, hxt⟩ := mem_of_entry? hx
    rw [purgeCached_entries hb] at hxm
    obtain ⟨hxm, hxc⟩ := List.mem_filter.1 hxm
    rw [eq_of_tool_eq hb.register hxm hmem (hxt.trans htool.symm)] at hxc
    simp [Entry.here, hgone] at hxc
  · next hstay =>
    have hin : e ∈ (purgeCached src s).trg.entries := by
      rw [purgeCached_entries hb]
      refine List.mem_filter.2 ⟨hmem, ?_⟩
      simpa [Entry.here, imp_iff_not_or] using hstay
    rw [← htool]
    exact entry?_of_mem hb' hin

theorem foldl_dropEntry_heard (l : List Entry) (s : State) :
    (l.foldl (fun s e => dropEntry e.tool s) s).trg.heard = s.trg.heard.filter (fun x => l.all (fun e => x != e.tool)) := by
  induction l generalizing s with
  | nil => simp
  | cons e es ih =>
    rw [List.foldl_cons, ih]
    simp [dropEntry, List.filter_filter, Bool.and_comm]

theorem purgeCached_heard {src : StationId} (he : s.entry? u = some e) (hf : e.custody = .foreign) (hs : e.custodian = src) :
    u ∉ (purgeCached src s).trg.heard := by
  obtain ⟨hmem, htool⟩ := mem_of_entry? he
  intro hu
  rw [purgeCached, foldl_dropEntry_heard] at hu
  have hall := List.all_eq_true.1 (List.mem_filter.1 hu).2 e (List.mem_filter.2 ⟨hmem, by simp [Entry.here, hf, hs]⟩)
  simp [htool] at hall

/-- R196: the step of the station ID without a transfer and without a window, under another ID. -/
theorem stationIdStep_moved (h : s.Plain) (hid : s.ownId ≠ s.stc.recordedId) :
    stationIdStep s = purgeCached s.ownId (renameEntries s.ownId s) := by
  have hr := renameEntries_renewed h.bounded h.windows s.ownId
  rw [stationIdStep, if_neg hid, endTransfers_none] <;> simp [h.givers, h.takers]

/-- R196: what that step leaves. -/
structure State.Moves (s t : State) : Prop where
  plain : t.Plain
  stc : t.stc = s.stc
  cck : t.cck = s.cck
  stamp : t.trg.stamp = s.trg.stamp
  gone : ∀ u e, s.entry? u = some e → e.custody = .foreign → e.custodian = s.ownId → t.entry? u = none ∧ u ∉ t.trg.heard
  stays : ∀ u e, s.entry? u = some e → e.custody = .foreign → e.custodian ≠ s.ownId → t.entry? u = some e
  renamed : ∀ u e, s.entry? u = some e → e.custody ≠ .foreign →
    t.entry? u = some { e with custodian := s.ownId, version := e.version + 1 }
  origin : ∀ u e', t.entry? u = some e' → ∃ e, s.entry? u = some e ∧ e.custody = e'.custody
  covered : s.stc.node ≠ .idConflict → s.hli.routine = [] → s.trg.entries.length ≤ 15 → t.Covered ∧ t.hli.routine.length ≤ 15

theorem stationIdStep_moves (h : s.Plain) (hid : s.ownId ≠ s.stc.recordedId) : s.Moves (stationIdStep s) := by
  have hr := renameEntries_renewed h.bounded h.windows s.ownId
  have hre := renewed_entry h.bounded hr
  rw [stationIdStep_moved h hid]
  set x := renameEntries s.ownId s with hx
  have hxf : ∀ u e, s.entry? u = some e → e.custody = .foreign → x.entry? u = some e := fun u e he hf => by
    rw [hre, he]
    simp [Entry.here, hf]
  have hxh : ∀ u e, s.entry? u = some e → e.custody ≠ .foreign → x.entry? u = some { e with custodian := s.ownId, version := e.version + 1 } :=
    fun u e he hh => by
      rw [hre, he]
      simp [Entry.here, hh]
  have hstamp : (purgeCached s.ownId x).trg.stamp = x.trg.stamp := by
    unfold purgeCached
    exact foldl_keeps (P := fun y => y.trg.stamp = x.trg.stamp) (fun y e _ hy => hy) rfl
  have horigin : ∀ u e', (purgeCached s.ownId x).entry? u = some e' → ∃ e, s.entry? u = some e ∧ e.custody = e'.custody := fun u e' he' => by
    obtain ⟨hmem, rfl⟩ := mem_of_entry? he'
    rw [purgeCached_entries hr.bounded] at hmem
    have hxe : x.entry? e'.tool = some e' := entry?_of_mem hr.bounded.register (List.mem_filter.1 hmem).1
    rw [hre] at hxe
    obtain ⟨e, he, hee⟩ := Option.map_eq_some_iff.1 hxe
    refine ⟨e, he, ?_⟩
    rw [← hee]
    split <;> rfl
  refine ⟨h.of_cue (purgeCached_bounded _ hr.bounded) (by simp [hr.cue]), by simp [hr.stc], by simp [hx], ?stamp,
    fun u e he hf hs => ⟨?gone, purgeCached_heard (hxf u e he hf) hf hs⟩, fun u e he hf hs => ?stays, fun u e he hh => ?renamed,
    horigin, fun hn hempty hl => ?covered⟩
  case stamp => rw [hstamp, hr.trg]
  case gone => rw [purgeCached_entry hr.bounded _ (hxf u e he hf), if_pos ⟨hf, hs⟩]
  case stays => rw [purgeCached_entry hr.bounded _ (hxf u e he hf), if_neg fun hc => hs hc.2]
  case renamed => rw [purgeCached_entry hr.bounded _ (hxh u e he hh), if_neg fun hc => hh hc.1]
  case covered =>
    have hcount : ((s.trg.entries.filter Entry.here).map (·.tool)).length ≤ 15 := by
      simpa using (List.length_filter_le _ _).trans hl
    obtain ⟨hlen, hany⟩ := foldl_versioned_routine (L := (s.trg.entries.filter Entry.here).map (·.tool))
      (g := fun e => { e with custodian := s.ownId }) h.bounded h.windows hn (fun _ => rfl) (fun _ => rfl)
      (fun u hu => by
        obtain ⟨e, he, hh⟩ := (mem_tools_filter h.bounded).1 hu
        exact ⟨e, he, Entry.here_iff.1 hh⟩) (by rw [hempty]; simp only [List.length_nil]; omega)
    have hroutine : (purgeCached s.ownId x).hli.routine = (((s.trg.entries.filter Entry.here).map (·.tool)).foldl
        (fun y u => versioned u (fun e => { e with custodian := s.ownId }) y) s).hli.routine := by
      simp only [purgeCached_frame]
      rfl
    rw [hempty] at hlen
    refine ⟨fun u e' he' hh' => ?_, by rw [hroutine]; exact hlen.trans (by simpa using hcount)⟩
    obtain ⟨e, he, hc⟩ := horigin u e' he'
    rw [hroutine]
    exact hany _ (.inl ((mem_tools_filter h.bounded).2 ⟨e, he, Entry.here_iff.2 (hc ▸ hh')⟩))

/-! ### The end of the hunt -/

variable {r : Option ModuleReport}

/-- R104: what the entry into JOINING leaves, no pocket in FAULT. -/
theorem intoJoining_parts (h : s.NoFault) : s.intoJoining.trg = { s.trg with stamp := s.cck.cal.toStamp } ∧ s.intoJoining.cue = s.cue ∧
    s.intoJoining.hli.routine = placeAnnounce (endRestoring s).joinReport s.hli.routine ∧
    s.intoJoining.pkc.modules = s.pkc.modules ∧ ∀ p, (s.pocket p).Alike (s.intoJoining.pocket p) := by
  rw [intoJoining_rest h]
  exact ⟨rfl, rfl, rfl, rfl, fun p => endRestoring_alike p s⟩

theorem cleared_plain (hb : s.Bounded) (hg : s.cue.givers = []) (hk : s.cue.takers = []) (hw : s.cue.windows = []) : (s.cleared r).Plain := by
  obtain ⟨-, -, -, hcue, -⟩ := cleared_rest s r
  exact ⟨cleared_bounded hb r, by simp [hcue, hg], by simp [hcue, hk], by simp [hcue, hw]⟩

/-- What of a state's readings RESTORING goes by. -/
theorem cleared_readings (s : State) (r : Option ModuleReport) : (∀ u, (s.cleared r).entry? u = s.entry? u) ∧
    (∀ k, (s.cleared r).fullLife k = s.fullLife k) ∧ (s.cleared r).outage = s.outage ∧ (s.cleared r).headFitted = s.headFitted ∧
    (s.cleared r).ownId = s.ownId ∧ (s.cleared r).stc.recordedId = s.stc.recordedId := by
  obtain ⟨htrg, -, -, -, -, -, hcck, hstc⟩ := cleared_rest s r
  refine ⟨fun u => entry?_of_trg htrg u, fun k => ?_, ?_, ?_, ?_, ?_⟩
  · simp [State.fullLife, State.kind?, hstc]
  · simp only [State.outage, htrg, hcck]
  · simp [State.headFitted, hstc]
  · simp [State.ownId, hstc]
  · rw [hstc]

/-- R195: the entries when the memory held under the own ID, without a transfer and without a window. -/
theorem lastProbe_register (hr : s.stc.report = .held) (hb : s.Bounded) (hid : s.ownId = s.stc.recordedId) (hg : s.cue.givers = [])
    (hk : s.cue.takers = []) (hw : s.cue.windows = []) (hgauge : s.headFitted = true ∨ ∀ e ∈ s.trg.entries, e.custody ≠ .atGauge) :
    (restore (s.hunted r)).trg.heard = s.trg.heard ∧ (restore (s.hunted r)).trg.checks = [] ∧
      (restore (s.hunted r)).trg.stamp = s.cck.cal.toStamp ∧
      ∀ u, (restore (s.hunted r)).entry? u = (s.entry? u).map (fun e => e.restored (s.fullLife e.kind) s.outage) := by
  obtain ⟨htrg, -, -, -, -, -, hcck, -⟩ := cleared_rest s r
  obtain ⟨hent, hfull, hout, hhead, hown, hrec⟩ := cleared_readings s r
  have hheld : restoreHeld (s.cleared r) = (s.cleared r).resumed := by
    rw [restoreHeld_eq, stationIdStep, if_pos (by rw [hown, hrec, hid])]
  have hres := resumed_resumes (cleared_plain (r := r) hb hg hk hw) (by rw [hhead, htrg]; exact hgauge)
  obtain ⟨y, hy⟩ : ∃ y, y = (s.cleared r).resumed := ⟨_, rfl⟩
  have hcal : y.cck = s.cck := by rw [hy, ← hheld]; simp [hcck]
  rw [restore_held hr, hheld]
  rw [← hy] at hres ⊢
  obtain ⟨hjt, -⟩ := intoJoining_parts hres.noFault
  refine ⟨?heard, by rw [hjt]; exact hres.checks, by rw [hjt, hcal], fun u => ?entries⟩
  case heard => rw [hjt, ← htrg]; exact hres.heard
  case entries =>
    have hentry : y.intoJoining.entry? u = y.entry? u := by simp only [State.entry?, hjt]
    rw [hentry, hres.entries, hent, hout]
    simp only [hfull]

theorem placeAnnounce_any {a : Announce} {l : List Frame} (hl : l.length ≤ 15) (h : l.any (Frame.isRecordOf u) = true) :
    (placeAnnounce a l).any (Frame.isRecordOf u) = true := by
  rw [placeAnnounce, appendRoutine, if_pos (Nat.lt_succ_of_le hl), List.any_append, h, Bool.true_or]

/-- R196: the entries when the memory held under another ID, without a transfer and without a window. -/
theorem lastProbe_moved (hr : s.stc.report = .held) (hb : s.Bounded) (hid : s.ownId ≠ s.stc.recordedId) (hg : s.cue.givers = [])
    (hk : s.cue.takers = []) (hw : s.cue.windows = []) (hgauge : s.headFitted = true ∨ ∀ e ∈ s.trg.entries, e.custody ≠ .atGauge)
    (he : s.entry? u = some e) :
    (e.custody = .foreign → e.custodian = s.ownId → (restore (s.hunted r)).entry? u = none ∧ u ∉ (restore (s.hunted r)).trg.heard) ∧
    (e.custody = .foreign → e.custodian ≠ s.ownId →
      (restore (s.hunted r)).entry? u = some (e.restored (s.fullLife e.kind) s.outage)) ∧
    (e.custody ≠ .foreign →
      (restore (s.hunted r)).entry? u =
        some ({ e with custodian := s.ownId, version := e.version + 1 }.restored (s.fullLife e.kind) s.outage) ∧
      (s.trg.entries.length ≤ 15 → (restore (s.hunted r)).hli.routine.any (Frame.isRecordOf u) = true)) := by
  obtain ⟨htrg, -, -, -, hhli, -, hcck, hstc⟩ := cleared_rest s r
  obtain ⟨hent, hfull, hout, hhead, hown, hrec⟩ := cleared_readings s r
  have hmv := stationIdStep_moves (cleared_plain (r := r) hb hg hk hw) (by rw [hown, hrec]; exact hid)
  rw [restore_held hr, restoreHeld_eq]
  obtain ⟨x, hx⟩ : ∃ x, x = stationIdStep (s.cleared r) := ⟨_, rfl⟩
  rw [← hx] at hmv ⊢
  have hxhead : x.headFitted = s.headFitted := by rw [← hhead]; simp only [State.headFitted, hmv.stc]
  have hxfull : x.fullLife e.kind = s.fullLife e.kind := by rw [← hfull]; simp only [State.fullLife, State.kind?, hmv.stc]
  have hxout : x.outage = s.outage := by rw [← hout]; simp only [State.outage, hmv.cck, hmv.stamp]
  have hres := resumed_resumes hmv.plain (by
    rw [hxhead]
    refine hgauge.imp_right fun hno e' he' => ?_
    obtain ⟨e₀, he₀, hc⟩ := hmv.origin _ e' (entry?_of_mem hmv.plain.bounded.register he')
    rw [hent] at he₀
    exact hc ▸ hno e₀ (mem_of_entry? he₀).1)
  obtain ⟨y, hy⟩ : ∃ y, y = x.resumed := ⟨_, rfl⟩
  rw [← hy] at hres ⊢
  obtain ⟨hjt, -, hjr, -⟩ := intoJoining_parts hres.noFault
  have hentry : ∀ e₁, x.entry? u = e₁ → y.intoJoining.entry? u = e₁.map (fun e => e.restored (x.fullLife e.kind) s.outage) := by
    rintro _ rfl
    have hj : y.intoJoining.entry? u = y.entry? u := by simp only [State.entry?, hjt]
    rw [hj, hres.entries, hxout]
  have he' : (s.cleared r).entry? u = some e := (hent u).trans he
  refine ⟨fun hf hs => ?gone, fun hf hs => ?stays, fun hh => ⟨?renamed, fun hl => ?record⟩⟩
  case gone =>
    obtain ⟨hnone, hheard⟩ := hmv.gone u e he' hf (by rw [hown]; exact hs)
    exact ⟨hentry none hnone, by rw [hjt]; exact hres.heard ▸ hheard⟩
  case stays =>
    rw [hentry _ (hmv.stays u e he' hf (by rw [hown]; exact hs)), ← hxfull]
    rfl
  case renamed =>
    rw [hentry _ (hmv.renamed u e he' hh), ← hxfull, hown]
    rfl
  case record =>
    obtain ⟨hcov, hlen⟩ := hmv.covered (by rw [hstc]; simp) (by rw [hhli]) (by rw [htrg]; exact hl)
    obtain ⟨hyc, hyl⟩ := hres.covered hcov
    have hrec := hmv.renamed u e he' hh
    rw [hjr]
    refine placeAnnounce_any (hyl ▸ hlen) (hyc u _ ((hres.entries u).trans (congrArg _ hrec)) (restored_here _ _ hh))

end Sys2Proof.Machine

/-! PROOFS. RESTORING and the transfers: those kept, their pockets, and those a change of the station ID ends (O17). -/

namespace Sys2Proof.Machine

open Sys2Proof

variable {s t : State} {p q : PocketNo} {u : ToolId} {e : Entry} {n : Nat} {r : Option ModuleReport}

/-! ### The modules, and the pockets out of FAULT -/

/-- The modules stay, and no pocket goes to FAULT. -/
structure State.Sound (s t : State) : Prop where
  modules : t.pkc.modules = s.pkc.modules
  noFault : s.NoFault → t.NoFault

theorem State.Sound.refl (s : State) : s.Sound s := ⟨rfl, id⟩

theorem State.Sound.trans {x : State} (h1 : s.Sound x) (h2 : x.Sound t) : s.Sound t :=
  ⟨h2.modules.trans h1.modules, fun h => h2.noFault (h1.noFault h)⟩

theorem State.Ground.sound (h : s.Ground t) : s.Sound t := ⟨h.modules, h.noFault⟩

theorem State.Sound.of_pkc (h : t.pkc = s.pkc) : s.Sound t := ⟨by rw [h], fun hs p => State.pocket_of_pkc h p ▸ hs p⟩

theorem State.Sound.foldl {α : Type} {f : State → α → State} (h : ∀ (x : State) a, x.Sound (f x a)) (l : List α) (s : State) :
    s.Sound (l.foldl f s) := foldl_keeps (P := fun x => s.Sound x) (fun (x : State) a _ hx => hx.trans (h x a)) (.refl s)

theorem modPocket_sound {f : Pocket → Pocket} (h : (s.pocket p).state ≠ .fault → (f (s.pocket p)).state ≠ .fault) : s.Sound (modPocket p f s) := by
  refine ⟨rfl, fun hs q => ?_⟩
  by_cases hq : q = p
  · subst hq
    by_cases hlen : q < s.pkc.pockets.length
    · rw [(modPocket_alike hlen).congr Pocket.state]
      exact h (hs q)
    · rw [modPocket_of_le _ (Nat.le_of_not_lt hlen)]
      exact hs q
  · rw [pocket_modPocket_ne hq]
    exact hs q

theorem requestRead_sound (p : PocketNo) (s : State) : s.Sound (requestRead p s) := by
  refine State.Sound.trans (modPocket_sound (p := p) (f := fun k => { k with readRequested := true }) id) ⟨?_, fun h q => ?_⟩
  · rw [requestRead, enqueueRead_queue]
  · rw [requestRead, enqueueRead_pocket]
    exact h q

theorem untarget_sound (p : PocketNo) (s : State) : s.Sound (untarget p s) := by
  unfold untarget
  split
  · refine modPocket_sound fun _ => ?_
    unfold Pocket.freed
    split <;> simp [Pocket.toEmpty]
  · exact (modPocket_sound fun _ => by simp).trans (requestRead_sound p _)
  · exact .refl s

theorem failTaker_sound (k : Taker) (c : FailReason) (s : State) : s.Sound (failTaker k c s) := by
  have hnotice : ∀ x : State, x.Sound (noticeNeedFailed k c x) := fun x => .of_pkc (by simp)
  have hclose : s.Sound (closeTaker k s) := .of_pkc rfl
  by_cases h : k.state = .seeking
  · rw [failTaker_seeking h]
    exact hclose.trans (hnotice _)
  · rw [failTaker_targeting h]
    exact (hclose.trans (untarget_sound k.pocket _)).trans (hnotice _)

theorem endOffered_sound (g : Giver) (s : State) : s.Sound (endOffered g s) := by
  have hun : ∀ q, s.Sound (unreserve q s) := fun q => by
    unfold unreserve
    split
    · exact modPocket_sound fun _ => by simp [Pocket.toStocked]
    · exact .refl s
  unfold endOffered
  dsimp only
  split
  · next q _ => exact (hun q).trans (.of_pkc (by simp))
  · exact .of_pkc (by simp)

theorem releaseEnds_sound (g : Giver) (s : State) : s.Sound (releaseEnds g s) := by
  have hput : s.Sound (putGiver { g with expired := true } s) := .of_pkc rfl
  unfold releaseEnds readGiverPocket
  split
  · next q _ =>
    split
    · exact hput.trans (requestRead_sound q _)
    · exact hput
  · exact hput

theorem requestRead_modules (p : PocketNo) (s : State) : (requestRead p s).pkc.modules = s.pkc.modules := (requestRead_sound p s).modules

theorem closing_modules (p : PocketNo) (s : State) : (closing p s).pkc.modules = s.pkc.modules := by
  cases hst : (s.pocket p).state with
  | empty | openForStock => simp only [closing, hst, requestRead_modules, modPocket, putPocket]
  | stocked =>
    simp only [closing, hst]
    split <;> simp only [requestRead_modules, modPocket, putPocket]
  | checking =>
    simp only [closing, hst]
    split <;> simp only [requestRead_modules]
  | reserved | releasing | awaiting | wrongTool => simp only [closing, hst, requestRead_modules]
  | fault | absent => simp only [closing, hst]

theorem pocketTimerEnds_modules (p : PocketNo) (s : State) : (pocketTimerEnds p s).pkc.modules = s.pkc.modules := by
  unfold pocketTimerEnds
  split
  · exact closing_modules p _
  · split <;> rfl

theorem pocketTimerStep_modules (s : State) : (pocketTimerStep s).pkc.modules = s.pkc.modules := by
  unfold pocketTimerStep
  refine foldl_keeps (P := fun x => x.pkc.modules = s.pkc.modules) (fun x p _ hx => ?_) rfl
  split
  · exact (pocketTimerEnds_modules p x).trans hx
  · exact hx

theorem holdStep_sound (s : State) : s.Sound (holdStep s) := State.Sound.foldl (fun x g => endOffered_sound g x) _ s

theorem releaseStep_sound (s : State) : s.Sound (releaseStep s) := State.Sound.foldl (fun x g => releaseEnds_sound g x) _ s

theorem deadlineStep_sound (s : State) : s.Sound (deadlineStep s) := State.Sound.foldl (fun x k => failTaker_sound k .timeout x) _ s

/-- R195: the timers used up take no pocket to FAULT. -/
theorem expiryStep_sound (hb : s.Bounded) : s.Sound (expiryStep s) := by
  obtain ⟨x, hx⟩ : ∃ x, x = deadlineStep (releaseStep (holdStep s)) := ⟨_, rfl⟩
  have hxs : s.Sound x := hx ▸ ((holdStep_sound s).trans (releaseStep_sound _)).trans (deadlineStep_sound _)
  have hxb : x.Bounded := hx ▸ deadlineStep_bounded (releaseStep_bounded (holdStep_bounded hb))
  have hend : expiryStep s = pocketTimerStep (transitStep (awayStep x)) := by rw [hx]; rfl
  have hw : s.Sound (transitStep (awayStep x)) := (hxs.trans (awayStep_ground x).sound).trans (transitStep_ground _).sound
  rw [hend]
  exact hw.trans ⟨pocketTimerStep_modules _, pocketTimerStep_noFault (transitStep_bounded (awayStep_bounded hxb))⟩

/-- R47, R195: RESTORING after the rebuild of the pockets. -/
theorem tail_sound (hb : s.Bounded) (x : State) : s.Sound (queueStep x (expiryStep (gaugeStep s))) :=
  ((gaugeStep_ground s).sound.trans (expiryStep_sound (gaugeStep_bounded hb))).trans (queueStep_ground x _).sound

theorem closeMisfits_modules (s : State) : (closeMisfits s).pkc.modules = s.pkc.modules := by
  have hgivers : ∀ l : List Giver, (l.foldl (fun s g => closeMisfitGiver g s) s).pkc = s.pkc := fun l =>
    foldl_keeps (P := fun x => x.pkc = s.pkc) (fun x g _ hx => by simp [hx]) rfl
  have htaker : ∀ k (x : State), (closeMisfitTaker k x).pkc.modules = x.pkc.modules := fun k x => by
    unfold closeMisfitTaker
    split <;> simp [modPocket, putPocket, closeTaker]
  unfold closeMisfits
  refine foldl_keeps (P := fun x => x.pkc.modules = s.pkc.modules) (fun x k _ hx => (htaker k x).trans hx) ?_
  rw [hgivers]

/-- R47: the rebuild leaves the modules. -/
theorem pocketStep_modules (s : State) : (pocketStep s).pkc.modules = s.pkc.modules :=
  (pocketStep_ground s).modules.trans (closeMisfits_modules s)

/-- R195: the state that the rebuild of the pockets starts from. -/
def State.settled (s : State) : State := checkStep (adoptionStep (lifeStep (outageStep (transitCheckStep (seekingStep s)))))

theorem settled_bounded (hb : s.Bounded) : s.settled.Bounded :=
  checkStep_bounded (adoptionStep_bounded (lifeStep_bounded (outageStep_bounded (transitCheckStep_bounded (seekingStep_bounded hb)))))

theorem resumed_eq (s : State) : s.resumed =
    queueStep (outageStep (transitCheckStep (seekingStep s))) (expiryStep (gaugeStep (pocketStep s.settled))) := rfl

theorem resumed_noFault (hb : s.Bounded) : s.resumed.NoFault := by
  rw [resumed_eq]
  exact (tail_sound (pocketStep_bounded (settled_bounded hb)) _).noFault (pocketStep_noFault _)

/-! ### Another station ID (R196) -/

/-- R196: no taker transfer, and of the giver transfers those that withdraw from RELEASING. -/
structure State.Withdrawing (s : State) : Prop where
  takers : s.cue.takers = []
  givers : ∀ g ∈ s.cue.givers, g.Withdrawn

theorem State.Withdrawing.of_core (h : s.Withdrawing) (hc : t.Core = s.Core) : t.Withdrawing := by
  simp only [State.Core, Prod.mk.injEq] at hc
  obtain ⟨-, -, hg, hk, -⟩ := hc
  exact ⟨hk.trans h.takers, fun g hm => h.givers g (hg ▸ hm)⟩

theorem State.Withdrawing.of_cue (h : s.Withdrawing) (hc : t.cue = s.cue) : t.Withdrawing :=
  ⟨hc ▸ h.takers, fun g hm => h.givers g (hc ▸ hm)⟩

theorem endTransfers_withdrawing (s : State) : (endTransfers s).Withdrawing := by
  have hcue : (endTransfers s).cue = _ := foldl_failTaker_takers .line _ _
  have hc := foldl_lapseGiver_core s.cue.givers s
  simp only [State.Core, Prod.mk.injEq] at hc
  refine ⟨?_, fun g hg => ?_⟩
  · rw [hcue]
    refine List.filter_eq_nil_iff.2 fun k hk hall => ?_
    simpa using List.all_eq_true.1 hall k hk
  · rw [hcue] at hg
    exact foldl_lapseGiver_givers s.cue.givers s (fun g hg => .inr ⟨g, hg, rfl, rfl⟩) g hg

theorem settleAdoption_core (u : ToolId) (fb h : Option Record) (s : State) : (settleAdoption u fb h s).Core = s.Core := by
  have hhand : ∀ f, (handRecord u (modEntry u f (s.unwindowed u))).Core = (s.unwindowed u).Core := fun f =>
    core_of_parts (by simp) (by simp) (by simp)
  unfold settleAdoption
  dsimp only
  rw [serveWaiting_core, presetReport_core]
  exact hhand _

theorem adoptionStep_core (s : State) : (adoptionStep s).Core = s.Core := by
  unfold adoptionStep
  refine foldl_keeps (P := fun x => x.Core = s.Core) (fun x w _ hx => ?_) rfl
  unfold closeAdoption
  split
  · exact (settleAdoption_core _ _ _ _).trans hx
  · exact hx

theorem settled_withdrawing (h : s.Withdrawing) : s.settled.Withdrawing := by
  have hseek : seekingStep s = s := seekingStep_same fun k hk => by simp [h.takers] at hk
  have hout : (outageStep (transitCheckStep s)).Withdrawing := by
    refine ⟨by simp [outageStep, passTimers, agePresets, transitCheckStep, h.takers], fun g hg => ?_⟩
    obtain ⟨g₀, hg₀, rfl⟩ := List.mem_map.1 hg
    exact h.givers g₀ hg₀
  have hlife : (lifeStep (outageStep (transitCheckStep s))).Withdrawing := hout.of_cue (by simp)
  rw [State.settled, hseek]
  exact (hlife.of_core (adoptionStep_core _)).of_cue (by simp)

theorem closeMisfits_withdrawing (h : s.Withdrawing) : (closeMisfits s).Withdrawing := by
  have hfold : ∀ l : List Giver, (l.foldl (fun s g => closeMisfitGiver g s) s).Withdrawing := fun l =>
    foldl_keeps (P := State.Withdrawing) (fun x g _ hx =>
      ⟨by simpa [closeMisfitGiver, closeGiver, lapseSeeker] using hx.takers, fun g' hg' => hx.givers g' (by
        have hmem := (List.mem_filter.1 hg').1
        simpa [lapseSeeker] using hmem)⟩) h
  unfold closeMisfits
  dsimp only
  rw [(hfold _).takers]
  exact hfold _

theorem pocketStep_withdrawing (h : s.Withdrawing) : (pocketStep s).Withdrawing := by
  have hm := closeMisfits_withdrawing h
  have hcue : (pocketStep s).cue = (closeMisfits s).cue := by
    unfold pocketStep
    exact foldl_keeps (P := fun x => x.cue = (closeMisfits s).cue) (fun x p _ hx => by simpa using hx) rfl
  exact hm.of_cue hcue

theorem mem_sortOn {α : Type} {key : α → Nat} {x : α} {l : List α} (h : x ∈ sortOn key l) : x ∈ l := by
  have hins : ∀ (a : α) (m : List α), x ∈ insertOn key a m → x = a ∨ x ∈ m := fun a m => by
    induction m with
    | nil => simp [insertOn]
    | cons b m ih =>
      unfold insertOn
      split
      · simp
      · intro hx
        rcases List.mem_cons.1 hx with rfl | hx
        · exact .inr List.mem_cons_self
        · exact (ih hx).imp_right (List.mem_cons_of_mem b)
  have hfold : ∀ (l m : List α), x ∈ l.foldl (fun r y => insertOn key y r) m → x ∈ m ∨ x ∈ l := fun l => by
    induction l with
    | nil => exact fun m hx => .inl hx
    | cons a l ih =>
      intro m hx
      rcases ih _ hx with hx | hx
      · rcases hins a m hx with rfl | hx
        · exact .inr List.mem_cons_self
        · exact .inl hx
      · exact .inr (List.mem_cons_of_mem a hx)
  exact (hfold l [] h).resolve_left List.not_mem_nil

theorem releaseStep_withdrawing (h : s.Withdrawing) : (releaseStep s).Withdrawing := by
  unfold releaseStep
  refine foldl_keeps (P := State.Withdrawing) (fun x g hg hx => ?_) h
  have hgw : g.Withdrawn := h.givers g (List.mem_filter.1 (mem_sortOn hg)).1
  refine State.Withdrawing.of_core (s := putGiver { g with expired := true } x) ⟨hx.takers, fun y hy => ?_⟩ (readGiverPocket_core g _)
  obtain ⟨z, hz, rfl⟩ := List.mem_map.1 hy
  split
  · exact hgw
  · exact hx.givers z hz

theorem transitStep_core (s : State) : (transitStep s).Core = s.Core := by
  unfold transitStep
  refine foldl_keeps (P := fun x => x.Core = s.Core) (fun x u _ hx => ?_) rfl
  unfold beginTransitCheck
  split
  · exact (openTransitCheck_core u x).trans hx
  · exact hx

theorem expiryStep_withdrawing (h : s.Withdrawing) : (expiryStep s).Withdrawing := by
  have hhold : holdStep s = s := holdStep_same fun g hg ho => by simp [(h.givers g hg).1] at ho
  have hrel := releaseStep_withdrawing h
  have hdead : deadlineStep (releaseStep s) = releaseStep s := deadlineStep_same fun k hk => by simp [hrel.takers] at hk
  have haway : (awayStep (releaseStep s)).Withdrawing := hrel.of_cue (by simp)
  rw [expiryStep, hhold, hdead]
  exact (haway.of_core (transitStep_core _)).of_cue (by simp)

theorem resumed_withdrawing (h : s.Withdrawing) : s.resumed.Withdrawing := by
  have hp := pocketStep_withdrawing (settled_withdrawing h)
  have hg : (gaugeStep (pocketStep s.settled)).Withdrawing := hp.of_cue (by simp)
  rw [resumed_eq]
  exact (expiryStep_withdrawing hg).of_cue (by simp)

/-- R196: the transfers left when the memory held under another ID. -/
theorem lastProbe_withdrawing (hr : s.stc.report = .held) (hb : s.Bounded) (hid : s.ownId ≠ s.stc.recordedId) :
    (restore (s.hunted r)).Withdrawing := by
  obtain ⟨-, -, -, -, hown, hrec⟩ := cleared_readings s r
  have hst : (stationIdStep (s.cleared r)).Withdrawing := by
    rw [stationIdStep, if_neg (by rw [hown, hrec]; exact hid)]
    exact endTransfers_withdrawing _
  rw [restore_held hr, restoreHeld_eq]
  exact (resumed_withdrawing hst).of_cue (intoJoining_parts (resumed_noFault (stationIdStep_bounded (cleared_bounded hb r)))).2.1

end Sys2Proof.Machine

/-! PROOFS. The end of the hunt with the memory held under the own ID: the transfers kept and the pockets rebuilt (O17). -/

namespace Sys2Proof.Machine

open Sys2Proof

variable {s t : State} {p q : PocketNo} {u : ToolId} {e : Entry} {n : Nat} {r : Option ModuleReport}

/-! ### Before the rebuild (R195) -/

theorem outage_settles (hb : s.Bounded) (hw : s.cue.waiting = []) (hk : ∀ k ∈ s.cue.takers, k.state ≠ .seeking) :
    (outageStep (transitCheckStep s)).Settles s.settled := by
  rw [State.settled, seekingStep_same hk]
  exact settlingSteps_settle (outageStep_bounded (transitCheckStep_bounded hb)) hw

theorem holdsStocked_eq (s : State) (k : Pocket) :
    s.holdsStocked k = decide (k.contents.bind (fun u => (s.entry? u).map (·.custody)) = some .stocked) := by
  unfold State.holdsStocked
  cases k.contents with
  | none => simp
  | some u => cases h : s.entry? u <;> simp [h]

theorem holdsStocked_of_custody (h : ∀ u, (t.entry? u).map (·.custody) = (s.entry? u).map (·.custody)) (k : Pocket) :
    t.holdsStocked k = s.holdsStocked k := by
  simp only [holdsStocked_eq, h]

/-- R195: a pocket before its rebuild. -/
theorem settled_pocket (hb : s.Bounded) (hw : s.cue.waiting = []) (hk : ∀ k ∈ s.cue.takers, k.state ≠ .seeking) (hp : p < 48) :
    ((s.pocket p).pass (s.outage * 60)).Marked (s.settled.pocket p) := by
  have hout : (outageStep (transitCheckStep s)).pocket p = (s.pocket p).pass (s.outage * 60) := by
    have hlen : p < s.pkc.pockets.length := hb.pockets.symm ▸ hp
    simp [outageStep, passTimers, agePresets, transitCheckStep, State.pocket, hlen]
    rfl
  exact hout ▸ (outage_settles hb hw hk).ground.pockets p

theorem settled_custody (hb : s.Bounded) (hw : s.cue.waiting = []) (hk : ∀ k ∈ s.cue.takers, k.state ≠ .seeking) (u : ToolId) :
    (s.settled.entry? u).map (·.custody) = (s.entry? u).map (·.custody) := by
  rw [(outage_settles hb hw hk).custody, outageStep_entry, Option.map_map]
  rfl

/-! ### After the rebuild -/

/-- R47, R43: a pocket rebuilt, but for the end of a pocket timer used up. -/
structure Pocket.RebuiltAs (k k' : Pocket) : Prop where
  ends : k.TimerEnds k'
  marked : k.timerDue = false → k.Marked k'

/-- R47, R194: what RESTORING leaves of the transfers and of the pockets, `s` before the rebuild. -/
structure State.Rebuilds (s t : State) : Prop where
  givers : t.cue.givers = s.cue.givers
  takers : t.cue.takers = s.cue.takers
  modules : t.pkc.modules = s.pkc.modules
  pockets : ∀ p, p < 48 → (rebuiltPocket s p).RebuiltAs (t.pocket p)

theorem Pocket.Marked.timerDue {a b : Pocket} (h : a.Marked b) : b.timerDue = a.timerDue := h.congr Pocket.timerDue

theorem Pocket.Marked.ends {a b : Pocket} (h : a.Marked b) : a.TimerEnds b where
  state hs := by rw [h.congr Pocket.state]; exact hs
  verified := h.congr Pocket.verified
  hold := h.congr Pocket.hold
  contents hc := (h.congr Pocket.contents).trans hc

theorem Pocket.TimerEnds.trans {a b c : Pocket} (h1 : a.TimerEnds b) (h2 : b.TimerEnds c) : a.TimerEnds c :=
  ⟨fun h => h2.state (h1.state h), h2.verified.trans h1.verified, h2.hold.trans h1.hold, fun h => h2.contents (h1.contents h)⟩

/-- R47, R195: the rebuild and the steps after it, every transfer fitting the hunt and its timer not used up. -/
theorem resumed_rebuilds (hb : s.Bounded) (hgm : ∀ g ∈ s.settled.cue.givers, giverMisfit s.settled g = false)
    (hkm : ∀ k ∈ s.settled.cue.takers, takerMisfit s.settled k = false) (hg : ∀ g ∈ s.settled.cue.givers, g.timer ≠ some 0)
    (hk : ∀ k ∈ s.settled.cue.takers, k.timer ≠ 0) : s.settled.Rebuilds s.resumed := by
  obtain ⟨y, hy⟩ : ∃ y, y = s.settled := ⟨_, rfl⟩
  have hyb : y.Bounded := hy ▸ settled_bounded hb
  rw [resumed_eq]
  rw [← hy] at hgm hkm hg hk ⊢
  have hmis : closeMisfits y = y := closeMisfits_same hgm hkm
  obtain ⟨-, hpcue, -⟩ := pocketStep_rest hmis
  obtain ⟨z, hz⟩ : ∃ z, z = gaugeStep (pocketStep y) := ⟨_, rfl⟩
  have hzcue : z.cue = y.cue := by rw [hz, ← hpcue]; simp
  have hzb : z.Bounded := hz ▸ gaugeStep_bounded (pocketStep_bounded hyb)
  have hexp : expiryStep z = pocketTimerStep (transitStep (awayStep z)) := by
    rw [expiryStep, holdStep_same fun g hm _ => hg g (hzcue ▸ hm), releaseStep_same fun g hm => hg g (hzcue ▸ hm),
      deadlineStep_same fun k hm => hk k (hzcue ▸ hm)]
  have hwb : (transitStep (awayStep z)).Bounded := transitStep_bounded (awayStep_bounded hzb)
  have hw : ∀ p, p < 48 → (rebuiltPocket y p).Marked ((transitStep (awayStep z)).pocket p) := fun p hp => by
    have hrb := pocketStep_pocket (s := y) hp
    rw [hmis] at hrb
    exact hrb.trans (hz ▸ (((gaugeStep_ground _).trans (awayStep_ground _)).trans (transitStep_ground _)).pockets p)
  have hcore : (transitStep (awayStep z)).Core = (awayStep z).Core := transitStep_core _
  simp only [State.Core, Prod.mk.injEq] at hcore
  obtain ⟨-, -, hcg, hck, -⟩ := hcore
  rw [← hz, hexp]
  refine ⟨?givers, ?takers, ?modules, fun p hp => ?pocket⟩
  case givers => simp [hcg, hzcue]
  case takers => simp [hck, hzcue]
  case modules =>
    rw [← hexp, hz, (tail_sound (pocketStep_bounded hyb) _).modules, pocketStep_modules]
  case pocket =>
    obtain ⟨hsame, hends⟩ := pocketTimerStep_pocket hwb hp
    have hq := (queueStep_ground (outageStep (transitCheckStep (seekingStep s))) (pocketTimerStep (transitStep (awayStep z)))).pockets p
    refine ⟨((hw p hp).ends.trans hends).trans hq.ends, fun hd => ?_⟩
    rw [hsame ((hw p hp).timerDue.trans hd)] at hq
    exact (hw p hp).trans hq

/-! ### A pocket rebuilt, case by case (R47) -/

theorem rebuiltPocket_unfitted (hf : s.fitted p = false) :
    rebuiltPocket s p = { (s.pocket p).restarted with state := .absent, door := .closed } := by
  simp [rebuiltPocket, hf]

theorem rebuiltPocket_giver {g : Giver} (hf : s.fitted p = true) (hg : s.giverNaming p = some g) :
    rebuiltPocket s p = (s.pocket p).withGiver g := by
  simp [rebuiltPocket, hf, hg]

theorem rebuiltPocket_taker {x : Taker} (hf : s.fitted p = true) (hg : s.giverNaming p = none) (hk : s.takerTargeting p = some x) :
    rebuiltPocket s p = { (s.pocket p).restarted with state := .awaiting, contents := none, latch := .opened, target := some x.seek } := by
  simp [rebuiltPocket, hf, hg, hk]

theorem rebuiltPocket_unbound (hf : s.fitted p = true) (hg : s.giverNaming p = none) (hk : s.takerTargeting p = none) :
    rebuiltPocket s p = (s.pocket p).unbound (s.holdsStocked (s.pocket p)) := by
  simp [rebuiltPocket, hf, hg, hk]

/-- R47, R197: every pocket rebuilt is unverified, its hold flag kept. -/
theorem rebuiltPocket_verified (s : State) (p : PocketNo) :
    (rebuiltPocket s p).verified = false ∧ (rebuiltPocket s p).hold = (s.pocket p).hold := by
  have hgiver : ∀ (g : Giver) (k : Pocket), (k.withGiver g).verified = false ∧ (k.withGiver g).hold = k.hold := fun g k => by
    unfold Pocket.withGiver
    split <;> exact ⟨rfl, rfl⟩
  have hunbound : ∀ (b : Bool) (k : Pocket), (k.unbound b).verified = false ∧ (k.unbound b).hold = k.hold := fun b k => by
    unfold Pocket.unbound
    split
    · exact ⟨rfl, rfl⟩
    · split <;> exact ⟨rfl, rfl⟩
  unfold rebuiltPocket
  dsimp only
  split
  · exact ⟨rfl, rfl⟩
  · split
    · exact hgiver _ _
    · exact ⟨rfl, rfl⟩
    · exact hunbound _ _

theorem timerDue_of_none {k : Pocket} (h : k.timer = none) : k.timerDue = false := by
  simp [Pocket.timerDue, h]

theorem withGiver_timer (g : Giver) (k : Pocket) : (k.withGiver g).timer = none := by
  unfold Pocket.withGiver
  split <;> rfl

theorem unbound_timer {k : Pocket} (b : Bool) (h : b = true ∨ k.state ≠ .openForStock) : (k.unbound b).timer = none := by
  unfold Pocket.unbound
  split
  · rfl
  · next hb =>
    split
    · next hst => exact absurd hst (h.resolve_left hb)
    · rfl
    · rfl

/-! ### A pocket through the whole of RESTORING -/

/-- R194, R195: a pocket as its rebuild finds it. -/
def Pocket.Held (n : Nat) (k k' : Pocket) : Prop := ∃ d i m, k' = { k with
  readRequested := false, door := d, indicator := i, mark := m,
  timer := if k.timerRunning = true ∧ k.state ≠ .fault then k.timer.map (· - n) else k.timer }

theorem cleared_held (hb : s.Bounded) (hk : ∀ k ∈ s.cue.takers, k.state ≠ .seeking) (hp : p < 48) :
    (s.pocket p).Held (s.outage * 60) ((s.cleared r).settled.pocket p) := by
  obtain ⟨-, -, -, hcue, -⟩ := cleared_rest s r
  obtain ⟨-, -, hout, -⟩ := cleared_readings s r
  obtain ⟨d, i, hcl⟩ := cleared_pocket (r := r) (hb.pockets.symm ▸ hp : p < s.pkc.pockets.length)
  have hk' : ∀ k ∈ (s.cleared r).cue.takers, k.state ≠ .seeking := fun k hm => by
    rw [hcue] at hm
    obtain ⟨k₀, hk₀, rfl⟩ := List.mem_map.1 hm
    exact hk k₀ hk₀
  obtain ⟨m, i', hset⟩ := settled_pocket (cleared_bounded hb r) (by rw [hcue]) hk' hp
  refine ⟨d, i', m, ?_⟩
  rw [hset, hcl, hout, Pocket.pass]
  by_cases h : (s.pocket p).timerRunning = true ∧ (s.pocket p).state ≠ .fault
  · rw [if_pos (by simpa using h), if_pos h]
  · rw [if_neg (by simpa using h), if_neg h]

/-- R47: what the rebuild of a pocket that no transfer binds leaves, its tool not STOCKED here. -/
structure Pocket.Emptied (n : Nat) (k k' : Pocket) : Prop where
  contents : k'.contents = none
  openForStock : ∀ x, k.state = .openForStock → k.timerRunning = true → k.timer = some x → n < x →
    k'.state = .openForStock ∧ k'.latch = .opened ∧ k'.timer = some (x - n)
  checking : k.state = .checking → k.check = some .insert →
    k'.state = .checking ∧ k'.check = some .insert ∧ k'.latch = k.latch ∧ k'.readRequested = true
  others : k.state ≠ .openForStock → ¬(k.state = .checking ∧ k.check = some .insert) → k'.state = .empty ∧ k'.latch = .locked

theorem unbound_contents (k : Pocket) : (k.unbound false).contents = none := by
  simp only [Pocket.unbound, Bool.false_eq_true, if_false]
  split <;> rfl

theorem unbound_empty {k : Pocket} (hst : k.state ≠ .openForStock) (hnot : ¬(k.state = .checking ∧ k.check = some .insert)) :
    k.unbound false = { k.restarted with state := .empty, contents := none } := by
  simp only [Pocket.unbound, Bool.false_eq_true, if_false]
  split
  · next h => exact absurd h hst
  · next h1 h2 => exact absurd ⟨h1, h2⟩ hnot
  · rfl

theorem unbound_emptied {k a k' : Pocket} (ha : k.Held n a) (h : (a.unbound false).RebuiltAs k') : k.Emptied n k' := by
  have hempty : k.state ≠ .openForStock → ¬(k.state = .checking ∧ k.check = some .insert) →
      a.unbound false = { a.restarted with state := .empty, contents := none } := by
    obtain ⟨d, i, m, rfl⟩ := ha
    exact fun hst hnot => unbound_empty hst hnot
  obtain ⟨d, i, m, rfl⟩ := ha
  refine ⟨h.ends.contents (unbound_contents _), fun x hst hrun ht hx => ?openForStock, fun hst hc => ?checking, fun hst hnot => ?others⟩
  case openForStock =>
    have hne : x - n ≠ 0 := Nat.sub_ne_zero_of_lt hx
    have hm := h.marked (by simp [Pocket.unbound, hst, hrun, ht, Pocket.timerDue, hne])
    refine ⟨(hm.congr Pocket.state).trans ?_, (hm.congr Pocket.latch).trans ?_, (hm.congr Pocket.timer).trans ?_⟩ <;>
      simp [Pocket.unbound, hst, hrun, ht]
  case checking =>
    have hm := h.marked (timerDue_of_none (unbound_timer false (.inr (by simp [hst]))))
    refine ⟨(hm.congr Pocket.state).trans ?_, (hm.congr Pocket.check).trans ?_, (hm.congr Pocket.latch).trans ?_,
      (hm.congr Pocket.readRequested).trans ?_⟩ <;> simp [Pocket.unbound, hst, hc]
  case others =>
    have hm := h.marked (timerDue_of_none (unbound_timer false (.inr hst)))
    exact ⟨(hm.congr Pocket.state).trans (congrArg Pocket.state (hempty hst hnot)),
      (hm.congr Pocket.latch).trans (congrArg Pocket.latch (hempty hst hnot))⟩

theorem unbound_stocked {k a k' : Pocket} (ha : k.Held n a) (h : (a.unbound true).RebuiltAs k') :
    k'.state = .stocked ∧ k'.latch = .locked ∧ k'.openRelease = false ∧ k'.contents = k.contents := by
  obtain ⟨d, i, m, rfl⟩ := ha
  have hm := h.marked (timerDue_of_none (unbound_timer true (.inl rfl)))
  exact ⟨hm.congr Pocket.state, hm.congr Pocket.latch, hm.congr Pocket.openRelease, hm.congr Pocket.contents⟩

theorem withGiver_reserved {g : Giver} {k a k' : Pocket} (ha : k.Held n a) (h : (a.withGiver g).RebuiltAs k') : k'.contents = k.contents ∧
    (g.state = .offered → k'.state = .reserved ∧ k'.latch = .locked) ∧ (g.state = .releasing → k'.state = .releasing ∧ k'.latch = .opened) := by
  obtain ⟨d, i, m, rfl⟩ := ha
  have hm := h.marked (timerDue_of_none (withGiver_timer g _))
  refine ⟨(hm.congr Pocket.contents).trans ?_, fun hg => ⟨(hm.congr Pocket.state).trans ?_, (hm.congr Pocket.latch).trans ?_⟩,
    fun hg => ⟨(hm.congr Pocket.state).trans ?_, (hm.congr Pocket.latch).trans ?_⟩⟩
  · unfold Pocket.withGiver
    split <;> rfl
  all_goals simp [Pocket.withGiver, hg, Pocket.restarted]

/-! ### The transfers kept -/

/-- R194, R195: the transfers before the rebuild. -/
theorem cleared_transfers (hb : s.Bounded) (hk : ∀ k ∈ s.cue.takers, k.state ≠ .seeking) :
    (s.cleared r).settled.cue.givers = s.cue.givers.map (Giver.pass (s.outage * 60)) ∧
      (s.cleared r).settled.cue.takers = s.cue.takers.map (fun k => ({ k with offers := [] } : Taker).pass (s.outage * 60)) ∧
      (s.cleared r).settled.pkc.modules = (s.cleared r).pkc.modules ∧
      ∀ u, ((s.cleared r).settled.entry? u).map (·.custody) = (s.entry? u).map (·.custody) := by
  obtain ⟨htrg, -, -, hcue, -⟩ := cleared_rest s r
  obtain ⟨hent, -, hout, -⟩ := cleared_readings s r
  have hk' : ∀ k ∈ (s.cleared r).cue.takers, k.state ≠ .seeking := fun k hm => by
    rw [hcue] at hm
    obtain ⟨k₀, hk₀, rfl⟩ := List.mem_map.1 hm
    exact hk k₀ hk₀
  have hset := outage_settles (cleared_bounded hb r) (by rw [hcue]) hk'
  refine ⟨hset.givers.trans ?_, hset.takers.trans ?_, hset.ground.modules, fun u => ?_⟩
  · change (s.cleared r).cue.givers.map (Giver.pass ((s.cleared r).outage * 60)) = _
    rw [hout, hcue]
  · change (s.cleared r).cue.takers.map (Taker.pass ((s.cleared r).outage * 60)) = _
    rw [hout, hcue, List.map_map]
    rfl
  · rw [settled_custody (cleared_bounded hb r) (by rw [hcue]) hk', hent]

theorem giverNaming_map {f : Giver → Giver} (hf : ∀ g, (f g).pocket = g.pocket) (h : t.cue.givers = s.cue.givers.map f) (p : PocketNo) :
    t.giverNaming p = (s.giverNaming p).map f := by
  simp only [State.giverNaming, h, List.find?_map]
  refine congrArg (Option.map f) (congrArg (List.find? · _) (funext fun g => ?_))
  simp [hf]

theorem takerTargeting_map {f : Taker → Taker} (hf : ∀ k, (f k).pocket = k.pocket) (hs : ∀ k, (f k).targeting = k.targeting)
    (h : t.cue.takers = s.cue.takers.map f) (p : PocketNo) : t.takerTargeting p = (s.takerTargeting p).map f := by
  simp only [State.takerTargeting, h, List.find?_map]
  refine congrArg (Option.map f) (congrArg (List.find? · _) (funext fun k => ?_))
  simp [hf, hs]

theorem resumed_modules (hb : s.Bounded) : s.resumed.pkc.modules = s.settled.pkc.modules := by
  rw [resumed_eq, (tail_sound (pocketStep_bounded (settled_bounded hb)) _).modules, pocketStep_modules]

theorem giverMisfit_false {g : Giver} (h : ∀ q, g.pocket = some q → s.fitted q = true ∧ s.isMagazine q = false) : giverMisfit s g = false := by
  unfold giverMisfit
  split
  · next q _ hq => simp [h q hq]
  · next q _ hq => simp [h q hq]
  · rfl

/-- R47, R194: the transfers that fit the hunt and outlast the outage are kept. -/
theorem lastProbe_rebuilds (hr : s.stc.report = .held) (hb : s.Bounded) (hid : s.ownId = s.stc.recordedId)
    (hg : ∀ g ∈ s.cue.givers, (∀ x, g.timer = some x → 60 * s.outage < x) ∧
      ∀ q, g.pocket = some q → (restore (s.hunted r)).fitted q = true ∧ (restore (s.hunted r)).isMagazine q = false)
    (hk : ∀ k ∈ s.cue.takers, k.state ≠ .seeking ∧ 60 * s.outage < k.timer ∧ (restore (s.hunted r)).fitted k.pocket = true ∧
      (restore (s.hunted r)).isCrib k.pocket = false) : (s.cleared r).settled.Rebuilds (restore (s.hunted r)) := by
  obtain ⟨-, -, -, -, hown, hrec⟩ := cleared_readings s r
  have hbase := cleared_bounded hb r
  obtain ⟨hgivers, htakers, -⟩ := cleared_transfers (r := r) hb fun k hm => (hk k hm).1
  have hheld : restore (s.hunted r) = (s.cleared r).resumed.intoJoining := by
    rw [restore_held hr, restoreHeld_eq, stationIdStep, if_pos (by rw [hown, hrec, hid])]
  obtain ⟨-, hjc, -, hjm, hjp⟩ := intoJoining_parts (resumed_noFault hbase)
  have hmod : (restore (s.hunted r)).pkc.modules = (s.cleared r).settled.pkc.modules := by rw [hheld, hjm, resumed_modules hbase]
  have hfit : ∀ q, (restore (s.hunted r)).fitted q = (s.cleared r).settled.fitted q := fitted_of_modules hmod
  have hmag : ∀ q, (restore (s.hunted r)).isMagazine q = (s.cleared r).settled.isMagazine q := fun q => by
    rw [State.isMagazine, moduleOf_of_modules hmod, State.isMagazine]
  have hcrib : ∀ q, (restore (s.hunted r)).isCrib q = (s.cleared r).settled.isCrib q := fun q => by
    rw [State.isCrib, moduleOf_of_modules hmod, State.isCrib]
  simp only [hfit, hmag, hcrib] at hg hk
  have hres := resumed_rebuilds hbase ?gfits ?kfits ?gtimer ?ktimer
  case gfits =>
    intro g hm
    rw [hgivers] at hm
    obtain ⟨g₀, hg₀, rfl⟩ := List.mem_map.1 hm
    exact giverMisfit_false (hg g₀ hg₀).2
  case kfits =>
    intro k hm
    rw [htakers] at hm
    obtain ⟨k₀, hk₀, rfl⟩ := List.mem_map.1 hm
    obtain ⟨-, -, hf, hc⟩ := hk k₀ hk₀
    simp [takerMisfit, Taker.pass, hf, hc]
  case gtimer =>
    intro g hm
    rw [hgivers] at hm
    obtain ⟨g₀, hg₀, rfl⟩ := List.mem_map.1 hm
    intro hz
    obtain ⟨x, hx, hxz⟩ := Option.map_eq_some_iff.1 hz
    have hlt := (hg g₀ hg₀).1 x hx
    omega
  case ktimer =>
    intro k hm
    rw [htakers] at hm
    obtain ⟨k₀, hk₀, rfl⟩ := List.mem_map.1 hm
    have hlt := (hk k₀ hk₀).2.1
    change k₀.timer - s.outage * 60 ≠ 0
    omega
  rw [hheld]
  refine ⟨by rw [hjc, hres.givers], by rw [hjc, hres.takers], by rw [hjm, hres.modules], fun p hp => ?_⟩
  have h := hres.pockets p hp
  have hj := (hjp p).marked
  exact ⟨h.ends.trans hj.ends, fun hd => (h.marked hd).trans hj⟩

/-- R47: a pocket whose module the hunt does not find there. -/
theorem rebuilt_absent {k : Pocket} (ha : k.Held n (s.pocket p)) (hf : s.fitted p = false) (h : (rebuiltPocket s p).RebuiltAs (t.pocket p)) :
    (t.pocket p).state = .absent ∧ (t.pocket p).contents = k.contents := by
  obtain ⟨d, i, m, ha⟩ := ha
  rw [rebuiltPocket_unfitted hf, ha] at h
  have hm := h.marked (timerDue_of_none rfl)
  exact ⟨hm.congr Pocket.state, hm.congr Pocket.contents⟩

/-- R47: a pocket that a taker transfer targets. -/
theorem rebuilt_awaiting {x : Taker} (hf : s.fitted p = true) (hg : s.giverNaming p = none) (hk : s.takerTargeting p = some x)
    (h : (rebuiltPocket s p).RebuiltAs (t.pocket p)) : (t.pocket p).state = .awaiting ∧ (t.pocket p).latch = .opened ∧
      (t.pocket p).target = some x.seek ∧ (t.pocket p).contents = none := by
  rw [rebuiltPocket_taker hf hg hk] at h
  have hm := h.marked (timerDue_of_none rfl)
  exact ⟨hm.congr Pocket.state, hm.congr Pocket.latch, hm.congr Pocket.target, hm.congr Pocket.contents⟩

end Sys2Proof.Machine

/-! PROOFS. The probe that ends HUNTING, from its parts (O17). -/

namespace Sys2Proof.Machine

open Sys2Proof

variable {s : State} {r : Option ModuleReport}

/-- R47, R194: every pocket after RESTORING, by the transfer that binds it or by its contents. -/
theorem lastProbe_pocket (hb : s.Bounded) (hk : ∀ k ∈ s.cue.takers, k.state ≠ .seeking)
    (hreb : (s.cleared r).settled.Rebuilds (restore (s.hunted r))) {t : State} (ht : t = restore (s.hunted r)) {p : PocketNo} (hp : p < 48) :
    (t.pocket p).verified = false ∧ (t.pocket p).hold = (s.pocket p).hold ∧
    (t.fitted p = false → (t.pocket p).state = .absent ∧ (t.pocket p).contents = (s.pocket p).contents) ∧
    (t.fitted p = true →
      (∀ g, s.giverNaming p = some g → (t.pocket p).contents = (s.pocket p).contents ∧
        (g.state = .offered → (t.pocket p).state = .reserved ∧ (t.pocket p).latch = .locked) ∧
        (g.state = .releasing → (t.pocket p).state = .releasing ∧ (t.pocket p).latch = .opened)) ∧
      (∀ x, s.giverNaming p = none → s.takerTargeting p = some x →
        (t.pocket p).state = .awaiting ∧ (t.pocket p).latch = .opened ∧ (t.pocket p).target = some x.seek ∧ (t.pocket p).contents = none) ∧
      (s.giverNaming p = none → s.takerTargeting p = none →
        (s.holdsStocked (s.pocket p) = true → (t.pocket p).state = .stocked ∧ (t.pocket p).latch = .locked ∧
          (t.pocket p).openRelease = false ∧ (t.pocket p).contents = (s.pocket p).contents) ∧
        (s.holdsStocked (s.pocket p) = false → (s.pocket p).Emptied (s.outage * 60) (t.pocket p)))) := by
  obtain ⟨hgivers, htakers, -, hcust⟩ := cleared_transfers (r := r) hb hk
  have hheld := cleared_held (r := r) hb hk hp
  rw [← ht] at hreb
  have hpk := hreb.pockets p hp
  have hfit := fitted_of_modules hreb.modules p
  obtain ⟨hver, hhold⟩ := rebuiltPocket_verified (s.cleared r).settled p
  have hgn := giverNaming_map (f := Giver.pass (s.outage * 60)) (fun _ => rfl) hgivers p
  have htt := takerTargeting_map (f := fun k => ({ k with offers := [] } : Taker).pass (s.outage * 60)) (fun _ => rfl) (fun _ => rfl) htakers p
  have hstock : (s.cleared r).settled.holdsStocked ((s.cleared r).settled.pocket p) = s.holdsStocked (s.pocket p) := by
    rw [holdsStocked_of_custody hcust]
    obtain ⟨d, i, m, hk⟩ := hheld
    rw [hk]
    rfl
  refine ⟨hpk.ends.verified.trans hver, (hpk.ends.hold.trans hhold).trans ?hold, fun hf => ?absent,
    fun hf => ⟨fun g hg => ?giver, fun x hg hx => ?taker, fun hg hx => ⟨fun hs => ?stocked, fun hs => ?emptied⟩⟩⟩
  case hold =>
    obtain ⟨d, i, m, hk⟩ := hheld
    rw [hk]
  case absent => exact rebuilt_absent hheld (hfit ▸ hf) hpk
  case giver =>
    rw [hg, Option.map_some] at hgn
    rw [rebuiltPocket_giver (hfit ▸ hf) hgn] at hpk
    exact withGiver_reserved hheld hpk
  case taker =>
    rw [hg, Option.map_none] at hgn
    rw [hx, Option.map_some] at htt
    have h := rebuilt_awaiting (hfit ▸ hf) hgn htt hpk
    exact h
  case stocked =>
    rw [hg, Option.map_none] at hgn
    rw [hx, Option.map_none] at htt
    rw [rebuiltPocket_unbound (hfit ▸ hf) hgn htt, hstock, hs] at hpk
    exact unbound_stocked hheld hpk
  case emptied =>
    rw [hg, Option.map_none] at hgn
    rw [hx, Option.map_none] at htt
    rw [rebuiltPocket_unbound (hfit ▸ hf) hgn htt, hstock, hs] at hpk
    exact unbound_emptied hheld hpk

/-- Settles O17: the two ends of RESTORING, with the memory failed (`lastProbe_failed`) and with the memory held, its register
(`lastProbe_register`, `lastProbe_moved`) and its transfers and pockets (`lastProbe_rebuilds`, `lastProbe_withdrawing`). -/
theorem huntEndsInJoining : Obligations.HuntEndsInJoining := by
  intro r s hpow hnode h5
  obtain ⟨hstc, hlatch, hlow, hcck⟩ := lastProbe_cck_stc s r
  refine ⟨restore (s.hunted r), exec_lastProbe hpow hnode h5, hstc, hlatch, hlow, hcck, fun hr => ?failed, fun n hr hb hid hn => ?same,
    fun n hr hb hid hn => ?other⟩
  case failed =>
    obtain ⟨t, ht, h⟩ := lastProbe_failed (r := r) hr
    rw [ht]
    exact h
  case same =>
    obtain rfl : n = s.outage := hn
    refine ⟨fun hg hk hw hgauge => ?register, fun hg hk => ?transfers⟩
    case register =>
      obtain ⟨hheard, hchecks, hstamp, hent⟩ := lastProbe_register (r := r) hr hb hid hg hk hw hgauge
      refine ⟨hheard, hchecks, hstamp, fun u hu => by rw [hent, hu]; rfl, fun u e he => ?_⟩
      obtain ⟨out, lost, hout, hlost, heq⟩ := restored_eq (s.fullLife e.kind) s.outage e
      exact ⟨_, out, lost, by rw [hent, he]; rfl, hout, hlost, heq⟩
    case transfers =>
      have hreb := lastProbe_rebuilds hr hb hid hg hk
      have hseek : ∀ k ∈ s.cue.takers, k.state ≠ .seeking := fun k hm => (hk k hm).1
      obtain ⟨hgivers, htakers, -⟩ := cleared_transfers (r := r) hb hseek
      have hcomm : s.outage * 60 = 60 * s.outage := Nat.mul_comm _ _
      refine ⟨?givers, ?takers, fun p k hp hkp => ?pocket⟩
      case givers => rw [hreb.givers, hgivers, hcomm]; rfl
      case takers => rw [hreb.takers, htakers, hcomm]; rfl
      case pocket =>
        subst hkp
        obtain ⟨hver, hhold, habsent, hfitted⟩ := lastProbe_pocket hb hseek hreb rfl hp
        rw [hcomm] at hfitted
        refine ⟨hver, hhold, habsent, fun hf => ?_⟩
        obtain ⟨hgiver, htaker, hfree⟩ := hfitted hf
        refine ⟨hgiver, htaker, fun hg hx => ⟨(hfree hg hx).1, fun hs => ?_⟩⟩
        have hemp := (hfree hg hx).2 hs
        exact ⟨hemp.contents, hemp.openForStock, hemp.checking, hemp.others⟩
  case other =>
    obtain rfl : n = s.outage := hn
    have hwd := lastProbe_withdrawing (r := r) hr hb hid
    refine ⟨hwd.takers, hwd.givers, fun hg hk hw hgauge u e he => ?_⟩
    obtain ⟨hgone, hstays, hrenamed⟩ := lastProbe_moved (r := r) hr hb hid hg hk hw hgauge he
    refine ⟨hgone, fun hf hs => ?stays, fun hh => ?renamed⟩
    case stays =>
      rw [hstays hf hs, restored_foreign _ _ hf]
    case renamed =>
      obtain ⟨hent, hrec⟩ := hrenamed hh
      obtain ⟨out, lost, hout, hlost, heq⟩ := restored_eq (s.fullLife e.kind) s.outage { e with custodian := s.ownId, version := e.version + 1 }
      exact ⟨_, out, lost, hent, hout.trans (and_iff_right hh), hlost, heq, hrec⟩

end Sys2Proof.Machine
